-- ==== Sys2Proof/Word.lean ====
section
/-! DEFINITION. The word types of the FL-64 model and their plainest arithmetic: bytes of frames, 24-bit encoder
positions (00 section 5.1), 32-bit clocks (R1), and tables of a fixed number of like things. -/

namespace Sys2Proof

/-- A byte of a frame, of the Dispatch Port or of a link character. -/
abbrev Byte := BitVec 8

/-- An encoder position or a point on an encoder counter: 24 bits, wrapping (00 section 5.1). -/
abbrev Pos := BitVec 24

/-- A reading of the millisecond clock or of the microsecond timer: 32 bits, wrapping (R1). -/
abbrev Clock := BitVec 32

/-- The difference of two positions, read as signed in −8,388,608 to 8,388,607 (00 section 5.1). -/
def signedDiff (a b : Pos) : Int := (a - b).toInt

/-- `x` held to the range `lo` to `hi` (00 section 5.2). -/
def clampNat (lo hi x : Nat) : Nat := if x < lo then lo else if hi < x then hi else x

/-- The number after `n` in a sequence that runs 1 to 65,535 and never offers 0 (R22, R128). -/
def nextNumber (n : Nat) : Nat := if 65535 ≤ n then 1 else n + 1

/-- The table `v` with its entry `i` changed by `f`. -/
def modifyAt {α : Type} {n : Nat} (v : Vector α n) (i : Fin n) (f : α → α) : Vector α n :=
  v.set i (f v[i])

/-- The table `v` with every entry changed by `f`. -/
def mapTable {α β : Type} {n : Nat} (f : α → β) (v : Vector α n) : Vector β n :=
  ⟨⟨v.toList.map f⟩, by simp⟩

/-- The numbers below `n`, rising. -/
def indices : (n : Nat) → List (Fin n)
  | 0 => []
  | n + 1 => (indices n).map Fin.castSucc ++ [Fin.last n]

/-- The order in which `n` simultaneous pieces are taken: as `given`, and then those it does not name, rising.
Whatever list is given, each piece is taken once. -/
def fullOrder (n : Nat) (given : List (Fin n)) : List (Fin n) :=
  given.eraseDups ++ (indices n).filter (fun i => !given.contains i)

end Sys2Proof
end

