-- ==== Sys2Proof/Syntax.lean ====
section
/-! DEFINITION. The commands of the FL-64: one constructor of `Instr` per row of spec/opcode_table.json, in the table's
order, with the operands the owning rule gives the row. Numbers keep the byte widths of the frames (R210, R212), so that
a value outside its range can be sent and is refused or clamped by the meaning. -/

namespace Sys2Proof

/-- The two encoder units (01 section 1.4). -/
inductive EncUnit where
  | inf | ch
  deriving DecidableEq, Repr

/-- The three time pulses (R119). -/
inductive TimePulse where
  | gate | kick | eject
  deriving DecidableEq, Repr

/-- What an ENCODER_COUNT leaves to chance (R12, R13, R115): the order in which outputs whose points the count reaches
are dealt with, and the order of those points (0), the turn-to-reverse notice (1) and the reverse event (2). Outputs and
pieces not named come after those named, rising (log 5). -/
structure CountOrder where
  outputs : List (Fin 24)
  pieces  : List (Fin 3)
  deriving DecidableEq, Repr

/-- A part of the work of an advance that follows its presence check: the saw's piece (0) or a lane's (lane + 1), whose
arming it hands to the Scheduler (R87); or a count of CH that comes between the advance and the arrival of armings made at
it, the pair of CH now reading `a`, `b` (R115). -/
inductive AdvancePart where
  | piece (k : Fin 9)
  | count (a b : Bool) (order : CountOrder)
  deriving DecidableEq, Repr

/-- What a SAMPLE_TICK leaves to chance (R2, R87, R115): the order in which edges of one tick reach their consumers, and
the order in which the pieces of an advance, and the counts of CH that fall among them, are taken. Pieces not named come
after what is named, rising (log 5, log 38). -/
structure TickOrder where
  channels : List (Fin 6)
  parts    : List AdvancePart
  deriving DecidableEq, Repr

/-- What every command frame carries beside its code and arguments (R201, R210): its SEQ, and how many padding bytes the
host clocks after it. -/
structure Xfer where
  seq : Byte
  pad : Nat
  deriving DecidableEq, Repr

/-- A character received on LRX (R173): its byte, and whether its stop bit read low. -/
structure Character where
  byte    : Byte
  framing : Bool
  deriving DecidableEq, Repr

/-- How a reply reached the part: absent, as its sender's frame of R212; present, as the characters that stand in its
place, spoiled, cut short or of no frame (R176, log 15). -/
abbrev Wire := Option (List Character)

/-- A reply's arrival on the Station Link: the address of its sender (R212), and how it reached the part. -/
structure Arrival where
  addr : Byte
  wire : Wire
  deriving DecidableEq, Repr

/-- What every reply with a request carries: its arrival, and REQ_ID (R212). -/
structure Reply extends Arrival where
  reqId : Byte
  deriving DecidableEq, Repr

inductive Instr where
  /-- SAMPLE_TICK (R2). Bit i of `raw` is the raw line SIi, asserted read as BLOCKED. -/
  | sampleTick (raw : BitVec 6) (order : TickOrder)
  /-- JAM_TIMER_EXPIRY (R9) of a channel. -/
  | jamTimerExpiry (channel : Fin 6)
  /-- ENCODER_COUNT (R11): the pair of a unit now reads `a`, `b`. -/
  | encoderCount (unit : EncUnit) (a b : Bool) (order : CountOrder)
  /-- SPEED_STALL_TIMEOUT (R17). -/
  | speedStallTimeout
  /-- TIME_PULSE_EXPIRY (R119). -/
  | timePulseExpiry (output : TimePulse)
  /-- GAP_TIMER_EXPIRY (R74). -/
  | gapTimerExpiry
  /-- MOULDER_TRANSIT_EXPIRY (R78). -/
  | moulderTransitExpiry
  /-- EVALUATION_START (R47). -/
  | evaluationStart
  /-- EVALUATION_COMPLETION (R48). -/
  | evaluationCompletion
  /-- DROP_WATCH_EXPIRY (R143) on a lane. -/
  | dropWatchExpiry (lane : Fin 8)
  /-- STROBE_END (R160). -/
  | strobeEnd
  /-- PBUSY_CHANGE (R160): PBUSY now reads `high`. -/
  | pbusyChange (high : Bool)
  /-- PFAULT_CHANGE (R162): PFAULT now reads `asserted`. -/
  | pfaultChange (asserted : Bool)
  /-- HANDSHAKE_TIMEOUT (R163). -/
  | handshakeTimeout
  /-- POLL_SENT (R175). -/
  | pollSent
  /-- IDLE_REPLY (R176). -/
  | idleReply (arrival : Arrival)
  /-- REPLY_TIMER_EXPIRY (R177). -/
  | replyTimerExpiry
  /-- QUERY_AT (R179). -/
  | queryAt (reply : Reply)
  /-- QUERY_TICKET (R180). -/
  | queryTicket (reply : Reply) (ticket : BitVec 16)
  /-- SCAN_REPORT (R43): its argument bytes, ticket (2), THICKNESS (1), entry count (1) and the entry bytes (R212). -/
  | scanReport (reply : Reply) (args : List Byte)
  /-- GRADE_OVERRIDE (R63). -/
  | gradeOverride (reply : Reply) (ticket : BitVec 16) (value : Byte)
  /-- DROP_SEEN (R142). -/
  | dropSeen (reply : Reply) (lane : Byte)
  /-- BUNDLE_CLEARED (R144). -/
  | bundleCleared (reply : Reply) (lane : Byte)
  /-- TRANSACTION_BEGIN (R201): SS falls. -/
  | transactionBegin
  /-- EMPTY_TRANSACTION (R201): SS rises after fewer than eight clocks. -/
  | emptyTransaction (clocks : Fin 8)
  /-- BAD_FRAME (R202): SS rises after the bytes `mosi`, whose frame fails one of checks 1 to 3. -/
  | badFrame (mosi : List Byte)
  /-- RESET_ASSERT (R204). -/
  | resetAssert
  /-- POWER_ON_RESET (R204): the RESET line is released. -/
  | powerOnReset
  /-- NOP (R203). -/
  | nop (x : Xfer)
  /-- LINE_START (R188). -/
  | lineStart (x : Xfer)
  /-- LINE_HOLD (R189). -/
  | lineHold (x : Xfer)
  /-- LINE_STOP (R189). -/
  | lineStop (x : Xfer)
  /-- FAULT_ACK (R190). -/
  | faultAck (x : Xfer)
  /-- SOFT_RESET (R205). -/
  | softReset (x : Xfer)
  /-- TRACK_CLEAR (R206). -/
  | trackClear (x : Xfer)
  /-- SET_PARAM (R207). -/
  | setParam (x : Xfer) (code : Byte) (value : BitVec 32)
  /-- GET_PARAM (R208). -/
  | getParam (x : Xfer) (code : Byte)
  /-- SET_GRADE (R50). -/
  | setGrade (x : Xfer) (row enabled : Byte) (maxDensity : BitVec 16) (maxSize : Vector Byte 8) (price : Byte)
  /-- GET_GRADE (R50). -/
  | getGrade (x : Xfer) (row : Byte)
  /-- SET_WEIGHTS (R51). -/
  | setWeights (x : Xfer) (weights : Vector Byte 8)
  /-- SET_SAW_MAP (R52): the count and the position bytes that follow it. -/
  | setSawMap (x : Xfer) (count : Byte) (bytes : List Byte)
  /-- SET_LANE (R125). -/
  | setLane (x : Xfer) (lane kind dropOffset grade : Byte) (minK maxK : BitVec 16) (alternate : Byte)
      (target : BitVec 16) (maxStrips : Byte) (shortMm : BitVec 16) (mixPct : Byte)
  /-- GET_LANE (R148). -/
  | getLane (x : Xfer) (lane : Byte)
  /-- SET_FILTER (R7). -/
  | setFilter (x : Xfer) (channel mode : Byte) (threshold jamMs : BitVec 16)
  /-- SET_LOT (R39). -/
  | setLot (x : Xfer) (lot : BitVec 16) (species : Byte)
  /-- SET_STATION (R174). -/
  | setStation (x : Xfer) (address role : Byte) (stationPos : BitVec 16)
  /-- CLEAR_GLITCH (R6). -/
  | clearGlitch (x : Xfer) (channel : Byte)
  /-- READ_STRIP (R36). -/
  | readStrip (x : Xfer) (ticket : BitVec 16)
  /-- LIST_QUEUE (R37). -/
  | listQueue (x : Xfer) (place : Byte)
  /-- READ_LUG (R103). -/
  | readLug (x : Xfer) (lug : Byte)
  /-- REGRADE (R63). -/
  | regrade (x : Xfer) (ticket : BitVec 16) (value : Byte)
  /-- PURGE (R38). -/
  | purge (x : Xfer) (ticket : BitVec 16)
  /-- EJECT_HEAD (R76). -/
  | ejectHead (x : Xfer)
  /-- SET_TOOL (R65). -/
  | setTool (x : Xfer) (set profile width : Byte) (life : BitVec 16) (warnPct : Byte)
  /-- READ_TOOL (R83). -/
  | readTool (x : Xfer) (set : Byte)
  /-- CHANGE_TOOLS (R69). -/
  | changeTools (x : Xfer) (set : Byte)
  /-- CANCEL_CHANGE (R71). -/
  | cancelChange (x : Xfer)
  /-- RESET_WEAR (R68). -/
  | resetWear (x : Xfer) (set : Byte)
  /-- READ_BUNDLE (R148). -/
  | readBundle (x : Xfer) (lane : Byte)
  /-- FORCE_CLOSE (R138). -/
  | forceClose (x : Xfer) (lane : Byte)
  /-- LANE_ENABLE (R126, R127): ON is 0 and OFF is 1 (R211, log 9). -/
  | laneEnable (x : Xfer) (lane value : Byte)
  /-- CONFIRM_CLEAR (R144). -/
  | confirmClear (x : Xfer) (lane : Byte)
  /-- READ_LABEL (R171). -/
  | readLabel (x : Xfer) (lane : Byte)
  /-- LABEL_RETRY (R165). -/
  | labelRetry (x : Xfer) (lane : Byte)
  /-- LABEL_DISCARD (R166). -/
  | labelDiscard (x : Xfer) (lane : Byte)
  /-- PORT_MODE (R167). -/
  | portMode (x : Xfer) (mode : Byte)
  /-- PORT_WRITE (R168): the count and the entry bytes that follow it, a tag and a byte each. -/
  | portWrite (x : Xfer) (count : Byte) (bytes : List Byte)
  /-- PORT_STATUS (R171). -/
  | portStatus (x : Xfer)
  /-- READ_EVENTS (R199). -/
  | readEvents (x : Xfer)
  /-- CLEAR_EVENTS (R198): the count and the kind bytes that follow it. -/
  | clearEvents (x : Xfer) (count : Byte) (bytes : List Byte)
  /-- SET_EVENT_ROUTE (R196). -/
  | setEventRoute (x : Xfer) (kind route masked severity : Byte)
  /-- SET_ESCALATION (R197): ENABLED is 0 and DISABLED is 1 (R211, log 9). -/
  | setEscalation (x : Xfer) (value : Byte)
  /-- SET_OUTPUTS (R121): the set count, and the bytes that follow it: the set list, the clear count, the clear list. -/
  | setOutputs (x : Xfer) (setCount : Byte) (bytes : List Byte)
  /-- READ_IO (R20, R123). -/
  | readIo (x : Xfer)
  /-- STATION_ENABLE (R183, R184): ON is 0 and OFF is 1 (R211, log 9). -/
  | stationEnable (x : Xfer) (address value : Byte)
  /-- READ_STATION (R186). -/
  | readStation (x : Xfer) (address : Byte)
  /-- UNKNOWN_REQUEST (R178): a request whose kind is none of the six. -/
  | unknownRequest (reply : Reply) (kind : Byte) (args : List Byte)
  deriving DecidableEq, Repr

end Sys2Proof
end

