-- ==== Sys2Proof/Config.lean ====
section
/-! DEFINITION. What the part fixes once for all (capacities, 00 section 2.1) and the one free value of the model. -/

namespace Sys2Proof

/-- The capacity of the infeed queue (R25). -/
def Config.infeedCapacity : Nat := 16

/-- The capacity of a drop watch list (R141). -/
def Config.watchCapacity : Nat := 4

/-- The capacity of the Dispatch Port's FIFO (08 section 8.3). -/
def Config.fifoCapacity : Nat := 32

/-- The forward counts the speed monitor keeps (R16). -/
def Config.speedHistory : Nat := 65

/-- The stall time of the speed monitor, in ms (R17). -/
def Config.stallMs : Nat := 500

/-- The longest an evaluation takes, in µs (R48). -/
def Config.evaluationUs : Nat := 200

/-- The upper end of EXCURSION (R12). -/
def Config.excursionMax : Nat := 8388607

/-- The upper end of USED, in mm (R67). -/
def Config.usedMax : Nat := 99999999

/-- The upper end of LENGTH, in mm (R29). -/
def Config.lengthMax : Nat := 4095

/-- The most argument bytes a command frame holds: LENGTH is at most 36 and counts SEQ, the command code and the CRC
beside them (R210). -/
def Config.maxArgs : Nat := 33

/-- FREE VALUE (log 11). Which of the four refusals of R43 answers a SCAN_REPORT whose argument bytes are too few to
name a ticket: the spec states none. Applied to the count of free values read so far. -/
opaque Config.shortReport : Nat → Fin 4

end Sys2Proof
end

