-- ==== Sys2Proof/Machine/State.lean ====
section
/-! DEFINITION. The state of the FL-64 as plain data: every register, queue, table, timer, flag and pin of the spec
(INVENTORY.md, '## State'), the queue of waiting commands, and the state after reset. -/

namespace Sys2Proof.Machine

open Sys2Proof

/-! ### Sensing inputs and encoders (01) -/

/-- A raw or filtered level (01 section 1.1). -/
inductive Level where
  | blocked | clear
  deriving DecidableEq, Repr

/-- MODE of a filter channel (01 section 1.2). -/
inductive FilterMode where
  | delayed | immediate | bypass
  deriving DecidableEq, Repr

/-- JAM_STATE (R9); a running timer with the ms left. -/
inductive JamState where
  | clear
  | timing (msLeft : Nat)
  | jammed
  deriving DecidableEq, Repr

/-- The jam monitor of a channel: JAM_MS and JAM_STATE (R9, R10). -/
structure Jam where
  limitMs : Nat
  state   : JamState
  deriving DecidableEq, Repr

/-- A filter channel (01 section 1.2). `jam` is absent on SI4, which has no monitor. -/
structure Channel where
  mode       : FilterMode
  threshold  : Nat
  counter    : Nat
  sample     : Level
  prevSample : Level
  level      : Level
  glitch     : Bool
  jam        : Option Jam
  deriving DecidableEq, Repr

/-- DIRECTION of an encoder unit (R11). -/
inductive Direction where
  | forward | reverse
  deriving DecidableEq, Repr

/-- An encoder unit (01 section 1.4); `pairA`, `pairB` are the reference pair. -/
structure Encoder where
  position        : Pos
  direction       : Direction
  excursion       : Nat
  reverseReported : Bool
  pairA           : Bool
  pairB           : Bool
  deriving DecidableEq, Repr

/-! ### Strip records and plans (02, 03) -/

/-- STAGE of a strip record (02 section 2.1). -/
inductive Stage where
  | measuring | infeed | waiting | inMoulder | atTransfer | onLug
  deriving DecidableEq, Repr

/-- KIND of a defect entry (03 section 3.1). -/
inductive DefectKind where
  | soundKnot | looseKnot | split | wane | stain | pith | resinPocket | colourStreak
  deriving DecidableEq, Repr

/-- A defect entry (03 section 3.1). -/
structure Defect where
  kind  : DefectKind
  start : Nat
  stop  : Nat
  size  : Nat
  deriving DecidableEq, Repr

/-- A grade 1 to 6, held as 0 to 5; the smaller is the better. -/
abbrev Grade := Fin 6

/-- COMPUTED_GRADE (02 section 2.1). -/
inductive ComputedGrade where
  | grade (g : Grade)
  | reject
  deriving DecidableEq, Repr

/-- MANUAL_GRADE (02 section 2.1). -/
inductive ManualGrade where
  | grade (g : Grade)
  | hold
  | reject
  deriving DecidableEq, Repr

/-- DISPOSITION (02 section 2.1). -/
inductive Disposition where
  | graded (g : Grade)
  | hold
  | trimOut
  | rejected
  deriving DecidableEq, Repr

/-- What a DONE plan carries (02 section 2.1). -/
inductive PlanKind where
  | default | computed
  deriving DecidableEq, Repr

/-- PLAN (02 section 2.1). -/
inductive Plan where
  | none | pending | running
  | done (kind : PlanKind)
  deriving DecidableEq, Repr

/-- A strip record (02 section 2.1). -/
structure Strip where
  ticket        : Nat
  stage         : Stage
  lot           : Nat
  species       : Nat
  leadPos       : Option Pos
  length        : Option Nat
  doubt         : Bool
  thickness     : Option Nat
  defects       : Option (List Defect)
  reportFrom    : Option (Fin 4)
  plan          : Plan
  saw           : Option (Fin 16)
  kept          : Option Nat
  computedGrade : Option ComputedGrade
  manualGrade   : Option ManualGrade
  disposition   : Option Disposition
  toolSet       : Option (Fin 4)
  wornAtRelease : Option Bool
  width         : Option Nat
  lug           : Option (Fin 40)
  missedCut     : Bool
  deriving DecidableEq, Repr

/-- Why a record is retired (R24). -/
inductive RetireReason where
  | committed | carryover | lostMoulder | lostTransfer | lostAtSaw | ejected | purged | trackCleared
  deriving DecidableEq, Repr

/-- PATH of an evaluation (R47). -/
inductive PlanPath where
  | default | manual | computed
  deriving DecidableEq, Repr

/-- The plan fields a plan writes into a record (R48). -/
structure PlanResult where
  saw           : Option (Fin 16)
  kept          : Nat
  computedGrade : Option ComputedGrade
  disposition   : Disposition
  deriving DecidableEq, Repr

/-- The evaluation in progress (03 section 3.2): CURRENT, PATH, DISCARD, the input copy of R47, and the µs at its start
(R48). ENGINE_STATE is EVALUATING exactly while there is one. -/
structure Evaluation where
  current     : Nat
  path        : PlanPath
  discard     : Bool
  length      : Option Nat
  defects     : List Defect
  doubt       : Bool
  manualGrade : Option ManualGrade
  weights     : Vector Nat 8
  fenceTrim   : Nat
  farMargin   : Nat
  endZone     : Nat
  minKept     : Nat
  startUs     : Clock
  deriving DecidableEq, Repr

/-- A row of the grade rule table (R50). -/
structure GradeRow where
  enabled    : Bool
  maxDensity : Nat
  maxSize    : Vector Nat 8
  price      : Nat
  deriving DecidableEq, Repr

/-! ### Moulder (04) -/

/-- STATE of a tool set (04 section 4.1). -/
inductive ToolState where
  | unmounted | mounted | worn | exhausted
  deriving DecidableEq, Repr

/-- A tool set record (04 section 4.1). -/
structure Tool where
  configured : Bool
  profile    : Nat
  width      : Nat
  life       : Nat
  warnPct    : Nat
  used       : Nat
  state      : ToolState
  deriving DecidableEq, Repr

/-- An entry of the moulder queue (R77). -/
structure MoulderEntry where
  ticket : Nat
  age    : Nat
  deriving DecidableEq, Repr

/-- The reason the gate reports (R72). -/
inductive HoldReason where
  | line | noHead | plan | noTool | exhausted | change | profile | full | gap
  deriving DecidableEq, Repr

/-! ### Chain and actuators (05, 06) -/

/-- An entry of the lug table (05 section 5.1). -/
structure Lug where
  ticket  : Option Nat
  sawDone : Bool
  deriving DecidableEq, Repr

/-- A pulse (06 section 6.1); `lane` is present on a pusher's pulse. -/
structure Pulse where
  lug    : Fin 40
  ticket : Nat
  lane   : Option (Fin 8)
  lead   : Nat
  setAt   : Pos
  clearAt : Pos
  deriving DecidableEq, Repr

/-- STATE of a counted output (06 section 6.1). -/
inductive OutState where
  | idle | armed | on
  deriving DecidableEq, Repr

/-- What a count or an arming finds due on a counted output: the set point of its ARMED pulse (R109, R110), the set point
of NEXT while it is ON (R113), the clear point of its ON pulse (R111). -/
inductive Point where
  | setPoint | mergePoint | clearPoint
  deriving DecidableEq, Repr

/-- A counted output (06 section 6.1); `waiting` is NEXT, `forced` is set for FORCED ON. -/
structure CountedOut where
  state   : OutState
  active  : Option Pulse
  waiting : Option Pulse
  forced  : Bool
  deriving DecidableEq, Repr

/-- GATE, KICK or EJECT (R119); `on` is set for level ON. -/
structure PulseOut where
  on     : Bool
  msLeft : Nat
  forced : Bool
  deriving DecidableEq, Repr

/-! ### Lanes and bundles (07) -/

/-- KIND of a lane (07 section 7.1). -/
inductive LaneKind where
  | unused | bundle | holdBin | rejectBin
  deriving DecidableEq, Repr

/-- STATE of a lane (07 section 7.1). -/
inductive LaneState where
  | disabled | opened | closed
  deriving DecidableEq, Repr

/-- CLOSE_REASON (07 section 7.2). -/
inductive CloseReason where
  | target | count | forced
  deriving DecidableEq, Repr

/-- A bundle record (07 section 7.2). -/
structure Bundle where
  number      : Nat
  grade       : Grade
  lot         : Option Nat
  species     : Option Nat
  width       : Option Nat
  count       : Nat
  coverage    : Nat
  short       : Nat
  histogram   : Vector Nat 16
  targetCopy  : Nat
  mixCopy     : Nat
  shortCopy   : Nat
  doubtful    : Bool
  closeReason : Option CloseReason
  labelDone   : Bool
  cleared     : Bool
  deriving DecidableEq, Repr

/-- An entry of a drop watch list (07 section 7.6). -/
structure Watch where
  fireTime : Clock
  bundle   : Option Nat
  deriving DecidableEq, Repr

/-- A lane record (07 section 7.1), with its bundle and its drop watch list. -/
structure Lane where
  kind       : LaneKind
  enabled    : Bool
  dropOffset : Nat
  grade      : Grade
  minK       : Nat
  maxK       : Nat
  alternate  : Option (Fin 8)
  target     : Nat
  maxStrips  : Nat
  shortMm    : Nat
  mixPct     : Nat
  state      : LaneState
  binCount   : Nat
  bundle     : Option Bundle
  watch      : List Watch
  deriving DecidableEq, Repr

/-! ### Labels and the Dispatch Port (08) -/

/-- STATE of a label (R150). -/
inductive LabelState where
  | queued | printing | printed | failed
  deriving DecidableEq, Repr

/-- A label record (R150); `lengths` holds pairs of a length and a count. -/
structure Label where
  lane        : Fin 8
  number      : Nat
  lot         : Nat
  species     : Nat
  grade       : Grade
  width       : Nat
  count       : Nat
  coverage    : Nat
  lengths     : List (Nat × Nat)
  doubtful    : Bool
  closeReason : CloseReason
  state       : LabelState
  tries       : Nat
  deriving DecidableEq, Repr

/-- A tagged byte of the FIFO (R213); `command` is set for the tag COMMAND. -/
structure Entry where
  command : Bool
  byte    : Byte
  deriving DecidableEq, Repr

/-- MODE of the Dispatch Port (08 section 8.3). -/
inductive PortMode where
  | off | direct | stream
  deriving DecidableEq, Repr

/-- HANDSHAKE (08 section 8.3). -/
inductive Handshake where
  | idle | readyWait | strobe | ackWait | doneWait
  deriving DecidableEq, Repr

/-- The Dispatch Port (08 section 8.3). `timer` is the ms left while TIMER is RUNNING; `strobeLeft` the µs left of a
strobe; `pd`, `ptag`, `pstb` the driven pins; `pbusy`, `pfault` the input pins. -/
structure Port where
  mode       : PortMode
  fifo       : List Entry
  handshake  : Handshake
  ackSeen    : Bool
  fallSeen   : Bool
  timer      : Option Nat
  held       : Bool
  strobeLeft : Nat
  pstb       : Bool
  pd         : Byte
  ptag       : Bool
  pbusy      : Bool
  pfault     : Bool
  deriving DecidableEq, Repr

/-! ### Station Link (09) -/

/-- ROLE of a station (09 section 9.2). -/
inductive Role where
  | scanner | grader | stacker
  deriving DecidableEq, Repr

/-- STATE of a station (09 section 9.2). -/
inductive StationState where
  | disabled | online | offline
  deriving DecidableEq, Repr

/-- A named result of a request (R212). -/
inductive Result where
  | found | none | notFound | taken | tooLate | already | badReport | badValue | extra | wrongState | notPermitted
  | unknown
  deriving DecidableEq, Repr

/-- An answer (09 section 9.2): the request kind's code, REQ_ID, the result and its data. -/
structure Answer where
  kind   : Byte
  reqId  : Byte
  result : Result
  data   : List Byte
  deriving DecidableEq, Repr

/-- A request of a station: its kind and its arguments (R178, R212). A SCAN_REPORT holds its argument bytes, which R43
checks; `unknown` is a kind that is none of the six. -/
inductive Request where
  | queryAt
  | queryTicket (ticket : BitVec 16)
  | scanReport (args : List Byte)
  | gradeOverride (ticket : BitVec 16) (value : Byte)
  | dropSeen (lane : Byte)
  | bundleCleared (lane : Byte)
  | unknown (kind : Byte) (args : List Byte)
  deriving DecidableEq, Repr

/-- What a reply says: IDLE, or a request with its REQ_ID (09 section 9.1). -/
inductive ReplyBody where
  | idle
  | request (reqId : Byte) (request : Request)
  deriving DecidableEq, Repr

/-- What the characters collected in a reply window amount to (R176). -/
inductive Reception where
  | incomplete
  | bad
  | good (body : ReplyBody)
  deriving DecidableEq, Repr

/-- A station record (09 section 9.2). Address a is entry a − 1 of the table. -/
structure Station where
  role          : Role
  stationPos    : Nat
  state         : StationState
  misses        : Nat
  pendingAnswer : Option Answer
  lastReqId     : Option Byte
  lastAnswer    : Option Answer
  deriving DecidableEq, Repr

/-- TRANSACTION (09 section 9.3). SENDING holds the rate and the bytes of the POLL frame, whether it carries an answer,
and whether the poll was abandoned (R184); WAITING whether the POLL carried an answer, and the characters collected in the
window so far (R175, R176). -/
inductive Transaction where
  | idle
  | sending (station : Fin 4) (baud : Nat) (frame : List Byte) (carried abandoned : Bool)
  | waiting (station : Fin 4) (carried : Bool) (received : List Character)
  deriving DecidableEq, Repr

/-! ### Line control (10) -/

/-- LINE_STATE (10 section 10.1). -/
inductive LineState where
  | stopped | running | hold | faultStop
  deriving DecidableEq, Repr

/-- SEVERITY (10 section 10.2). -/
inductive Severity where
  | note | hold | stop
  deriving DecidableEq, Repr

/-- ROUTE (10 section 10.2). -/
inductive Route where
  | attn0 | attn1
  deriving DecidableEq, Repr

/-- The 32 event kinds, in the order of their codes (R211). -/
inductive EventKind where
  | overrun | phantomGate | jam0 | jam1 | jam2 | jam3 | jam5 | infeedReverse | chainReverse | profileMismatch | toolWorn
  | toolExhausted | toolChanged | phantomMoulder | lostMoulder | lostTransfer | lostAtSaw | carryover | pitchFault
  | phantomLug | phantomAtSaw | lateFire | missedActuation | divertSuppressed | missedDrop | extraDrop | bundleClosed
  | labelFailed | portTimeout | printerFault | fifoLow | stationOffline
  deriving DecidableEq, Repr

/-- What Line Control holds for an event kind (10 section 10.2). -/
structure EventItem where
  flag     : Bool
  route    : Route
  masked   : Bool
  severity : Severity
  deriving DecidableEq, Repr

/-- LAST_ESCALATION (R194). -/
structure Escalation where
  kind  : EventKind
  before : LineState
  after : LineState
  time  : Clock
  deriving DecidableEq, Repr

/-! ### Command Port (11) -/

/-- A status of a response (R211). -/
inductive Status where
  | ok | okClamped | badFrame | unknownCommand | badArgument | notFound | wrongState | busy | empty | resetDone
  deriving DecidableEq, Repr

/-- The parameters, in the order of their codes 1 to 33 (11 section 11.3). -/
inductive Param where
  | infeedCpm | infeedHighMark | infeedLowMark | kickPulseMs | fenceTrim | farMargin | endZone | minKept
  | moulderCapacity | gatePulseMs | gateGapMs | moulderTransitMs | wornGradeCap | ejectPulseMs | chainPitch | sawOffset
  | transferWindow | sawFireCounts | sawHoldCounts | divertFireCounts | divertHoldCounts | sawLatencyMs
  | divertLatencyMs | infeedReverseLimit | chainReverseLimit | dropConfirmMs | strobeUs | handshakeMs | labelRetries
  | fifoThreshold | linkBaud | linkReplyMs | linkMissLimit
  deriving DecidableEq, Repr

/-- The Command Port (11): PENDING, RX with the bits of a partial byte, TX_INDEX, ACTIVE, and the level of SS. -/
structure CommandPort where
  response  : List Byte
  rx        : List Byte
  rxPartial : Nat
  txIndex   : Nat
  active    : Bool
  ssLow     : Bool
  deriving DecidableEq, Repr

/-! ### The state -/

/-- The state of the FL-64. -/
structure State where
  /-- The millisecond clock (R1). -/
  ms              : Clock
  /-- The microsecond timer (R1). -/
  us              : Clock
  /-- The model's own: µs since the millisecond clock last moved (log 3). -/
  usPhase         : Nat
  /-- The RESET line is held (R204). -/
  resetHeld       : Bool
  /-- The filter channels SI0 to SI5 (R2). -/
  channels        : Vector Channel 6
  /-- The infeed encoder unit INF (R11). -/
  inf             : Encoder
  /-- The chain encoder unit CH (R11). -/
  ch              : Encoder
  /-- The CH speed history, oldest first (R16). -/
  history         : List Clock
  /-- SPEED (R16). -/
  speed           : Nat
  /-- The stall timer's ms left while it runs (R17). -/
  stall           : Option Nat
  /-- The live strip records, oldest first (R21). -/
  strips          : List Strip
  /-- NEXT_TICKET (R22). -/
  nextTicket      : Nat
  /-- LOT of the current lot setting (R39). -/
  lot             : Nat
  /-- SPECIES of the current lot setting (R39). -/
  species         : Nat
  /-- The infeed queue, tickets oldest first (R25). -/
  infeed          : List Nat
  /-- The permit latch is OPEN (R30). -/
  permitOpen      : Bool
  /-- The plan queue, tickets oldest first (R46). -/
  planQueue       : List Nat
  /-- The evaluation in progress (R47); ENGINE_STATE is IDLE when there is none. -/
  engine          : Option Evaluation
  /-- The grade rule table (R50). -/
  grades          : Vector GradeRow 6
  /-- The defect weights, in kind order (R51). -/
  weights         : Vector Nat 8
  /-- The saw map (R52). -/
  sawMap          : List Nat
  /-- The tool sets (04 section 4.1). -/
  tools           : Vector Tool 4
  /-- PENDING_CHANGE (R69). -/
  pendingChange   : Option (Fin 4)
  /-- The moulder queue, oldest first (R77). -/
  moulder         : List MoulderEntry
  /-- GAP_TIMER: the ms left while RUNNING, none for EXPIRED (R74). -/
  gapTimer        : Option Nat
  /-- MISMATCH_TICKET (R75). -/
  mismatch        : Option Nat
  /-- HEAD (R86). -/
  head            : Fin 40
  /-- The lug table (R86). -/
  lugs            : Vector Lug 40
  /-- HOLDING (R90). -/
  holding         : Option Nat
  /-- WINDOW (R90). -/
  window          : Nat
  /-- PITCH_REF (R88). -/
  pitchRef        : Option Pos
  /-- LAST_PITCH (R88). -/
  lastPitch       : Option Int
  /-- The counted outputs SAW0 to SAW15, DIV0 to DIV7 (06 section 6.1). -/
  outs            : Vector CountedOut 24
  /-- GATE, KICK and EJECT (R119). -/
  pulses          : Vector PulseOut 3
  /-- The lanes (07 section 7.1). -/
  lanes           : Vector Lane 8
  /-- NEXT_BUNDLE (R128). -/
  nextBundle      : Nat
  /-- The label queue, oldest first (R151). -/
  labels          : List Label
  /-- CURRENT of the composer (R153). -/
  composing       : Option (Fin 8)
  /-- POSITION of the composer (R156). -/
  composed        : Nat
  /-- The model's own: DOUBTFUL as read at the DOUBTFUL field's FIELD command of this try (R156, log 23). -/
  doubtLatch      : Option Bool
  /-- The Dispatch Port (08 section 8.3). -/
  port            : Port
  /-- The station records, addresses 1 to 4 (R174). -/
  stations        : Vector Station 4
  /-- POLL_POINTER (R175). -/
  pollPointer     : Nat
  /-- TRANSACTION (R175). -/
  transaction     : Transaction
  /-- REPLY_TIMER's ms left while RUNNING (R175). -/
  replyTimer      : Option Nat
  /-- LINE_STATE (10 section 10.1). -/
  line            : LineState
  /-- LAST_ESCALATION (R194). -/
  lastEscalation  : Option Escalation
  /-- FLAG, ROUTE, MASKED and SEVERITY of the 32 event kinds (10 section 10.2). -/
  events          : Vector EventItem 32
  /-- ESCALATION is enabled (R197). -/
  escalation      : Bool
  /-- The parameters, by code less one (11 section 11.3). -/
  params          : Vector Nat 33
  /-- The Command Port (11). -/
  cmd             : CommandPort
  /-- The model's own: how many free values have been read (log 11). -/
  freeIndex       : Nat
  /-- The commands waiting, first in first out (log 25). -/
  pending         : List Instr
  deriving DecidableEq, Repr

/-- The faults of the block: none. No command of the spec stops the part (INVENTORY.md, '## Faults'). -/
inductive Fault : Type where
  deriving DecidableEq, Repr

/-- The refusals. -/
inductive Refusal where
  /-- Raised by an arm of `exec` whose command has no meaning yet. Safe: no claim can be proved of it. -/
  | notModelled (mnemonic : String)
  /-- Raised by the meaning of BAD_FRAME for a term that is no command of its row: no byte, or a frame that passes checks
  1 to 3 of R202 (log 20). Safe: such a transaction is another row's command. -/
  | illFormed
  deriving DecidableEq, Repr

/-! ### Reset -/

/-- A channel after reset (R8); `monitored` is clear for SI4. -/
def resetChannel (monitored : Bool) : Channel :=
  { mode := .delayed, threshold := 20, counter := 0, sample := .clear, prevSample := .clear, level := .clear,
    glitch := false, jam := if monitored then some { limitMs := 3000, state := .clear } else none }

/-- An encoder unit after reset (R19), its reference pair at the pair's level `a`, `b` at the end of reset. -/
def resetEncoder (a b : Bool) : Encoder :=
  { position := 0, direction := .forward, excursion := 0, reverseReported := false, pairA := a, pairB := b }

/-- A grade row after reset (R50). -/
def resetGradeRow : GradeRow :=
  { enabled := false, maxDensity := 0, maxSize := Vector.replicate 8 0, price := 0 }

/-- A tool set after reset (R85). -/
def resetTool : Tool :=
  { configured := false, profile := 0, width := 30, life := 1, warnPct := 100, used := 0, state := .unmounted }

/-- A lane after reset (R149). -/
def resetLane : Lane :=
  { kind := .unused, enabled := false, dropOffset := 38, grade := 0, minK := 0, maxK := 4000, alternate := none,
    target := 100, maxStrips := 255, shortMm := 0, mixPct := 100, state := .disabled, binCount := 0, bundle := none,
    watch := [] }

/-- The Dispatch Port after reset (R172), with PBUSY and PFAULT as they stand on its pins. -/
def resetPort (pbusy pfault : Bool) : Port :=
  { mode := .off, fifo := [], handshake := .idle, ackSeen := false, fallSeen := false, timer := none, held := false,
    strobeLeft := 0, pstb := false, pd := 0, ptag := false, pbusy := pbusy, pfault := pfault }

/-- A station after reset (R187). -/
def resetStation : Station :=
  { role := .scanner, stationPos := 0, state := .disabled, misses := 0, pendingAnswer := none, lastReqId := none,
    lastAnswer := none }

/-- An event kind's items after reset (R200). -/
def resetEvent (severity : Severity) : EventItem :=
  { flag := false, route := .attn0, masked := false, severity := severity }

/-- The severities after reset, in the order of the kinds' codes (R200). -/
def resetSeverities : Vector Severity 32 :=
  #v[.note, .stop, .stop, .stop, .stop, .stop, .stop, .stop, .stop, .note, .note, .note, .note, .note, .hold, .hold,
     .hold, .hold, .hold, .note, .note, .note, .note, .note, .note, .note, .note, .note, .note, .note, .note, .note]

/-- The defaults of the parameters, in the order of their codes (R32, R53, R82, R102, R120, R19, R147, R170, R185). -/
def resetParams : Vector Nat 33 :=
  #v[20000, 14, 10, 50, 10, 5, 20, 250, 6, 60, 400, 4000, 3, 80, 1600, 6, 3, 600, 700, 500, 600, 35, 20, 400, 400, 800,
     5, 250, 3, 8, 115200, 10, 3]

/-- The Command Port after power-on reset (R204): PENDING holds the frame of RESET_DONE with SEQ 0, command code NOP and
cause POWER_ON (R211). R204 gives no TX_INDEX: DESIGN CHOICE 0 (log 31). -/
def resetCommandPort (ssLow : Bool) : CommandPort :=
  { response := [0, 5, 0, 0, 9, 0, 0x50], rx := [], rxPartial := 0, txIndex := 0, active := false, ssLow := ssLow }

/-- The machine right after reset, as the chapters give it for a power-on reset. The input pins read low, clear and
high (SS) (log 13). -/
def State.reset : State where
  ms := 0
  us := 0
  usPhase := 0
  resetHeld := false
  channels := #v[resetChannel true, resetChannel true, resetChannel true, resetChannel true, resetChannel false,
                 resetChannel true]
  inf := resetEncoder false false
  ch := resetEncoder false false
  history := []
  speed := 0
  stall := none
  strips := []
  nextTicket := 1
  lot := 0
  species := 0
  infeed := []
  permitOpen := true
  planQueue := []
  engine := none
  grades := Vector.replicate 6 resetGradeRow
  weights := #v[2, 6, 8, 10, 1, 5, 3, 1]
  sawMap := []
  tools := Vector.replicate 4 resetTool
  pendingChange := none
  moulder := []
  gapTimer := none
  mismatch := none
  head := 0
  lugs := Vector.replicate 40 { ticket := none, sawDone := false }
  holding := none
  window := 0
  pitchRef := none
  lastPitch := none
  outs := Vector.replicate 24 { state := .idle, active := none, waiting := none, forced := false }
  pulses := Vector.replicate 3 { on := false, msLeft := 0, forced := false }
  lanes := Vector.replicate 8 resetLane
  nextBundle := 1
  labels := []
  composing := none
  composed := 0
  doubtLatch := none
  port := resetPort false false
  stations := Vector.replicate 4 resetStation
  pollPointer := 0
  transaction := .idle
  replyTimer := none
  line := .stopped
  lastEscalation := none
  events := mapTable resetEvent resetSeverities
  escalation := true
  params := resetParams
  cmd := resetCommandPort false
  freeIndex := 0
  pending := []

end Sys2Proof.Machine
end

