-- ==== Sys2Proof/Machine/Operands.lean ====
section
/-! DEFINITION. Operand forms: numbers, enumerated values, flags, absent fields and lists as bytes of a frame
(R210 to R212), and the clamping of a value into its range (00 section 5.2). -/

namespace Sys2Proof.Machine

open Sys2Proof

/-! ### Numbers, flags, absent fields and lists (R211) -/

/-- A number whose range ends at 255 or below. -/
def u8 (n : Nat) : List Byte := [BitVec.ofNat 8 n]

/-- A number whose range ends at 65,535 or below. -/
def u16 (n : Nat) : List Byte := [BitVec.ofNat 8 (n / 256), BitVec.ofNat 8 n]

/-- A number whose range ends at 16,777,215 or below. -/
def u24 (n : Nat) : List Byte := BitVec.ofNat 8 (n / 65536) :: u16 n

/-- A number whose range ends above 16,777,215. -/
def u32 (n : Nat) : List Byte := BitVec.ofNat 8 (n / 16777216) :: u24 n

/-- A signed number, two's complement in 4 bytes. -/
def s32 (n : Int) : List Byte := u32 (BitVec.ofInt 32 n).toNat

/-- A flag: 0 for clear and 1 for set. -/
def flagByte (b : Bool) : List Byte := [if b then 1 else 0]

/-- A field that may be absent. -/
def optional {α : Type} (f : α → List Byte) : Option α → List Byte
  | none => [0]
  | some x => 1 :: f x

/-- A list, preceded by its number of entries. -/
def listOf {α : Type} (f : α → List Byte) (xs : List α) : List Byte := u8 xs.length ++ xs.flatMap f

/-- A number of two bytes read from a frame, most significant byte first. -/
def word16 (hi lo : Byte) : Nat := hi.toNat * 256 + lo.toNat

/-- The two bytes of a 16-bit argument, most significant first. -/
def be16 (v : BitVec 16) : List Byte := [v.extractLsb' 8 8, v.extractLsb' 0 8]

/-- The four bytes of a 32-bit argument, most significant first. -/
def be32 (v : BitVec 32) : List Byte :=
  [v.extractLsb' 24 8, v.extractLsb' 16 8, v.extractLsb' 8 8, v.extractLsb' 0 8]

/-! ### Enumerated values: coded by their place in the list of values where the field is specified, from 0 (R211) -/

/-- The value a byte codes in a list of values, none outside its codes (R210). -/
def enumOf {α : Type} (values : List α) (b : Byte) : Option α := values[b.toNat]?

/-- The byte of a value of a list. -/
def enumByte {α : Type} [BEq α] (values : List α) (x : α) : List Byte := u8 (values.idxOf x)

def levels : List Level := [.blocked, .clear]
def filterModes : List FilterMode := [.delayed, .immediate, .bypass]
def directions : List Direction := [.forward, .reverse]
def stages : List Stage := [.measuring, .infeed, .waiting, .inMoulder, .atTransfer, .onLug]
def defectKinds : List DefectKind :=
  [.soundKnot, .looseKnot, .split, .wane, .stain, .pith, .resinPocket, .colourStreak]
def planKinds : List PlanKind := [.default, .computed]
def toolStates : List ToolState := [.unmounted, .mounted, .worn, .exhausted]
def holdReasons : List HoldReason := [.line, .noHead, .plan, .noTool, .exhausted, .change, .profile, .full, .gap]
def outStates : List OutState := [.idle, .armed, .on]
def laneKinds : List LaneKind := [.unused, .bundle, .holdBin, .rejectBin]
def laneStates : List LaneState := [.disabled, .opened, .closed]
def closeReasons : List CloseReason := [.target, .count, .forced]
def labelStates : List LabelState := [.queued, .printing, .printed, .failed]
def portModes : List PortMode := [.off, .direct, .stream]
def handshakes : List Handshake := [.idle, .readyWait, .strobe, .ackWait, .doneWait]
def roles : List Role := [.scanner, .grader, .stacker]
def stationStates : List StationState := [.disabled, .online, .offline]
def lineStates : List LineState := [.stopped, .running, .hold, .faultStop]
def severities : List Severity := [.note, .hold, .stop]
def routes : List Route := [.attn0, .attn1]

/-- ON and OFF, ENABLED and DISABLED: the value listed first is coded 0 (R211, log 9). -/
def firstSecond : List Bool := [true, false]

/-- The event kinds in the order of their codes (R211). -/
def eventKinds : List EventKind :=
  [.overrun, .phantomGate, .jam0, .jam1, .jam2, .jam3, .jam5, .infeedReverse, .chainReverse, .profileMismatch, .toolWorn,
   .toolExhausted, .toolChanged, .phantomMoulder, .lostMoulder, .lostTransfer, .lostAtSaw, .carryover, .pitchFault,
   .phantomLug, .phantomAtSaw, .lateFire, .missedActuation, .divertSuppressed, .missedDrop, .extraDrop, .bundleClosed,
   .labelFailed, .portTimeout, .printerFault, .fifoLow, .stationOffline]

/-- The parameters in the order of their codes, 1 to 33 (11 section 11.3). -/
def paramList : List Param :=
  [.infeedCpm, .infeedHighMark, .infeedLowMark, .kickPulseMs, .fenceTrim, .farMargin, .endZone, .minKept,
   .moulderCapacity, .gatePulseMs, .gateGapMs, .moulderTransitMs, .wornGradeCap, .ejectPulseMs, .chainPitch, .sawOffset,
   .transferWindow, .sawFireCounts, .sawHoldCounts, .divertFireCounts, .divertHoldCounts, .sawLatencyMs,
   .divertLatencyMs, .infeedReverseLimit, .chainReverseLimit, .dropConfirmMs, .strobeUs, .handshakeMs, .labelRetries,
   .fifoThreshold, .linkBaud, .linkReplyMs, .linkMissLimit]

/-- The parameter of a code, none for a code that is not in the table (R207). -/
def paramOf (code : Byte) : Option Param := if code = 0 then none else paramList[code.toNat - 1]?

/-- The code of a parameter. -/
def paramCode (p : Param) : Nat := paramList.idxOf p + 1

/-- The status codes (R211). -/
def statusByte : Status → Byte
  | .ok => 0
  | .okClamped => 1
  | .badFrame => 2
  | .unknownCommand => 3
  | .badArgument => 4
  | .notFound => 5
  | .wrongState => 6
  | .busy => 7
  | .empty => 8
  | .resetDone => 9

/-- The result codes of station answers (R212). -/
def resultByte : Result → Byte
  | .found => 0
  | .none => 1
  | .notFound => 2
  | .taken => 3
  | .tooLate => 4
  | .already => 5
  | .badReport => 6
  | .badValue => 7
  | .extra => 8
  | .wrongState => 9
  | .notPermitted => 10
  | .unknown => 11

/-- A grade value: grades 1 to 6 as themselves, HOLD 7, REJECT and REJECTED 8, TRIM_OUT 9 (R211). -/
def gradeByte (g : Grade) : List Byte := u8 (g.val + 1)

def computedGradeByte : ComputedGrade → List Byte
  | .grade g => gradeByte g
  | .reject => [8]

def manualGradeByte : ManualGrade → List Byte
  | .grade g => gradeByte g
  | .hold => [7]
  | .reject => [8]

def dispositionByte : Disposition → List Byte
  | .graded g => gradeByte g
  | .hold => [7]
  | .trimOut => [9]
  | .rejected => [8]

/-! ### Operands -/

/-- A number below `n`. -/
def finOf (n : Nat) (b : Byte) : Option (Fin n) := if h : b.toNat < n then some ⟨b.toNat, h⟩ else none

/-- A number 1 to `n`, as an index from 0 (station addresses, grade rows). -/
def finFrom1 (n : Nat) (b : Byte) : Option (Fin n) := if b = 0 then none else finOf n (b - 1)

/-- One of the eight values of a manual grade (R63). -/
def manualGradeOf (b : Byte) : Option ManualGrade :=
  if b = 7 then some .hold else if b = 8 then some .reject else (finFrom1 6 b).map .grade

/-- A flag argument, 0 for clear or 1 for set (R50). -/
def flagOf (b : Byte) : Option Bool := if b = 0 then some false else if b = 1 then some true else none

/-- ALTERNATE of SET_LANE: a lane other than `self`, or 255 for NONE (R125, R210); none is a refusal. -/
def alternateOf (self : Fin 8) (b : Byte) : Option (Option (Fin 8)) :=
  if b = 255 then some none
  else match finOf 8 b with
    | some l => if l = self then none else some (some l)
    | none => none

/-- A defect entry from its six bytes, none when the entry is malformed (R43 row 4, R212). -/
def defectOf : List Byte → Option Defect
  | [k, s1, s0, e1, e0, z] =>
    match enumOf defectKinds k with
    | none => none
    | some kind =>
      let start := word16 s1 s0
      let stop := word16 e1 e0
      if start ≤ 4095 ∧ stop ≤ 4095 ∧ 1 ≤ z.toNat ∧ start ≤ stop then
        some { kind := kind, start := start, stop := stop, size := z.toNat }
      else none
  | _ => none

/-- The first `n` entries of a defect list's bytes, none when one is malformed or the bytes do not agree with the count
(R43 row 4). -/
def defectsOf : Nat → List Byte → Option (List Defect)
  | 0, [] => some []
  | 0, _ :: _ => none
  | n + 1, bytes =>
    match defectOf (bytes.take 6), defectsOf n (bytes.drop 6) with
    | some d, some ds => some (d :: ds)
    | _, _ => none

/-- The positions of SET_SAW_MAP, two bytes each (R210). -/
def positionsOf : List Byte → List Nat
  | hi :: lo :: rest => word16 hi lo :: positionsOf rest
  | _ => []

/-- The entries of PORT_WRITE, a tag and a byte each; none when a tag is neither DATA 0 nor COMMAND 1 (R168, R213). -/
def entriesOf : List Byte → Option (List Entry)
  | tag :: byte :: rest =>
    match flagOf tag, entriesOf rest with
    | some c, some es => some ({ command := c, byte := byte } :: es)
    | _, _ => none
  | _ => some []

/-- The values a list of bytes codes, none when one is outside the codes. -/
def allOf {α : Type} (f : Byte → Option α) : List Byte → Option (List α)
  | [] => some []
  | b :: bs =>
    match f b, allOf f bs with
    | some x, some xs => some (x :: xs)
    | _, _ => none

end Sys2Proof.Machine
end

