-- ==== Sys2Proof/Machine/Frames.lean ====
section
/-! DEFINITION. The frames of the Command Port and of the Station Link: CRCs, command codes, argument counts, responses,
POLL frames (R202, R210 to R212). -/

namespace Sys2Proof.Machine

open Sys2Proof

/-- One step of the CRC-8: shift left, with the generator x^8 + x^2 + x + 1 (R210). -/
def crc8Bit (c : Byte) : Byte := if c.msb then (c <<< 1) ^^^ 0x07 else c <<< 1

/-- The CRC-8 with one byte more. -/
def crc8Byte (c b : Byte) : Byte :=
  crc8Bit (crc8Bit (crc8Bit (crc8Bit (crc8Bit (crc8Bit (crc8Bit (crc8Bit (c ^^^ b))))))))

/-- The CRC-8 of R210: initial value 0, no reflection, no final inversion. -/
def crc8 (bytes : List Byte) : Byte := bytes.foldl crc8Byte 0

/-- One step of the CRC-16: shift left, with the generator x^16 + x^12 + x^5 + 1 (R212). -/
def crc16Bit (c : BitVec 16) : BitVec 16 := if c.msb then (c <<< 1) ^^^ 0x1021 else c <<< 1

/-- The CRC-16 with one byte more. -/
def crc16Byte (c : BitVec 16) (b : Byte) : BitVec 16 :=
  crc16Bit (crc16Bit (crc16Bit (crc16Bit (crc16Bit (crc16Bit (crc16Bit (crc16Bit
    (c ^^^ (b.setWidth 16 <<< 8)))))))))

/-- The CRC-16 of R212: initial value 0xFFFF, no reflection, no final inversion. -/
def crc16 (bytes : List Byte) : BitVec 16 := bytes.foldl crc16Byte 0xFFFF

/-- A command frame: LENGTH, SEQ, command code, arguments, CRC-8 (R210). -/
def commandFrame (seq code : Byte) (args : List Byte) : List Byte :=
  let body := BitVec.ofNat 8 (args.length + 3) :: seq :: code :: args
  body ++ [crc8 body]

/-- The bytes of a transaction that reach RX: up to 1 + LENGTH, and never more than 37 (R201). -/
def rxOf : List Byte → List Byte
  | [] => []
  | len :: rest => (len :: rest).take (min (1 + len.toNat) 37)

/-- The number of argument bytes of each command that carries a fixed number, by command code (R210). -/
def fixedArgs : List (Byte × Nat) :=
  [(0x00, 0), (0x01, 0), (0x02, 0), (0x03, 0), (0x04, 0), (0x05, 0), (0x06, 0), (0x10, 5), (0x11, 1), (0x12, 13),
   (0x13, 1), (0x14, 8), (0x16, 15), (0x17, 1), (0x18, 6), (0x19, 3), (0x1A, 4), (0x1B, 1), (0x20, 2), (0x21, 1),
   (0x22, 1), (0x23, 3), (0x24, 2), (0x25, 0), (0x30, 6), (0x31, 1), (0x32, 1), (0x33, 0), (0x34, 1), (0x40, 1),
   (0x41, 1), (0x42, 2), (0x43, 1), (0x44, 1), (0x45, 1), (0x46, 1), (0x50, 1), (0x52, 0), (0x60, 0), (0x62, 4),
   (0x63, 1), (0x71, 0), (0x72, 2), (0x73, 1)]

/-- The commands that carry a count (R210). -/
def countedCommands : List Byte := [0x15, 0x51, 0x61, 0x70]

/-- The code is one of the codes of R210 (check 2 of R202). -/
def knownCode (code : Byte) : Bool := (fixedArgs.lookup code).isSome || countedCommands.contains code

/-- The bytes of a counted list agree with its count, `each` bytes an entry, and the count is at most `most`. -/
def countAgrees (most each : Nat) : List Byte → Bool
  | [] => false
  | n :: rest => n.toNat ≤ most && rest.length == each * n.toNat

/-- The two counted lists of SET_OUTPUTS agree with their counts, each 0 to 27 (R210). -/
def outputListsAgree : List Byte → Bool
  | [] => false
  | n :: rest => n.toNat ≤ 27 && n.toNat < rest.length && countAgrees 27 1 (rest.drop n.toNat)

/-- Check 3 of R202: the number of argument bytes is the number the command calls for, and for commands that carry a
count the bytes agree with the count and the count lies within its range. -/
def argsAgree (code : Byte) (args : List Byte) : Bool :=
  match fixedArgs.lookup code with
  | some n => args.length == n
  | none =>
    if code = 0x15 then countAgrees 16 2 args
    else if code = 0x51 then countAgrees 16 2 args
    else if code = 0x61 then countAgrees 32 1 args
    else outputListsAgree args

/-- Checks 1 to 3 of R202 on the bytes in RX: the failing status of the first that fails. -/
def frameFault (rx : List Byte) : Option Status :=
  match rx with
  | len :: _seq :: code :: rest =>
    if 3 ≤ len.toNat ∧ len.toNat ≤ 36 ∧ rx.length = 1 + len.toNat ∧
        rx[len.toNat]? = some (crc8 (rx.take len.toNat)) then
      if !knownCode code then some .unknownCommand
      else if !argsAgree code (rest.take (len.toNat - 3)) then some .badArgument
      else none
    else some .badFrame
  | _ => some .badFrame

/-- A response frame: LENGTH (2), SEQ, command code, status, payload, CRC-8 (R211). -/
def responseFrame (seq code : Byte) (status : Status) (payload : List Byte) : List Byte :=
  let body := u16 (payload.length + 4) ++ seq :: code :: statusByte status :: payload
  body ++ [crc8 body]

/-- A POLL frame: LENGTH, address, answer-present flag, and the answer when present, CRC-16 (R212). -/
def pollFrame (station : Fin 4) (answer : Option Answer) : List Byte :=
  let inner := BitVec.ofNat 8 (station.val + 1) ::
    optional (fun a : Answer => a.kind :: a.reqId :: resultByte a.result :: a.data) answer
  let body := BitVec.ofNat 8 (inner.length + 2) :: inner
  body ++ be16 (crc16 body)

/-- The most argument bytes a reply's LENGTH of 154 leaves for a request: the address, the request byte, the kind,
REQ_ID and the CRC take six (R212). -/
def replyArgsMax : Nat := 148

/-! ### Reply frames (R173, R176, R212) -/

/-- The kind code and the argument bytes of a request (R212). -/
def requestBytes : Request → Byte × List Byte
  | .queryAt => (1, [])
  | .queryTicket ticket => (2, be16 ticket)
  | .scanReport args => (3, args)
  | .gradeOverride ticket value => (4, be16 ticket ++ [value])
  | .dropSeen lane => (5, [lane])
  | .bundleCleared lane => (6, [lane])
  | .unknown kind args => (kind, args)

/-- The request of a kind code and argument bytes; none when the bytes are not exactly those of one of the kinds other
than SCAN_REPORT (R176, R212). -/
def requestOf (kind : Byte) (args : List Byte) : Option Request :=
  match kind.toNat, args with
  | 1, [] => some .queryAt
  | 2, [t1, t0] => some (.queryTicket (t1 ++ t0))
  | 3, args => some (.scanReport args)
  | 4, [t1, t0, value] => some (.gradeOverride (t1 ++ t0) value)
  | 5, [lane] => some (.dropSeen lane)
  | 6, [lane] => some (.bundleCleared lane)
  | 1, _ | 2, _ | 4, _ | 5, _ | 6, _ => none
  | _, args => some (.unknown kind args)

/-- The bytes of a reply between its address and its CRC (R212). -/
def bodyBytes : ReplyBody → List Byte
  | .idle => [0]
  | .request reqId request => 1 :: (requestBytes request).1 :: reqId :: (requestBytes request).2

/-- What the bytes of a reply between its address and its CRC say; none when they break a test of R176. A request without
a kind or without REQ_ID is bad too: DEDUCED, R176 names no test for it (log 36). -/
def bodyOf : List Byte → Option ReplyBody
  | [0] => some .idle
  | 1 :: kind :: reqId :: args => (requestOf kind args).map (.request reqId)
  | _ => none

/-- A reply frame: LENGTH, address of the sender, body, CRC-16 (R212). A body too long for one byte of LENGTH is no frame;
it is given the LENGTH 255, which is out of bounds as well. -/
def replyFrame (addr : Byte) (body : ReplyBody) : List Byte :=
  let inner := addr :: bodyBytes body
  let counted := BitVec.ofNat 8 (min 255 (inner.length + 2)) :: inner
  counted ++ be16 (crc16 counted)

/-- The characters of a frame that arrives as it was sent. -/
def sent (frame : List Byte) : List Character := frame.map (fun b => { byte := b, framing := false })

/-- What a whole frame says, its CRC-16 and then its body checked; the address has been (R176). -/
def checkReply (frame : List Byte) : Reception :=
  let counted := frame.take (frame.length - 2)
  if frame.drop (frame.length - 2) = be16 (crc16 counted) then
    match bodyOf (counted.drop 2) with
    | some body => .good body
    | none => .bad
  else .bad

/-- What the characters collected from a station amount to: the tests of R176, those that fail before the last byte
first. Characters after the frame are no part of it (R173). -/
def readReply (polled : Fin 4) (received : List Character) : Reception :=
  match received with
  | [] => .incomplete
  | first :: rest =>
    let n := first.byte.toNat
    let frame := received.take (1 + n)
    if frame.any (·.framing) || n < 4 || 154 < n then .bad
    else if rest.head?.any (fun c => c.byte.toNat != polled.val + 1) then .bad
    else if received.length < 1 + n then .incomplete
    else checkReply (frame.map (·.byte))

end Sys2Proof.Machine
end

