-- ==== Sys2Proof/Machine/Ops.lean ====
section
/-! DEFINITION. The named operations over the records and tables of the state: parameters, strip records and tickets, the
permit latch, lugs, tools, output pins. -/

namespace Sys2Proof.Machine

open Sys2Proof

/-! ### Parameters (11 section 11.3) -/

/-- A parameter's entry in the table: its code less one. -/
def paramIdx (p : Param) : Fin 33 := ⟨p.ctorIdx, by cases p <;> decide⟩

/-- The value of a parameter as it stands. -/
def getPar (s : State) (p : Param) : Nat := s.params[paramIdx p]

/-- The state with a parameter stored. -/
def putPar (p : Param) (v : Nat) (s : State) : State := { s with params := s.params.set (paramIdx p) v }

/-- The low end of a parameter's range (R19, R32, R53, R82, R102, R120, R147, R170, R185). -/
def paramLow : Param → Nat
  | .infeedCpm => 1000
  | .infeedHighMark => 4
  | .infeedLowMark => 0
  | .kickPulseMs => 5
  | .fenceTrim => 0
  | .farMargin => 0
  | .endZone => 0
  | .minKept => 100
  | .moulderCapacity => 1
  | .gatePulseMs => 5
  | .gateGapMs => 20
  | .moulderTransitMs => 200
  | .wornGradeCap => 0
  | .ejectPulseMs => 5
  | .chainPitch => 200
  | .sawOffset => 1
  | .transferWindow => 1
  | .sawFireCounts => 0
  | .sawHoldCounts => 1
  | .divertFireCounts => 0
  | .divertHoldCounts => 1
  | .sawLatencyMs => 0
  | .divertLatencyMs => 0
  | .infeedReverseLimit => 0
  | .chainReverseLimit => 0
  | .dropConfirmMs => 50
  | .strobeUs => 1
  | .handshakeMs => 1
  | .labelRetries => 0
  | .fifoThreshold => 0
  | .linkBaud => 19200
  | .linkReplyMs => 2
  | .linkMissLimit => 1

/-- The high end of a parameter's range, read with the parameter it depends on as that stands (R207, R208). -/
def paramHigh (s : State) : Param → Nat
  | .infeedCpm => 65535
  | .infeedHighMark => 16
  | .infeedLowMark => getPar s .infeedHighMark - 1
  | .kickPulseMs => 500
  | .fenceTrim => 60
  | .farMargin => 60
  | .endZone => 100
  | .minKept => 2000
  | .moulderCapacity => 8
  | .gatePulseMs => 500
  | .gateGapMs => 5000
  | .moulderTransitMs => 30000
  | .wornGradeCap => 6
  | .ejectPulseMs => 500
  | .chainPitch => 8000
  | .sawOffset => 20
  | .transferWindow => 8
  | .sawFireCounts => getPar s .chainPitch - 1
  | .sawHoldCounts => getPar s .chainPitch - 1
  | .divertFireCounts => getPar s .chainPitch - 1
  | .divertHoldCounts => getPar s .chainPitch - 1
  | .sawLatencyMs => 250
  | .divertLatencyMs => 250
  | .infeedReverseLimit => 65535
  | .chainReverseLimit => 65535
  | .dropConfirmMs => 5000
  | .strobeUs => 255
  | .handshakeMs => 2000
  | .labelRetries => 7
  | .fifoThreshold => 31
  | .linkBaud => 250000
  | .linkReplyMs => 100
  | .linkMissLimit => 15

/-! ### Strip records (02) -/

/-- The live record of a ticket. -/
def findStrip (t : Nat) (s : State) : Option Strip := s.strips.find? (fun r => r.ticket == t)

/-- The ticket belongs to a live record. -/
def isLive (t : Nat) (s : State) : Bool := s.strips.any (fun r => r.ticket == t)

/-- The state with the record of a ticket changed by `f`; no record, no change (R23). -/
def updateStrip (t : Nat) (f : Strip → Strip) (s : State) : State :=
  { s with strips := s.strips.map (fun r => if r.ticket = t then f r else r) }

/-- The first number of a sequence, from `n`, that is not among the live numbers: each number offered that is live is
passed over (R22, R128). At most `live.length` are passed over. -/
def offer (live : List Nat) : Nat → Nat → Nat
  | 0, n => n
  | k + 1, n => if live.contains n then offer live k (nextNumber n) else n

/-- The ticket the sequence assigns to the next record (R22). -/
def nextTicketOf (s : State) : Nat := offer (s.strips.map (·.ticket)) s.strips.length s.nextTicket

/-- A new record as R21 gives it, before what its creating rule adds. -/
def freshStrip (t lot species : Nat) (stage : Stage) : Strip :=
  { ticket := t, stage := stage, lot := lot, species := species, leadPos := none, length := none, doubt := false,
    thickness := none, defects := none, reportFrom := none, plan := .none, saw := none, kept := none,
    computedGrade := none, manualGrade := none, disposition := none, toolSet := none, wornAtRelease := none,
    width := none, lug := none, missedCut := false }

/-- A placeholder: DOUBT set, no LEAD_POS and no LENGTH, the default plan with no candidate, DISPOSITION HOLD (R35,
R92). -/
def placeholder (r : Strip) : Strip :=
  { r with doubt := true, plan := .done .default, saw := none, kept := some 0, computedGrade := none,
           disposition := some .hold }

/-- Creates a record in `stage`, with what its creating rule adds; it takes the next ticket (R21, R22). -/
def createStrip (stage : Stage) (add : Strip → Strip) (s : State) : State :=
  let t := nextTicketOf s
  { s with strips := s.strips ++ [add (freshStrip t s.lot s.species stage)], nextTicket := nextNumber t }

/-- The permit latch after its evaluation (R30). -/
def evalPermit (s : State) : State :=
  if getPar s .infeedHighMark ≤ s.infeed.length then { s with permitOpen := false }
  else if s.infeed.length ≤ getPar s .infeedLowMark then { s with permitOpen := true }
  else s

/-- The record of the infeed queue in MEASURING, if there is one (R25). -/
def measuringTicket (s : State) : Option Nat :=
  s.infeed.find? (fun t => (findStrip t s).any (fun r => r.stage == .measuring))

/-- Sets DOUBT on the record in MEASURING (R31). -/
def doubtMeasuring (s : State) : State :=
  match measuringTicket s with
  | none => s
  | some t => updateStrip t (fun r => { r with doubt := true }) s

/-! ### Lugs (05) -/

/-- The lug at an offset from the load point (R86). -/
def lugAt (s : State) (offset : Nat) : Fin 40 := s.head - Fin.ofNat 40 offset

/-- The offset of a lug from the load point (R86). -/
def offsetOf (s : State) (lug : Fin 40) : Nat := (s.head - lug).val

/-- An empty lug, with SAW_DONE clear (R96). -/
def emptyLug : Lug := { ticket := none, sawDone := false }

/-- Empties every lug that holds a ticket. -/
def clearLugsOf (t : Nat) (s : State) : State :=
  { s with lugs := mapTable (fun l => if l.ticket = some t then emptyLug else l) s.lugs }

/-- Sets SAW_DONE of a lug, as the Scheduler reports the end of a saw pulse for the ticket on it (R96, log 18). -/
def setSawDone (lug : Fin 40) (t : Nat) (s : State) : State :=
  { s with lugs := modifyAt s.lugs lug (fun l => if l.ticket = some t then { l with sawDone := true } else l) }

/-! ### Tool sets (04) -/

/-- The set that is mounted: STATE MOUNTED, WORN or EXHAUSTED (04 section 4.1). -/
def mountedSet (s : State) : Option (Fin 4) := (indices 4).find? (fun i => s.tools[i].state != .unmounted)

/-- The wear class of a mounted set (R66). -/
def wearClass (t : Tool) : ToolState :=
  if t.life * 1000 ≤ t.used then .exhausted
  else if t.life * t.warnPct * 10 ≤ t.used then .worn
  else .mounted

/-! ### Outputs (06) -/

/-- The output of a saw (06 section 6.1). -/
def sawOut (i : Fin 16) : Fin 24 := ⟨i.val, by omega⟩

/-- The output of a lane's pusher. -/
def divOut (l : Fin 8) : Fin 24 := ⟨16 + l.val, by omega⟩

/-- The lane of a pusher's output, none for a saw's. -/
def laneOfOut (o : Fin 24) : Option (Fin 8) := if h : 16 ≤ o.val then some ⟨o.val - 16, by omega⟩ else none

/-- An output is a saw's. -/
def isSaw (o : Fin 24) : Bool := o.val < 16

/-- GATE, KICK and EJECT as entries of their table. -/
def pulseIdx : TimePulse → Fin 3
  | .gate => 0
  | .kick => 1
  | .eject => 2

/-- The state with a counted output changed by `f`. -/
def updateOut (o : Fin 24) (f : CountedOut → CountedOut) (s : State) : State :=
  { s with outs := modifyAt s.outs o f }

/-- Starts or restarts a time pulse with its pulse length, read as it stands (R119). -/
def startPulse (p : TimePulse) (length : Param) (s : State) : State :=
  { s with pulses := modifyAt s.pulses (pulseIdx p) (fun q => { q with on := true, msLeft := getPar s length }) }

/-- The line state lets actuators act (R106). -/
def actuatorsAct (s : State) : Bool := s.line == .running || s.line == .hold

/-- The level driven on a counted output, set for ON (R106); every output is deasserted while RESET is held (R204). -/
def outLevel (s : State) (o : Fin 24) : Bool :=
  if s.resetHeld then false
  else match s.line with
    | .running | .hold => s.outs[o].state == .on
    | .stopped => s.outs[o].forced
    | .faultStop => false

/-- The level driven on GATE, KICK or EJECT, set for ON (R106). -/
def pulseLevel (s : State) (p : TimePulse) : Bool :=
  if s.resetHeld then false
  else match s.line with
    | .running | .hold => s.pulses[pulseIdx p].on
    | .stopped => s.pulses[pulseIdx p].forced
    | .faultStop => false

/-- INFEED_PERMIT is asserted (R30). -/
def infeedPermit (s : State) : Bool := !s.resetHeld && s.line == .running && s.permitOpen

/-- LINE_OK is asserted (R192). -/
def lineOk (s : State) : Bool := !s.resetHeld && s.line != .faultStop

/-- An attention line is asserted: some flag routed to it is set and unmasked (R195). -/
def attention (s : State) (r : Route) : Bool :=
  !s.resetHeld && s.events.toList.any (fun e => e.flag && !e.masked && e.route == r)

/-- LDIR is asserted: a POLL is being sent (R173). -/
def ldir (s : State) : Bool :=
  !s.resetHeld && (match s.transaction with
    | .sending _ _ _ _ _ => true
    | _ => false)

/-- What LTX carries: the idle level, or the bits of a frame's characters at a rate (R173). -/
inductive LtxDrive where
  | idle
  | sending (baud : Nat) (bits : List Bool)
  deriving DecidableEq, Repr

/-- The bits of a character: a start bit, eight data bits least significant first, a stop bit (R173). -/
def characterBits (b : Byte) : List Bool := false :: (List.range 8).map b.getLsbD ++ [true]

/-- LTX: the POLL frame while it is sent, and the idle level while LDIR is released (R173, R187). -/
def ltx (s : State) : LtxDrive :=
  if s.resetHeld then .idle
  else match s.transaction with
    | .sending _ baud frame _ _ => .sending baud (frame.flatMap characterBits)
    | _ => .idle

/-- PSTB is asserted; it is not while RESET is held (R159, R192). -/
def pstb (s : State) : Bool := !s.resetHeld && s.port.pstb

/-- The byte on PD0 to PD7, low while RESET is held (R158, R192). -/
def pd (s : State) : Byte := if s.resetHeld then 0 else s.port.pd

/-- The level of PTAG, high for COMMAND, low while RESET is held (R213, R192). -/
def ptag (s : State) : Bool := !s.resetHeld && s.port.ptag

/-- The first `n` bytes that MISO shifts out in the transaction in progress: those of PENDING in order, then bytes of 0;
none while MISO is not driven: SS high (R201), RESET held (R204), or an SS low since a reset, which is no transaction (log
32). -/
def misoBytes (n : Nat) (s : State) : Option (List Byte) :=
  if s.resetHeld || !s.cmd.ssLow || !s.cmd.active then none
  else some ((s.cmd.response ++ List.replicate n 0).take n)

/-! ### Stations and lanes -/

/-- The state with a station record changed by `f`. -/
def updateStation (a : Fin 4) (f : Station → Station) (s : State) : State :=
  { s with stations := modifyAt s.stations a f }

/-- The state with a lane record changed by `f`. -/
def updateLane (l : Fin 8) (f : Lane → Lane) (s : State) : State := { s with lanes := modifyAt s.lanes l f }

/-- The state with a lane's bundle, if it holds one, changed by `f`. -/
def updateBundle (l : Fin 8) (f : Bundle → Bundle) (s : State) : State :=
  updateLane l (fun r => { r with bundle := r.bundle.map f }) s

/-- The state with a filter channel changed by `f`. -/
def updateChannel (i : Fin 6) (f : Channel → Channel) (s : State) : State :=
  { s with channels := modifyAt s.channels i f }

end Sys2Proof.Machine
end

