-- ==== Sys2Proof/Machine/Flags.lean ====
section
/-! DEFINITION. Events (10): raising an event, escalation, and what a change of LINE_STATE does to the outputs. -/

namespace Sys2Proof.Machine

open Sys2Proof

/-- An event kind's entry in the table: its code (R211). -/
def eventIdx (k : EventKind) : Fin 32 := ⟨k.ctorIdx, by cases k <;> decide⟩

/-- The kind's FLAG becomes set, or stays set (R193). -/
def setFlag (k : EventKind) (s : State) : State :=
  { s with events := modifyAt s.events (eventIdx k) (fun e => { e with flag := true }) }

/-- The line state a raising of a severity leads to, none where it changes nothing (R194). -/
def escalated : Severity → LineState → Option LineState
  | .hold, .running => some .hold
  | .stop, .running => some .faultStop
  | .stop, .hold => some .faultStop
  | .stop, .stopped => some .faultStop
  | _, _ => none

/-- The line state that a raising of `k` leads to as the state stands (R194). -/
def escalationOf (k : EventKind) (s : State) : Option LineState :=
  if s.escalation then escalated s.events[eventIdx k].severity s.line else none

/-- LAST_ESCALATION takes the kind, the states before and after and the millisecond clock (R194). -/
def noteEscalation (k : EventKind) (after : LineState) (s : State) : State :=
  { s with lastEscalation := some { kind := k, before := s.line, after := after, time := s.ms } }

/-- Every FORCED value becomes OFF (R122). -/
def releaseForced (s : State) : State :=
  { s with outs := mapTable (fun o => { o with forced := false }) s.outs,
           pulses := mapTable (fun p => { p with forced := false }) s.pulses }

/-- A raising taken while no output can be in flight, the line being stopped already: the flag, and an escalation from
STOPPED to FAULT_STOP (R193, R194, R122). `raise` is the raising in every state. -/
def raiseQuiet (k : EventKind) (s : State) : State :=
  let s := setFlag k s
  match escalationOf k s with
  | none => s
  | some after => releaseForced { noteEscalation k after s with line := after }

/-- A missed cut: MISSED_CUT and DISPOSITION HOLD on the record, and SAW_DONE on its lug (R116 steps 1, 2 and 4, R96). -/
def markMissedCut (p : Pulse) (s : State) : State :=
  setSawDone p.lug p.ticket
    (updateStrip p.ticket (fun r => { r with missedCut := true, disposition := some .hold }) s)

/-- A missed pulse of an output: the mark of a missed cut for a saw, and MISSED_ACTUATION, raised by `raising` (R116). -/
def missPulse (raising : EventKind → State → State) (o : Fin 24) (p : Pulse) (s : State) : State :=
  raising .missedActuation (if isSaw o then markMissedCut p s else s)

/-- An IDLE output with no pulse; its FORCED value stays. -/
def idleOut (c : CountedOut) : CountedOut := { c with state := .idle, active := none, waiting := none }

/-- What a line stop does to the pulse an output was performing (R117). -/
def stopActive (o : Fin 24) (c : CountedOut) (s : State) : State :=
  match c.active with
  | none => s
  | some p =>
    match c.state with
    | .on => if isSaw o then setSawDone p.lug p.ticket s else s
    | _ => missPulse raiseQuiet o p s

/-- What a line stop does to one output: off, its pulses reported, IDLE (R117). -/
def stopOut (s : State) (o : Fin 24) : State :=
  let c := s.outs[o]
  let s := stopActive o c (updateOut o idleOut s)
  match c.waiting with
  | none => s
  | some p => missPulse raiseQuiet o p s

/-- Each of GATE, KICK and EJECT goes off and its remaining time is discarded (R117). -/
def stopPulses (s : State) : State :=
  { s with pulses := mapTable (fun p => { p with on := false, msLeft := 0 }) s.pulses }

/-- A change of LINE_STATE, handed to the blocks that read it (R191): the outputs on leaving RUNNING or HOLD for a
stopped state (R117), the FORCED values on leaving STOPPED (R122). The permit, LINE_OK and the ages read LINE_STATE
itself; a release test finds the line out of RUNNING unless LINE_START makes it (R72). -/
def enterLine (after : LineState) (s : State) : State :=
  let before := s.line
  let s := { s with line := after }
  let s :=
    if (before = .running ∨ before = .hold) ∧ (after = .stopped ∨ after = .faultStop) then
      stopPulses ((indices 24).foldl stopOut s)
    else s
  if before = .stopped ∧ after ≠ .stopped then releaseForced s else s

/-- A block raises an event: its FLAG is set and escalation is applied (R193, R194). -/
def raise (k : EventKind) (s : State) : State :=
  let s := setFlag k s
  match escalationOf k s with
  | none => s
  | some after => enterLine after (noteEscalation k after s)

end Sys2Proof.Machine
end

