-- ==== Sys2Proof/Machine/Strips.lean ====
section
/-! DEFINITION. Retirement of a strip record and the withdrawal of its pulses (R24, R49, R114). -/

namespace Sys2Proof.Machine

open Sys2Proof

/-- An output takes up NEXT: it becomes ACTIVE and ARMED, or the output IDLE when there is none (R111). -/
def takeUpNext (c : CountedOut) : CountedOut :=
  match c.waiting with
  | none => { c with state := .idle, active := none }
  | some p => { c with state := .armed, active := some p, waiting := none }

/-- The pulse serves the ticket. -/
def serves (t : Nat) (p : Option Pulse) : Bool := p.any (fun q => q.ticket == t)

/-- Withdraws from an output each pulse of a retired ticket that has not been taken at its set point (R114). -/
def withdrawOut (t : Nat) (c : CountedOut) : CountedOut :=
  let c := if serves t c.waiting then { c with waiting := none } else c
  if c.state = .armed ∧ serves t c.active = true then takeUpNext c else c

/-- Withdraws the pulses of a retired ticket on every output (R114). -/
def withdrawPulses (t : Nat) (s : State) : State := { s with outs := mapTable (withdrawOut t) s.outs }

/-- The plan of a record that is retired: a PENDING entry leaves the plan queue, a RUNNING evaluation is marked DISCARD
(R24, R49). -/
def dropPlan (t : Nat) (s : State) : State :=
  match (findStrip t s).map Strip.plan with
  | some .pending => { s with planQueue := s.planQueue.filter (· != t) }
  | some .running =>
    { s with engine := s.engine.map (fun e => if e.current = t then { e with discard := true } else e) }
  | _ => s

/-- Transfer holding without a ticket; WINDOW is 0 while it is empty (05 section 5.1). -/
def leaveHolding (t : Nat) (s : State) : State :=
  if s.holding = some t then { s with holding := none, window := 0 } else s

/-- The infeed queue without a ticket; the permit latch is evaluated when the count changes (R24, R30). -/
def leaveInfeed (t : Nat) (s : State) : State :=
  if s.infeed.contains t then evalPermit { s with infeed := s.infeed.filter (· != t) } else s

/-- The moulder queue without a ticket. -/
def leaveMoulder (t : Nat) (s : State) : State :=
  { s with moulder := s.moulder.filter (fun e => e.ticket != t) }

/-- The Strip Table without a ticket's record. -/
def freeSlot (t : Nat) (s : State) : State := { s with strips := s.strips.filter (fun r => r.ticket != t) }

/-- Retires a record: its plan, its slot, its place, its pulses (R24, R49, R114). What an output that takes up NEXT by
it does at a set point already reached is `settle`'s; the event and the tests of the gate are the callers'. -/
def retireCore (t : Nat) (s : State) : State :=
  withdrawPulses t
    (clearLugsOf t (leaveHolding t (leaveMoulder t (leaveInfeed t (freeSlot t (dropPlan t s))))))

/-- The event a retirement raises (R24). -/
def retireEvent : RetireReason → Option EventKind
  | .carryover => some .carryover
  | .lostMoulder => some .lostMoulder
  | .lostTransfer => some .lostTransfer
  | .lostAtSaw => some .lostAtSaw
  | .committed | .ejected | .purged | .trackCleared => none

end Sys2Proof.Machine
end

