-- ==== Sys2Proof/Machine/Bundles.lean ====
section
/-! DEFINITION. Bundle records: opening, the flags LABEL_DONE and CLEARED, retirement (R128, R144 to R146). -/

namespace Sys2Proof.Machine

open Sys2Proof

/-- The numbers of the live bundles (R128). -/
def liveBundles (s : State) : List Nat := s.lanes.toList.filterMap (fun l => l.bundle.map (·.number))

/-- A fresh bundle of a lane (R128). -/
def freshBundle (number : Nat) (l : Lane) : Bundle :=
  { number := number, grade := l.grade, lot := none, species := none, width := none, count := 0, coverage := 0,
    short := 0, histogram := Vector.replicate 16 0, targetCopy := l.target, mixCopy := l.mixPct,
    shortCopy := l.shortMm, doubtful := false, closeReason := none, labelDone := false, cleared := false }

/-- A fresh bundle opens on a lane, with the next number, and STATE becomes OPEN (R128, R126, R146). -/
def openBundle (l : Fin 8) (s : State) : State :=
  let n := offer (liveBundles s) (liveBundles s).length s.nextBundle
  updateLane l (fun r => { r with bundle := some (freshBundle n r), state := .opened })
    { s with nextBundle := nextNumber n }

/-- The lane's bundle is retired: a fresh one opens while ENABLED is set, else the lane becomes DISABLED (R146). -/
def retireBundle (l : Fin 8) (s : State) : State :=
  let s := updateLane l (fun r => { r with bundle := none }) s
  if s.lanes[l].enabled then openBundle l s else updateLane l (fun r => { r with state := .disabled }) s

/-- The retirement test of a bundle: LABEL_DONE and CLEARED both set (R146). -/
def bundleTest (l : Fin 8) (s : State) : State :=
  match s.lanes[l].bundle with
  | some b => if b.labelDone && b.cleared then retireBundle l s else s
  | none => s

/-- The Label Unit hands over LABEL_DONE for the lane's bundle (R145). -/
def handLabelDone (l : Fin 8) (s : State) : State :=
  bundleTest l (updateBundle l (fun b => { b with labelDone := true }) s)

/-- The lane's bundle has been taken away (R144). -/
def setCleared (l : Fin 8) (s : State) : State :=
  bundleTest l (updateBundle l (fun b => { b with cleared := true }) s)

end Sys2Proof.Machine
end

