-- ==== Sys2Proof/Machine/Labels.lean ====
section
/-! DEFINITION. The Label Unit and the Dispatch Port (08): label records, the stream and its run compressor, the
composer, the byte handshake, flush and timeout (R150 to R164, R213). -/

namespace Sys2Proof.Machine

open Sys2Proof

/-! ### The stream of a label (R154, R155, R213) -/

/-- A COMMAND entry. -/
def commandEntry (b : Byte) : Entry := { command := true, byte := b }

/-- A DATA entry. -/
def dataEntry (b : Byte) : Entry := { command := false, byte := b }

def startLabel : Entry := commandEntry 0x01
def endLabel : Entry := commandEntry 0x02

/-- The FIELD command of the DOUBTFUL field. -/
def doubtfulField : Entry := commandEntry 0x19

/-- The ASCII character of a decimal digit. -/
def digitChar (d : Nat) : Byte := BitVec.ofNat 8 (0x30 + d % 10)

/-- A number as decimal digits, zero-padded on the left to a width (R154). -/
def digits : (width : Nat) → Nat → List Byte
  | 0, _ => []
  | w + 1, n => digits w (n / 10) ++ [digitChar n]

/-- The runs of equal consecutive characters, each with its length (R155). -/
def runsOf : List Byte → List (Byte × Nat)
  | [] => []
  | b :: bs =>
    match runsOf bs with
    | [] => [(b, 1)]
    | (c, n) :: rest => if b = c then (c, n + 1) :: rest else (b, 1) :: (c, n) :: rest

/-- A run as entries: one or two characters plain, 3 to 32 as a RUN command and the character, more in runs of 32
(R155). The first number bounds the runs of 32. -/
def emitRun : Nat → Byte → Nat → List Entry
  | 0, _, _ => []
  | fuel + 1, c, n =>
    if n ≤ 2 then List.replicate n (dataEntry c)
    else if n ≤ 32 then [commandEntry (BitVec.ofNat 8 (0x40 + n)), dataEntry c]
    else commandEntry 0x60 :: dataEntry c :: emitRun fuel c (n - 32)

/-- The run compressor on the characters of one field (R155). -/
def compress (chars : List Byte) : List Entry := (runsOf chars).flatMap (fun r => emitRun (r.2 + 1) r.1 r.2)

/-- A field: its FIELD command and its characters, compressed (R154). -/
def fieldEntries (code : Byte) (chars : List Byte) : List Entry := commandEntry code :: compress chars

/-- The character of CLOSE_REASON: 1 for TARGET, 2 for COUNT, 3 for FORCED (R154). -/
def reasonDigit : CloseReason → Nat
  | .target => 1
  | .count => 2
  | .forced => 3

/-- The stream of a label, with the DOUBTFUL value its field is built from (R154). -/
def streamOf (b : Label) (doubtful : Bool) : List Entry :=
  startLabel ::
    (fieldEntries 0x11 (digits 5 b.number) ++ fieldEntries 0x12 (digits 5 b.lot) ++ fieldEntries 0x13 (digits 2 b.species)
      ++ fieldEntries 0x14 (digits 1 (b.grade.val + 1)) ++ fieldEntries 0x15 (digits 3 b.width)
      ++ fieldEntries 0x16 (digits 3 b.count)
      ++ fieldEntries 0x17 (digits 5 (b.coverage / 1000) ++ 0x2E :: digits 3 b.coverage)
      ++ b.lengths.flatMap (fun p => fieldEntries 0x18 (digits 4 p.1 ++ digits 3 p.2))
      ++ fieldEntries 0x19 (digits 1 (if doubtful then 1 else 0))
      ++ fieldEntries 0x1A (digits 1 (reasonDigit b.closeReason)) ++ [endLabel])

/-! ### Label records (R150 to R152) -/

/-- The lane's label in the queue. -/
def labelOf (l : Fin 8) (s : State) : Option Label := s.labels.find? (fun b => b.lane == l)

/-- The state with the lane's label changed by `f`. -/
def updateLabel (l : Fin 8) (f : Label → Label) (s : State) : State :=
  { s with labels := s.labels.map (fun b => if b.lane = l then f b else b) }

/-- The state without the lane's label. -/
def removeLabel (l : Fin 8) (s : State) : State := { s with labels := s.labels.filter (fun b => b.lane != l) }

/-- The LENGTHS pairs of a histogram, in saw order: the position less FENCE_TRIM as both stand, 0 below 0 or where the
saw has no position (R150). -/
def lengthPairs (s : State) (histogram : Vector Nat 16) : List (Nat × Nat) :=
  (indices 16).filterMap (fun i =>
    if histogram[i] = 0 then none
    else some ((s.sawMap[i.val]?).getD 0 - getPar s .fenceTrim, histogram[i]))

/-- The label record of a closed bundle (R150). -/
def makeLabel (s : State) (l : Fin 8) (b : Bundle) : Label :=
  { lane := l, number := b.number, lot := b.lot.getD 0, species := b.species.getD 0, grade := b.grade,
    width := b.width.getD 0, count := b.count, coverage := b.coverage / 1000, lengths := lengthPairs s b.histogram,
    doubtful := b.doubtful, closeReason := b.closeReason.getD .forced, state := .queued, tries := 0 }

/-! ### The port's handshake (R158 to R160) -/

/-- Issues the strobe for the head entry (R159). -/
def issueStrobe (e : Entry) (s : State) : State :=
  { s with port := { s.port with pd := e.byte, ptag := e.command, pstb := true, ackSeen := false, fallSeen := false,
                                 timer := some (getPar s .handshakeMs), handshake := .strobe,
                                 strobeLeft := getPar s .strobeUs } }

/-- The strobe test of READY_WAIT: PBUSY low and PFAULT clear (R159). -/
def strobeTest (s : State) : State :=
  match s.port.handshake, s.port.fifo with
  | .readyWait, e :: _ => if s.port.pbusy || s.port.pfault then s else issueStrobe e s
  | _, _ => s

/-- An idle handshake takes the head of the FIFO in DIRECT or STREAM (R159). -/
def startHandshake (s : State) : State :=
  if s.port.handshake = .idle ∧ s.port.fifo ≠ [] ∧ s.port.mode ≠ .off then
    strobeTest { s with port := { s.port with handshake := .readyWait } }
  else s

/-- A flush (R158). -/
def flushPort (s : State) : State :=
  { s with port := { s.port with fifo := [], handshake := .idle, pstb := false, strobeLeft := 0, timer := none,
                                 held := false, ackSeen := false, fallSeen := false } }

/-! ### The composer (R153, R156) -/

/-- The next entry of the current label's stream, with its label: the DOUBTFUL field is built from the value read at
its FIELD command (R156). -/
def nextEntry (s : State) : Option (Entry × Label) :=
  match s.composing.bind (fun l => labelOf l s) with
  | none => none
  | some b => (streamOf b (s.doubtLatch.getD b.doubtful))[s.composed]?.map (fun e => (e, b))

/-- Puts the next entry of the stream into the FIFO when it has room (R156). -/
def fillOne (s : State) : State :=
  if s.port.fifo.length < Config.fifoCapacity then
    match nextEntry s with
    | none => s
    | some (e, b) =>
      { s with port := { s.port with fifo := s.port.fifo ++ [e] }, composed := s.composed + 1,
               doubtLatch := if e = doubtfulField then some b.doubtful else s.doubtLatch }
  else s

/-- Puts up to `n` entries of the stream into the FIFO. -/
def fillFifo : Nat → State → State
  | 0, s => s
  | n + 1, s => fillFifo n (fillOne s)

/-- The composer fills the FIFO, and an idle handshake starts on its head (R156, R159). -/
def compose (s : State) : State := startHandshake (fillFifo Config.fifoCapacity s)

/-- CURRENT absent, POSITION 0 (R157, R164, R167). -/
def dropCurrent (s : State) : State := { s with composing := none, composed := 0, doubtLatch := none }

/-- The composer test: in STREAM, with CURRENT absent, the oldest QUEUED label becomes PRINTING and the fill begins
(R153). -/
def composerTest (s : State) : State :=
  if s.port.mode = .stream ∧ s.composing = none then
    match s.labels.find? (fun b => b.state == .queued) with
    | none => s
    | some b =>
      compose (updateLabel b.lane (fun x => { x with state := .printing })
        { s with composing := some b.lane, composed := 0, doubtLatch := none })
  else s

/-- The Label Unit makes the label record of a closed bundle at the tail of the queue (R150, R153). -/
def queueLabel (l : Fin 8) (b : Bundle) (s : State) : State :=
  composerTest { s with labels := s.labels ++ [makeLabel s l b] }

/-- The current label is PRINTED and leaves the queue; LABEL_DONE is handed over and the composer test made (R157). -/
def labelPrinted (l : Fin 8) (s : State) : State :=
  composerTest (handLabelDone l (dropCurrent (removeLabel l s)))

/-- A byte completes (R161). -/
def completeByte (s : State) : State :=
  match s.port.fifo with
  | [] => s
  | e :: rest =>
    let s := { s with port := { s.port with timer := none, held := false, fifo := rest, handshake := .idle } }
    let s :=
      match s.port.mode with
      | .direct => if rest.length = getPar s .fifoThreshold then raise .fifoLow s else s
      | .stream =>
        match s.composing with
        | some l => if e = endLabel then labelPrinted l s else fillOne s
        | none => s
      | .off => s
    startHandshake s

/-- A PBUSY change seen by the handshake (R160), PBUSY having taken its new level. -/
def busyEdge (high : Bool) (s : State) : State :=
  match s.port.handshake, high with
  | .strobe, true => { s with port := { s.port with ackSeen := true } }
  | .strobe, false => if s.port.ackSeen then { s with port := { s.port with fallSeen := true } } else s
  | .ackWait, true => { s with port := { s.port with ackSeen := true, handshake := .doneWait } }
  | .doneWait, false => completeByte s
  | .readyWait, _ => strobeTest s
  | _, _ => s

/-- The strobe ends (R160). -/
def endStrobe (s : State) : State :=
  let s := { s with port := { s.port with pstb := false, strobeLeft := 0 } }
  if s.port.fallSeen then completeByte s
  else if s.port.ackSeen then { s with port := { s.port with handshake := .doneWait } }
  else { s with port := { s.port with handshake := .ackWait } }

/-- PFAULT has become asserted: a running TIMER stops and HELD is set, and PRINTER_FAULT is raised (R162). DESIGN CHOICE:
the TIMER is STOPPED, and the ms it had left are not kept (log 35). -/
def faultAsserted (s : State) : State :=
  raise .printerFault
    (if s.port.timer.isSome then { s with port := { s.port with timer := none, held := true } } else s)

/-- PFAULT has cleared: a held TIMER starts again in full, and READY_WAIT makes its strobe test (R162). -/
def faultCleared (s : State) : State :=
  strobeTest
    (if s.port.held then { s with port := { s.port with timer := some (getPar s .handshakeMs), held := false } } else s)

/-- A timeout ends the current try of the label named by CURRENT (R164). -/
def endTry (s : State) : State :=
  match s.composing.bind (fun l => labelOf l s) with
  | none => composerTest (dropCurrent s)
  | some b =>
    if b.tries < getPar s .labelRetries then
      composerTest (dropCurrent (updateLabel b.lane (fun x => { x with tries := x.tries + 1, state := .queued }) s))
    else
      composerTest (raise .labelFailed (dropCurrent (updateLabel b.lane (fun x => { x with state := .failed }) s)))

/-- The handshake has timed out (R163). -/
def portTimeout (s : State) : State :=
  let s := raise .portTimeout (flushPort s)
  if s.port.mode = .stream then endTry s else s

/-! ### Closing a bundle, drop watch (R139, R141, R143) -/

/-- The closing steps of a bundle (R139). -/
def closeBundle (l : Fin 8) (reason : CloseReason) (s : State) : State :=
  let s := updateBundle l (fun b => { b with closeReason := some reason }) s
  let s := raise .bundleClosed (updateLane l (fun r => { r with state := .closed }) s)
  match s.lanes[l].bundle with
  | some b => queueLabel l b s
  | none => s

/-- The DOUBTFUL mark on the lane's bundle of that number; on a CLOSED bundle it is handed to its label (R143, R152). -/
def markDoubtful (l : Fin 8) (number : Nat) (s : State) : State :=
  match s.lanes[l].bundle with
  | some b =>
    if b.number = number then
      let s := updateBundle l (fun b => { b with doubtful := true }) s
      if s.lanes[l].state = .closed then updateLabel l (fun x => { x with doubtful := true }) s else s
    else s
  | none => s

/-- The oldest entry of a drop watch list is removed as an unconfirmed drop (R143). -/
def expireWatch (l : Fin 8) (s : State) : State :=
  match s.lanes[l].watch with
  | [] => s
  | w :: rest =>
    let s := raise .missedDrop (updateLane l (fun r => { r with watch := rest }) s)
    match w.bundle with
    | some n => markDoubtful l n s
    | none => s

/-- The age of a drop watch entry, in ms (R143, R1). -/
def watchAge (s : State) (w : Watch) : Nat := (s.ms - w.fireTime).toNat

/-- The oldest entry of the lane's list has outlived DROP_CONFIRM_MS (R143). -/
def watchDue (l : Fin 8) (s : State) : Bool :=
  match s.lanes[l].watch with
  | [] => false
  | w :: _ => getPar s .dropConfirmMs < watchAge s w

/-- Expires the oldest entries of a lane's list, up to `n`, that have outlived DROP_CONFIRM_MS (R147). -/
def expireWatches (l : Fin 8) : Nat → State → State
  | 0, s => s
  | n + 1, s => if watchDue l s then expireWatches l n (expireWatch l s) else s

/-- An entry is appended to the lane's drop watch list; a fifth displaces the oldest (R141). -/
def appendWatch (l : Fin 8) (w : Watch) (s : State) : State :=
  let s := if Config.watchCapacity ≤ s.lanes[l].watch.length then expireWatch l s else s
  updateLane l (fun r => { r with watch := r.watch ++ [w] }) s

end Sys2Proof.Machine
end

