-- ==== Sys2Proof/Machine/Lanes.lean ====
section
/-! DEFINITION. Routing, acceptance and the commit of a strip to a lane (R129 to R137). -/

namespace Sys2Proof.Machine

open Sys2Proof

/-! ### Acceptance (R131, R132) -/

/-- KEPT × WIDTH of a strip, in mm² (R136). A strip that is GRADED holds both (R131). -/
def stripArea (r : Strip) : Nat := r.kept.getD 0 * r.width.getD 0

/-- The lane's range holds the strip's KEPT. -/
def rangeHolds (l : Lane) (r : Strip) : Bool := l.minK ≤ r.kept.getD 0 && r.kept.getD 0 ≤ l.maxK

/-- The mix test of a bundle (R131, condition 5). -/
def mixPasses (b : Bundle) (r : Strip) : Bool :=
  b.shortCopy ≤ r.kept.getD 0 || (b.short + stripArea r) * 100 ≤ b.mixCopy * (b.coverage + stripArea r)

/-- The strip is GRADED with the grade, and its cut was not missed. -/
def gradedAs (g : Grade) (r : Strip) : Bool := r.disposition == some (.graded g) && !r.missedCut

/-- An OPEN BUNDLE lane's bundle takes the strip: conditions 2 to 5 of R131. -/
def bundleAccepts (l : Lane) (b : Bundle) (r : Strip) : Bool :=
  gradedAs b.grade r && rangeHolds l r && (b.count == 0 || (b.lot == some r.lot && b.width == r.width)) && mixPasses b r

/-- A lane accepts a strip, as both stand (R131, R132). -/
def laneAccepts (l : Lane) (r : Strip) : Bool :=
  l.state == .opened &&
    match l.kind with
    | .unused => false
    | .holdBin => true
    | .rejectBin => r.disposition == some .trimOut || r.disposition == some .rejected
    | .bundle => l.bundle.any (fun b => bundleAccepts l b r)

/-! ### Routing (R129, R130) -/

/-- The lane counts at an offset: its DROP_OFFSET is that or greater (07 section 7.3). -/
def countsAt (o : Nat) (l : Lane) : Bool := o ≤ l.dropOffset

/-- The lowest-numbered OPEN bin of a kind that counts at the offset (R129, R130). -/
def openBin (kind : LaneKind) (o : Nat) (s : State) : Option (Fin 8) :=
  (indices 8).find? (fun i => countsAt o s.lanes[i] && s.lanes[i].kind == kind && s.lanes[i].state == .opened)

/-- A BUNDLE lane that counts at the offset, with the grade and a range that holds KEPT (R129). -/
def matchesStrip (o : Nat) (g : Grade) (r : Strip) (l : Lane) : Bool :=
  countsAt o l && l.kind == .bundle && l.grade == g && rangeHolds l r

/-- The intended lane of a GRADED strip with no missed cut (R129). -/
def gradedLane (o : Nat) (g : Grade) (r : Strip) (s : State) : Option (Fin 8) :=
  match (indices 8).find? (fun i => matchesStrip o g r s.lanes[i]) with
  | none => openBin .holdBin o s
  | some first =>
    if laneAccepts s.lanes[first] r then some first
    else match s.lanes[first].alternate with
      | none => openBin .holdBin o s
      | some alt =>
        if matchesStrip o g r s.lanes[alt] && laneAccepts s.lanes[alt] r then some alt else openBin .holdBin o s

/-- The intended lane of a strip presented at an offset (R129, R130). -/
def intendedLane (o : Nat) (r : Strip) (s : State) : Option (Fin 8) :=
  if r.missedCut then openBin .holdBin o s
  else match r.disposition with
    | some (.graded g) => gradedLane o g r s
    | some .hold => openBin .holdBin o s
    | some .trimOut | some .rejected =>
      match openBin .rejectBin o s with
      | some l => some l
      | none => openBin .holdBin o s
    | none => none

/-! ### The commit (R135 to R137) -/

/-- The bundle with a committed strip added (R136). -/
def addToBundle (r : Strip) (b : Bundle) : Bundle :=
  { b with lot := if b.count = 0 then some r.lot else b.lot,
           species := if b.count = 0 then some r.species else b.species,
           width := if b.count = 0 then r.width else b.width,
           count := b.count + 1,
           coverage := b.coverage + stripArea r,
           short := if r.kept.getD 0 < b.shortCopy then b.short + stripArea r else b.short,
           histogram := match r.saw with
             | some i => modifyAt b.histogram i (· + 1)
             | none => b.histogram }

/-- Counts a strip into its lane: the bundle, or BIN_COUNT (R135 step 1). -/
def countStrip (l : Fin 8) (r : Strip) (s : State) : State :=
  if s.lanes[l].kind = .bundle then updateBundle l (addToBundle r) s
  else updateLane l (fun x => { x with binCount := min 65535 (x.binCount + 1) }) s

/-- The closure test after a commit to a BUNDLE lane (R137). -/
def closureTest (l : Fin 8) (s : State) : State :=
  match s.lanes[l].bundle with
  | none => s
  | some b =>
    if b.targetCopy * 100 ≤ b.coverage then closeBundle l .target s
    else if s.lanes[l].maxStrips ≤ b.count then closeBundle l .count s
    else s

/-- The drop watch entry of a commit: the millisecond clock, and on a BUNDLE lane the bundle's NUMBER (R135 step 3). -/
def commitWatch (l : Fin 8) (s : State) : Watch :=
  { fireTime := s.ms, bundle := if s.lanes[l].kind = .bundle then s.lanes[l].bundle.map (·.number) else none }

/-- A commit of a strip to a lane (R135). Step 2 may withdraw a pulse on another output, which takes up a NEXT already
reached (R111, R114). DESIGN CHOICE: that set point is taken after the commit's steps 3 and 4 (log 37). -/
def commitStrip (l : Fin 8) (r : Strip) (s : State) : State :=
  let s := retireCore r.ticket (countStrip l r s)
  let s := appendWatch l (commitWatch l s) s
  if s.lanes[l].kind = .bundle then closureTest l s else s

end Sys2Proof.Machine
end

