-- ==== Sys2Proof/Machine/Actuators.lean ====
section
/-! DEFINITION. The Actuator Scheduler (06): pulses, arming, set points, clear points, merges, the turn to reverse, and
the retirement of a record with what its withdrawn pulses bring about (R107 to R115, R118). -/

namespace Sys2Proof.Machine

open Sys2Proof

/-- A point is reached: POSITION minus the point, read as signed, is zero or positive (R15). -/
def reached (position point : Pos) : Bool := 0 ≤ signedDiff position point

/-- The later of two clear points, by their signed difference (R113). -/
def laterPoint (a b : Pos) : Pos := if 0 ≤ signedDiff a b then a else b

/-- What is due on an output as POSITION of CH stands. Clear points are tested at CH counts only (06 section 6.1); where
a merge and a clear point are due at once the merge is taken (log 7). No point is taken in STOPPED or FAULT_STOP (R117,
R118). -/
def dueAt (atCount : Bool) (s : State) (o : Fin 24) : Option Point :=
  if !actuatorsAct s then none
  else
    let c := s.outs[o]
    let clear : Option Point :=
      if atCount && c.active.any (fun p => reached s.ch.position p.clearAt) then some .clearPoint else none
    match c.state with
    | .idle => none
    | .armed => if c.active.any (fun p => reached s.ch.position p.setAt) then some .setPoint else none
    | .on => if c.waiting.any (fun p => reached s.ch.position p.setAt) then some .mergePoint else clear

/-- The strip of a pulse, when its lane accepts it as both stand (R134). -/
def acceptedStrip (l : Fin 8) (p : Pulse) (s : State) : Option Strip :=
  (findStrip p.ticket s).filter (fun r => laneAccepts s.lanes[l] r)

/-- The set point of an ARMED pusher pulse (R110): committed with the output ON, or suppressed, the output taking up
NEXT. -/
def pusherSetPoint (o : Fin 24) (l : Fin 8) (p : Pulse) (s : State) : State :=
  match acceptedStrip l p s with
  | some r => commitStrip l r (updateOut o (fun c => { c with state := .on }) s)
  | none => updateOut o takeUpNext (raise .divertSuppressed (updateOut o (fun c => { c with active := none }) s))

/-- NEXT becomes ACTIVE on an output that stays ON, with the later of the two clear points (R113). -/
def mergeNext (p q : Pulse) (c : CountedOut) : CountedOut :=
  { c with active := some { q with clearAt := laterPoint q.clearAt p.clearAt }, waiting := none }

/-- The set point of NEXT while a pusher is ON (R113). -/
def pusherMerge (o : Fin 24) (l : Fin 8) (p q : Pulse) (s : State) : State :=
  match acceptedStrip l q s with
  | some r => commitStrip l r (updateOut o (mergeNext p q) s)
  | none => raise .divertSuppressed (updateOut o (fun c => { c with waiting := none }) s)

/-- Takes a point that is due on an output (R109 to R111, R113). -/
def takePoint (o : Fin 24) (k : Point) (s : State) : State :=
  let c := s.outs[o]
  match k, c.active, c.waiting with
  | .setPoint, some p, _ =>
    match laneOfOut o with
    | none => updateOut o (fun c => { c with state := .on }) s
    | some l => pusherSetPoint o l p s
  | .mergePoint, some p, some q =>
    match laneOfOut o with
    | none => updateOut o (mergeNext p q) (setSawDone p.lug p.ticket s)
    | some l => pusherMerge o l p q s
  | .clearPoint, some p, _ =>
    updateOut o takeUpNext (if isSaw o then setSawDone p.lug p.ticket s else s)
  | _, _, _ => s

/-- The first output, in an order, on which a point is due. -/
def firstDue (order : List (Fin 24)) (atCount : Bool) (s : State) : Option (Fin 24 × Point) :=
  order.findSome? (fun o => (dueAt atCount s o).map (fun k => (o, k)))

/-- Takes the points that are due, one after another, up to a number of them. -/
def settle (order : List (Fin 24)) (atCount : Bool) : Nat → State → State
  | 0, s => s
  | n + 1, s =>
    match firstDue order atCount s with
    | none => s
    | some (o, k) => settle order atCount n (takePoint o k s)

/-- The most points the 24 outputs can have to take: two for each of two pulses. -/
def settleFuel : Nat := 96

/-- The set points and merges due away from a CH count: at an arming, and where a withdrawal lets an output take up a
NEXT whose set point is already reached (R108, R111, R112, R114). Where one retirement does so on several outputs, R114
gives no order among them: DESIGN CHOICE, they are dealt with in rising output number (log 29). -/
def settleSets (s : State) : State := settle (indices 24) false settleFuel s

/-- The points due at a CH count, outputs in the given order (06 section 6.1). -/
def settleCount (order : List (Fin 24)) (s : State) : State := settle (fullOrder 24 order) true settleFuel s

/-- Retires a record for a reason: R24, with the withdrawal of R114 and the event of the reason. -/
def retire (t : Nat) (why : RetireReason) (s : State) : State :=
  let s := settleSets (retireCore t s)
  match retireEvent why with
  | none => s
  | some k => raise k s

/-! ### Arming (R107, R108, R112, R115, R118) -/

/-- LEAD for an output as SPEED, its latency and CHAIN_PITCH stand: rounded half up, and clamped to half a pitch (R18). -/
def leadOf (s : State) (o : Fin 24) : Nat :=
  min ((s.speed * getPar s (if isSaw o then .sawLatencyMs else .divertLatencyMs) + 500) / 1000)
    (getPar s .chainPitch / 2)

/-- FIRE of an output (R107). -/
def fireOf (s : State) (o : Fin 24) : Nat := getPar s (if isSaw o then .sawFireCounts else .divertFireCounts)

/-- HOLD of an output (R107). -/
def holdOf (s : State) (o : Fin 24) : Nat := getPar s (if isSaw o then .sawHoldCounts else .divertHoldCounts)

/-- The pulse of an arming (R107). -/
def buildPulse (o : Fin 24) (lug : Fin 40) (t : Nat) (c0 : Pos) (s : State) : Pulse :=
  let lead := leadOf s o
  let setAt := c0 + BitVec.ofNat 24 (fireOf s o) - BitVec.ofNat 24 lead
  { lug := lug, ticket := t, lane := laneOfOut o, lead := lead, setAt := setAt,
    clearAt := setAt + BitVec.ofNat 24 (holdOf s o) }

/-- The pulse as the Scheduler places it: a set point already reached is replaced by POSITION (R108). -/
def placedPulse (o : Fin 24) (p : Pulse) (s : State) : Pulse :=
  if reached s.ch.position p.setAt then
    { p with setAt := s.ch.position, clearAt := s.ch.position + BitVec.ofNat 24 (holdOf s o) }
  else p

/-- An arming, taken as the line state, the direction of CH and the output's STATE stand (R108, R112, R115, R118). A late
set point raises LATE_FIRE on a full schedule too, before the pulse is missed (R108, R112, log 7). -/
def arm (o : Fin 24) (lug : Fin 40) (t : Nat) (c0 : Pos) (s : State) : State :=
  let p := buildPulse o lug t c0 s
  let late := reached s.ch.position p.setAt
  let q := placedPulse o p s
  if !actuatorsAct s then missPulse raise o p s
  else if s.ch.direction = .reverse then s
  else match s.outs[o].state with
    | .idle =>
      let s := updateOut o (fun c => { c with state := .armed, active := some q, waiting := none }) s
      settleSets (if late then raise .lateFire s else s)
    | _ =>
      match s.outs[o].waiting with
      | some _ => missPulse raise o p (if late then raise .lateFire s else s)
      | none =>
        let s := updateOut o (fun c => { c with waiting := some q }) s
        settleSets (if late then raise .lateFire s else s)

/-! ### The turn to reverse (R115) -/

/-- The turn-to-reverse notice at one output: a saw that is ON counts as complete, and every pulse is ended. -/
def reverseOut (s : State) (o : Fin 24) : State :=
  let c := s.outs[o]
  let s := updateOut o idleOut s
  match c.state, c.active with
  | .on, some p => if isSaw o then setSawDone p.lug p.ticket s else s
  | _, _ => s

/-- The turn-to-reverse notice at every counted output (R115). -/
def turnToReverse (s : State) : State := (indices 24).foldl reverseOut s

end Sys2Proof.Machine
end

