-- ==== Sys2Proof/Machine/Planning.lean ====
section
/-! DEFINITION. Grading and cut planning (03): stages B to G, the default and manual plans, manual grades, the plan queue
and the withdrawal of reports (R44 to R49, R54 to R62). -/

namespace Sys2Proof.Machine

open Sys2Proof

/-- A saw that may cut, with its position. -/
abbrev Candidate := Fin 16 × Nat

/-- Stage B: the saws with P ≤ LENGTH − M and P − F ≥ MIN_KEPT, in saw order; none without a LENGTH (R54, R60). -/
def candidates (sawMap : List Nat) (fenceTrim farMargin minKept : Nat) : Option Nat → List Candidate
  | none => []
  | some len =>
    (indices 16).filterMap (fun i =>
      match sawMap[i.val]? with
      | none => none
      | some p => if p + farMargin ≤ len ∧ fenceTrim + minKept ≤ p then some (i, p) else none)

/-- Stage C: a SPLIT or LOOSE_KNOT reaches into the zone of END_ZONE that ends at the cut (R55). -/
def excludes (endZone p : Nat) (d : Defect) : Bool :=
  (d.kind == .split || d.kind == .looseKnot) && d.start < p && p < d.stop + endZone

/-- The passing candidates: those that stage C leaves (R55). -/
def passing (endZone : Nat) (defects : List Defect) (cs : List Candidate) : List Candidate :=
  cs.filter (fun c => !defects.any (excludes endZone c.2))

/-- A defect is inside the piece kept by a cut at `p` (R56 step 2). -/
def inside (fenceTrim p : Nat) (d : Defect) : Bool := fenceTrim < d.stop && d.start < p

/-- A defect kind's entry in the weights and in MAX_SIZE. -/
def kindIdx (k : DefectKind) : Fin 8 := ⟨k.ctorIdx, by cases k <;> decide⟩

/-- The points of the inside defects (R56 step 3). -/
def pointsOf (weights : Vector Nat 8) (ds : List Defect) : Nat :=
  (ds.map (fun d => weights[kindIdx d.kind] * d.size)).sum

/-- The density, in points per metre, clamped to 65,535 (R56 step 4). -/
def densityOf (points kept : Nat) : Nat := min 65535 (points * 1000 / kept)

/-- A row's tests pass: density, and the size of every inside defect under its kind's MAX_SIZE (R57). -/
def rowPasses (row : GradeRow) (density : Nat) (ds : List Defect) : Bool :=
  row.enabled && density ≤ row.maxDensity && ds.all (fun d => d.size ≤ row.maxSize[kindIdx d.kind])

/-- Stage E: the first grade whose row passes, none for REJECT (R57). -/
def gradeOf (grades : Vector GradeRow 6) (density : Nat) (ds : List Defect) : Option Grade :=
  (indices 6).find? (fun g => rowPasses grades[g] density ds)

/-- A passing candidate with its grade and its value. -/
structure Valued where
  saw   : Fin 16
  pos   : Nat
  grade : Option Grade
  value : Nat
  deriving DecidableEq, Repr

/-- Stages D to F for a passing candidate (R56 to R58). -/
def valueOf (e : Evaluation) (grades : Vector GradeRow 6) (c : Candidate) : Valued :=
  let kept := c.2 - e.fenceTrim
  let ds := e.defects.filter (inside e.fenceTrim c.2)
  let grade := gradeOf grades (densityOf (pointsOf e.weights ds) kept) ds
  { saw := c.1, pos := c.2, grade := grade,
    value := match grade with
      | none => 0
      | some g => kept * grades[g].price }

/-- The better of two in stage G: the larger value, and between equals the larger position (R58). -/
def betterOf (a b : Valued) : Valued :=
  if a.value < b.value ∨ (a.value = b.value ∧ a.pos < b.pos) then b else a

/-- The chosen candidate of stage G (R58). -/
def chosen : List Valued → Option Valued
  | [] => none
  | v :: vs =>
    match chosen vs with
    | none => some v
    | some w => some (betterOf v w)

/-- TRIM_OUT (R58). -/
def trimOutPlan : PlanResult :=
  { saw := none, kept := 0, computedGrade := some .reject, disposition := .trimOut }

/-- The computed plan: stages B to G on the input copy, with the grade rows and the saw map in place (R47, R54 to
R58). -/
def computedPlan (e : Evaluation) (grades : Vector GradeRow 6) (sawMap : List Nat) : PlanResult :=
  let cs := passing e.endZone e.defects (candidates sawMap e.fenceTrim e.farMargin e.minKept e.length)
  match chosen (cs.map (valueOf e grades)) with
  | none => trimOutPlan
  | some v =>
    match v.grade with
    | none => trimOutPlan
    | some g =>
      if v.value = 0 then trimOutPlan
      else { saw := some v.saw, kept := v.pos - e.fenceTrim, computedGrade := some (.grade g), disposition := .graded g }

/-- The disposition taken from a manual value, by whether the record holds a SAW (R59). -/
def manualDisposition (hasSaw : Bool) : ManualGrade → Disposition
  | .grade g => if hasSaw then .graded g else .hold
  | .hold => .hold
  | .reject => .rejected

/-- A plan with no computed grade, cut by the given candidate: the default plan (R60) and the manual plan (R61). -/
def plainPlan (fenceTrim : Nat) (c : Option Candidate) (manual : Option ManualGrade) : PlanResult :=
  { saw := c.map Prod.fst,
    kept := match c with
      | none => 0
      | some c => c.2 - fenceTrim,
    computedGrade := none,
    disposition := match manual with
      | none => .hold
      | some m => manualDisposition c.isSome m }

/-- The candidate with the largest position. -/
def longest : List Candidate → Option Candidate
  | [] => none
  | c :: cs =>
    match longest cs with
    | none => some c
    | some d => if c.2 ≤ d.2 then some d else some c

/-- The default plan: the largest-indexed candidate, no defects (R60). -/
def defaultPlan (sawMap : List Nat) (fenceTrim farMargin minKept : Nat) (length : Option Nat)
    (manual : Option ManualGrade) : PlanResult :=
  plainPlan fenceTrim (candidates sawMap fenceTrim farMargin minKept length).getLast? manual

/-- The manual plan: stages B and C, the passing candidate with the largest position (R61). -/
def manualPlan (e : Evaluation) (sawMap : List Nat) : PlanResult :=
  plainPlan e.fenceTrim
    (longest (passing e.endZone e.defects (candidates sawMap e.fenceTrim e.farMargin e.minKept e.length))) e.manualGrade

/-- The result of an evaluation on its path (R47, R48, log 17). -/
def planResult (e : Evaluation) (grades : Vector GradeRow 6) (sawMap : List Nat) : PlanResult :=
  match e.path with
  | .default => defaultPlan sawMap e.fenceTrim e.farMargin e.minKept e.length e.manualGrade
  | .manual => manualPlan e sawMap
  | .computed => computedPlan e grades sawMap

/-- What a DONE plan of a path carries (R48). -/
def planKindOf : PlanPath → PlanKind
  | .default => .default
  | .manual | .computed => .computed

/-- Writes a result into a record; PLAN becomes DONE (R48). -/
def writePlan (kind : PlanKind) (p : PlanResult) (r : Strip) : Strip :=
  { r with saw := p.saw, kept := some p.kept, computedGrade := p.computedGrade, disposition := some p.disposition,
           plan := .done kind }

/-- The default plan written directly, with the plan parameters, the saw map and the MANUAL_GRADE as they stand
(R60). -/
def writeDefault (t : Nat) (s : State) : State :=
  updateStrip t (fun r => writePlan .default
    (defaultPlan s.sawMap (getPar s .fenceTrim) (getPar s .farMargin) (getPar s .minKept) r.length r.manualGrade) r) s

/-- A plan request joins the plan queue at its tail; PLAN becomes PENDING (R46). -/
def joinPlan (t : Nat) (s : State) : State :=
  updateStrip t (fun r => { r with plan := .pending }) { s with planQueue := s.planQueue ++ [t] }

/-- DISPOSITION taken at once from a MANUAL_GRADE: a record whose MISSED_CUT is set keeps HOLD (R62). -/
def applyManual (v : ManualGrade) (r : Strip) : Strip :=
  if r.missedCut then r else { r with disposition := some (manualDisposition r.saw.isSome v) }

/-- Stores a manual grade; with PLAN DONE the disposition follows at once (R62, R63). -/
def storeManual (t : Nat) (v : ManualGrade) (s : State) : State :=
  updateStrip t (fun r =>
    let r := { r with manualGrade := some v }
    match r.plan with
    | .done _ => applyManual v r
    | _ => r) s

/-- The path of an evaluation, from the input copy (R47). -/
def pathOf (r : Strip) : PlanPath :=
  if r.doubt then .default else if r.manualGrade.isSome then .manual else .computed

/-- The input copy of an evaluation (R47). -/
def copyInputs (s : State) (r : Strip) : Evaluation :=
  { current := r.ticket, path := pathOf r, discard := false, length := r.length, defects := r.defects.getD [],
    doubt := r.doubt, manualGrade := r.manualGrade, weights := s.weights, fenceTrim := getPar s .fenceTrim,
    farMargin := getPar s .farMargin, endZone := getPar s .endZone, minKept := getPar s .minKept, startUs := s.us }

/-- The idle engine starts an evaluation on the head of the plan queue (R47). -/
def startEvaluation (s : State) : State :=
  match s.engine, s.planQueue with
  | none, t :: rest =>
    match findStrip t s with
    | none => { s with planQueue := rest }
    | some r =>
      updateStrip t (fun r => { r with plan := .running })
        { s with planQueue := rest, engine := some (copyInputs s r) }
  | _, _ => s

/-- The record of a completed evaluation: the result, and R62 for a manual grade stored meanwhile (R48). -/
def writeResult (e : Evaluation) (p : PlanResult) (r : Strip) : Strip :=
  let r := writePlan (planKindOf e.path) p r
  match r.manualGrade with
  | none => r
  | some v => if some v = e.manualGrade then r else applyManual v r

/-- The evaluation completes: its result is written, or dropped when DISCARD is set, and the engine becomes IDLE
(R48). -/
def finishEvaluation (s : State) : State :=
  match s.engine with
  | none => s
  | some e =>
    let s := { s with engine := none }
    if e.discard then s else updateStrip e.current (writeResult e (planResult e s.grades s.sawMap)) s

/-! ### Reports (R43 to R45) -/

/-- The tickets whose PENDING reports a station's withdrawal takes back (R45). -/
def withdrawnTickets (a : Fin 4) (s : State) : List Nat :=
  (s.strips.filter (fun r => r.reportFrom == some a && r.plan == .pending)).map (·.ticket)

/-- A record whose report is withdrawn (R45). -/
def withoutReport (r : Strip) : Strip :=
  { r with thickness := none, defects := none, reportFrom := none, plan := .none }

/-- Withdraws the report of one record; a record already WAITING receives the default plan at once (R45, R75). -/
def withdrawReport (s : State) (t : Nat) : State :=
  let s := updateStrip t withoutReport { s with planQueue := s.planQueue.filter (· != t) }
  if (findStrip t s).any (fun r => r.stage == .waiting) then writeDefault t s else s

/-- The result of a SCAN_REPORT, and the report it carries when it is taken: the rows of R43 in their order. The answer
to a report too short to name a ticket is free (log 11); one that names a ticket and has no THICKNESS or no count is
malformed: DEDUCED (log 34). -/
def checkReport (args : List Byte) (s : State) : Result × Option (Nat × Nat × List Defect) :=
  match args with
  | t1 :: t0 :: rest =>
    match findStrip (word16 t1 t0) s with
    | none => (.notFound, none)
    | some r =>
      if r.stage ≠ .measuring ∧ r.stage ≠ .infeed then (.tooLate, none)
      else if r.reportFrom.isSome then (.already, none)
      else match rest with
        | th :: n :: bytes =>
          if 15 < th.toNat ∨ 24 < n.toNat then (.badReport, none)
          else match defectsOf n.toNat bytes with
            | none => (.badReport, none)
            | some ds => (.taken, some (r.ticket, th.toNat, ds))
        | _ => (.badReport, none)
  | _ => ([Result.notFound, .tooLate, .already, .badReport][Config.shortReport s.freeIndex], none)

/-- A report is taken (R44): stored in the record, and for a record in INFEED the plan request joins. -/
def takeReport (a : Fin 4) (t thickness : Nat) (ds : List Defect) (s : State) : State :=
  let s := updateStrip t (fun r => { r with thickness := some thickness, defects := some ds, reportFrom := some a }) s
  if (findStrip t s).any (fun r => r.stage == .infeed) then joinPlan t s else s

end Sys2Proof.Machine
end

