-- ==== Sys2Proof/Machine/Moulder.lean ====
section
/-! DEFINITION. Moulder admission and tool sets (04): the release test and the release, wear, tool changes, the transit
monitor, the PE3 match (R66 to R81), and the withdrawal of a station's reports (R45, R75, R184). -/

namespace Sys2Proof.Machine

open Sys2Proof

/-! ### The gate (R72 to R75) -/

/-- The record at the head of the infeed queue. -/
def headStrip (s : State) : Option Strip := s.infeed.head?.bind (fun t => findStrip t s)

/-- The reason of the first failing release condition, in the order of the table; none when all seven hold (R72). -/
def holdReason (s : State) : Option HoldReason :=
  if s.line ≠ .running then some .line
  else match headStrip s with
    | none => some .noHead
    | some r =>
      if r.stage ≠ .waiting then some .noHead
      else match r.plan with
        | .done _ =>
          match mountedSet s with
          | none => some .noTool
          | some m =>
            if s.tools[m].state = .exhausted then some .exhausted
            else if s.pendingChange ≠ none then some .change
            else if r.thickness ≠ none ∧ r.thickness ≠ some s.tools[m].profile then some .profile
            else if getPar s .moulderCapacity ≤ s.moulder.length then some .full
            else if s.gapTimer ≠ none then some .gap
            else none
        | _ => some .plan

/-- The wear class of a set is worked out afresh, and the event of a class entered is raised (R66). `before` is the
state it had. -/
def classifyTool (m : Fin 4) (before : ToolState) (s : State) : State :=
  let after := wearClass s.tools[m]
  let s := { s with tools := modifyAt s.tools m (fun t => { t with state := after }) }
  if after = before then s
  else match after with
    | .worn => raise .toolWorn s
    | .exhausted => raise .toolExhausted s
    | _ => s

/-- A released length is added to USED of the mounted set, saturating, and its wear class follows (R67, R66). -/
def addWear (m : Fin 4) (length : Option Nat) (s : State) : State :=
  match length with
  | none => s
  | some mm =>
    let s := { s with tools := modifyAt s.tools m (fun t => { t with used := min Config.usedMax (t.used + mm) }) }
    classifyTool m s.tools[m].state s

/-- The record as it is released under a set (R73 steps 3 and 4). -/
def releasedStrip (m : Fin 4) (t : Tool) (r : Strip) : Strip :=
  { r with wornAtRelease := some (t.state == .worn), toolSet := some m, width := some t.width, stage := .inMoulder }

/-- The release of the head record under the mounted set (R73). -/
def releaseHead (m : Fin 4) (r : Strip) (s : State) : State :=
  let s := startPulse .gate .gatePulseMs s
  let s := { s with gapTimer := some (getPar s .gateGapMs) }
  let s := updateStrip r.ticket (releasedStrip m s.tools[m]) s
  let s := evalPermit { s with infeed := s.infeed.tail, moulder := s.moulder ++ [{ ticket := r.ticket, age := 0 }],
                               mismatch := none }
  addWear m r.length s

/-- The release test: a release when all seven conditions hold; PROFILE_MISMATCH, once a head, when only condition 5
fails (R72, R75). -/
def releaseTest (s : State) : State :=
  match holdReason s, headStrip s, mountedSet s with
  | none, some r, some m => releaseHead m r s
  | some .profile, some r, _ =>
    if s.moulder.length < getPar s .moulderCapacity ∧ s.gapTimer = none ∧ s.mismatch ≠ some r.ticket then
      raise .profileMismatch { s with mismatch := some r.ticket }
    else s
  | _, _, _ => s

/-! ### Changing the mounted set (R70) -/

/-- The set that was mounted becomes UNMOUNTED (R70 step 1, R66). -/
def unmount (s : State) : State :=
  match mountedSet s with
  | none => s
  | some m => { s with tools := modifyAt s.tools m (fun t => { t with state := .unmounted }) }

/-- A pending tool change completes (R70). -/
def completeChange (m : Fin 4) (s : State) : State :=
  let s := classifyTool m .unmounted (unmount s)
  releaseTest (raise .toolChanged { s with pendingChange := none })

/-- The drain test: a pending change completes when the moulder queue is empty (R70). -/
def drainTest (s : State) : State :=
  match s.pendingChange with
  | none => s
  | some m => if s.moulder = [] then completeChange m s else s

/-! ### The transit monitor (R78) -/

/-- The head entry of the moulder queue whose AGE exceeds MOULDER_TRANSIT_MS. -/
def lateHead (s : State) : Option MoulderEntry :=
  s.moulder.head?.filter (fun e => getPar s .moulderTransitMs < e.age)

/-- Removes, from the head, up to `n` entries whose AGE exceeds the limit (R78). -/
def transitTest : Nat → State → State
  | 0, s => s
  | n + 1, s =>
    match lateHead s with
    | none => s
    | some e => transitTest n (drainTest (releaseTest (retire e.ticket .lostMoulder s)))

/-! ### PE3 (R79 to R81) -/

/-- The worn-tool cap on a disposition: grades better than the cap become the cap; a cap of 0 is off (R81). -/
def capped (cap : Nat) : Disposition → Disposition
  | .graded g => if h : 1 ≤ cap ∧ cap ≤ 6 then
      (if g.val + 1 < cap then .graded ⟨cap - 1, by omega⟩ else .graded g) else .graded g
  | d => d

/-- The worn-tool cap applied to a record at its PE3 match (R81). -/
def applyCap (cap : Nat) (r : Strip) : Strip :=
  if r.wornAtRelease = some true then { r with disposition := r.disposition.map (capped cap) } else r

/-- A strip in holding that a newer match displaces is retired LOST_TRANSFER (R90). -/
def displaceHolding (s : State) : State :=
  match s.holding with
  | none => s
  | some t => retire t .lostTransfer s

/-- A filtered leading edge of SI2: a match with the head of the moulder queue, or PHANTOM_MOULDER (R79, R80, R90). -/
def pe3Edge (s : State) : State :=
  match s.moulder with
  | [] => raise .phantomMoulder s
  | e :: rest =>
    let s := displaceHolding { s with moulder := rest }
    let s := updateStrip e.ticket (fun r => { r with stage := .atTransfer })
      { s with holding := some e.ticket, window := getPar s .transferWindow }
    let s := updateStrip e.ticket (applyCap (getPar s .wornGradeCap)) s
    drainTest (releaseTest s)

/-! ### Withdrawal (R45, R75, R184) -/

/-- A station's PENDING reports are withdrawn, and the release test of the gate is made (R45, R75, R184 step 3). -/
def withdrawReports (a : Fin 4) (s : State) : State :=
  releaseTest ((withdrawnTickets a s).foldl withdrawReport s)

end Sys2Proof.Machine
end

