-- ==== Sys2Proof/Machine/Infeed.lean ====
section
/-! DEFINITION. The infeed queue (02): PE1 edges, lengths, arrivals at PE2, placeholders, and the position lookup of
QUERY_AT (R26 to R29, R33 to R35). -/

namespace Sys2Proof.Machine

open Sys2Proof

/-! ### Measuring at PE1 -/

/-- The travel from LEAD_POS to a position, in mm, rounded down (R29, R33). -/
def travelMm (cpm : Nat) (leadPos position : Pos) : Nat := (position - leadPos).toNat * 1000 / cpm

/-- A record with its LENGTH completed at a capture; above 4,095 it is 4,095 and DOUBT is set (R29). A record in
MEASURING holds LEAD_POS (log 22). -/
def completeLength (cpm : Nat) (capture : Pos) (r : Strip) : Strip :=
  let mm := travelMm cpm (r.leadPos.getD 0) capture
  if Config.lengthMax < mm then { r with length := some Config.lengthMax, doubt := true }
  else { r with length := some mm }

/-- A created record joins the infeed queue at its tail; the permit latch is evaluated (R25, R30). -/
def joinInfeed (stage : Stage) (add : Strip → Strip) (s : State) : State :=
  let t := nextTicketOf s
  let s := createStrip stage add s
  evalPermit { s with infeed := s.infeed ++ [t] }

/-- A PE1 leading edge on a full queue: the kicker is pulsed in RUNNING or HOLD, and OVERRUN is raised (R27, log 6). -/
def overrun (s : State) : State :=
  raise .overrun (if actuatorsAct s then startPulse .kick .kickPulseMs s else s)

/-- A filtered leading edge of SI0 with its INF capture (R26, R27). -/
def pe1Leading (capture : Pos) (s : State) : State :=
  if s.infeed.length < Config.infeedCapacity then
    joinInfeed .measuring (fun r => { r with leadPos := some capture }) s
  else overrun s

/-- The ticket's record, now with a LENGTH, joins the plan queue when it holds a report (R28, R34, R46). -/
def joinIfReported (t : Nat) (s : State) : State :=
  if (findStrip t s).any (fun r => r.reportFrom.isSome) then joinPlan t s else s

/-- A filtered trailing edge of SI0 with its INF capture (R28). -/
def pe1Trailing (capture : Pos) (s : State) : State :=
  match measuringTicket s with
  | none => s
  | some t =>
    joinIfReported t
      (updateStrip t (fun r => { completeLength (getPar s .infeedCpm) capture r with stage := .infeed }) s)

/-! ### Arrival at PE2 -/

/-- The records of the infeed queue, oldest first. -/
def infeedStrips (s : State) : List Strip := s.infeed.filterMap (fun t => findStrip t s)

/-- STAGE is MEASURING or INFEED. -/
def unarrived (r : Strip) : Bool := r.stage == .measuring || r.stage == .infeed

/-- The record as it arrives: WAITING, a length still absent completed with DOUBT (R34). -/
def arrivedStrip (cpm : Nat) (position : Pos) (r : Strip) : Strip :=
  let r := if r.stage = .measuring then { completeLength cpm position r with doubt := true } else r
  { r with stage := .waiting }

/-- The arrival of a record: the four rows of R34. -/
def arriveStrip (r : Strip) (s : State) : State :=
  let s := updateStrip r.ticket (arrivedStrip (getPar s .infeedCpm) s.inf.position) s
  if r.reportFrom.isNone then writeDefault r.ticket s
  else if r.stage = .measuring then joinPlan r.ticket s
  else s

/-- An arrival that finds no unarrived record: PHANTOM_GATE, and a placeholder while the queue has room (R35). -/
def phantomGate (s : State) : State :=
  let s := raise .phantomGate s
  if s.infeed.length < Config.infeedCapacity then joinInfeed .waiting placeholder s else s

/-- A filtered leading edge of SI1 (R34, R35, R72). -/
def pe2Arrival (s : State) : State :=
  releaseTest
    (match (infeedStrips s).find? unarrived with
     | some r => arriveStrip r s
     | none => phantomGate s)

/-! ### Position lookup (R33) -/

/-- FRONT of a record, in mm (R33 step 1; log 22). -/
def frontOf (s : State) (r : Strip) : Nat := travelMm (getPar s .infeedCpm) (r.leadPos.getD 0) s.inf.position

/-- The record covers a station's position (R33 step 2; an INFEED record holds its LENGTH, log 22). -/
def covers (s : State) (pos : Nat) (r : Strip) : Bool :=
  unarrived r && pos ≤ frontOf s r && (r.stage == .measuring || frontOf s r < pos + r.length.getD 0)

/-- The oldest covering record (R33). -/
def lookup (s : State) (pos : Nat) : Option Strip := (infeedStrips s).find? (covers s pos)

end Sys2Proof.Machine
end

