-- ==== Sys2Proof/Machine/Encoders.lean ====
section
/-! DEFINITION. Encoders (01): quadrature decoding, the reverse monitor and the speed monitor, and what a count of INF or CH
does (R11 to R13, R15 to R17). -/

namespace Sys2Proof.Machine

open Sys2Proof

/-! ### Quadrature decoding and the reverse monitor (R11 to R13) -/

/-- The place of a pair in the forward sequence low-low, high-low, high-high, low-high (R11). -/
def pairPlace (a b : Bool) : Fin 4 :=
  match a, b with
  | false, false => 0
  | true, false => 1
  | true, true => 2
  | false, true => 3

/-- The direction of a change of the pair; none for a pair that is the same or differs in both lines (R11). -/
def countOf (e : Encoder) (a b : Bool) : Option Direction :=
  let d := pairPlace a b - pairPlace e.pairA e.pairB
  if d = 1 then some .forward else if d = 3 then some .reverse else none

/-- EXCURSION after a count (R12). -/
def excursionAfter (d : Direction) (n : Nat) : Nat :=
  match d with
  | .forward => n - 1
  | .reverse => min Config.excursionMax (n + 1)

/-- The encoder after a count, its reverse monitor's report aside (R11, R12). -/
def countEncoder (a b : Bool) (d : Direction) (e : Encoder) : Encoder :=
  let n := excursionAfter d e.excursion
  { position := match d with
      | .forward => e.position + 1
      | .reverse => e.position - 1,
    direction := d, excursion := n, reverseReported := e.reverseReported && n != 0, pairA := a, pairB := b }

/-- The reverse monitor raises at this count (R12). -/
def reverseRaises (limit : Nat) (d : Direction) (e : Encoder) : Bool :=
  d == .reverse && decide (limit < e.excursion) && !e.reverseReported

/-- The pair of a unit becomes the reference pair (R11). -/
def setPair (unit : EncUnit) (a b : Bool) (s : State) : State :=
  match unit with
  | .inf => { s with inf := { s.inf with pairA := a, pairB := b } }
  | .ch => { s with ch := { s.ch with pairA := a, pairB := b } }

/-- A count of INF (R11 to R13): a reverse count sets DOUBT on the record in MEASURING. -/
def infCount (a b : Bool) (d : Direction) (s : State) : State :=
  let s := { s with inf := countEncoder a b d s.inf }
  let s := if d = .reverse then doubtMeasuring s else s
  if reverseRaises (getPar s .infeedReverseLimit) d s.inf then
    raise .infeedReverse { s with inf := { s.inf with reverseReported := true } }
  else s

/-- SPEED of a history: 0 until it is full (R16). -/
def speedOf (history : List Clock) : Nat :=
  match history with
  | [] => 0
  | first :: _ =>
    if history.length < Config.speedHistory then 0
    else 64000000 / max 1 (history.getLastD first - first).toNat

/-- The history with a forward count's time appended, the oldest removed when it would hold 66 (R16). -/
def appendTime (t : Clock) (history : List Clock) : List Clock :=
  let h := history ++ [t]
  if Config.speedHistory < h.length then h.tail else h

/-- The history is emptied and SPEED becomes 0 (R17). -/
def emptyHistory (s : State) : State := { s with history := [], speed := 0 }

/-- The speed monitor at a CH count; the stall time restarts at every count (R16, R17). -/
def speedCount (d : Direction) (s : State) : State :=
  let s := { s with stall := some Config.stallMs }
  match d with
  | .forward =>
    let h := appendTime s.us s.history
    { s with history := h, speed := speedOf h }
  | .reverse => emptyHistory s

/-- The reverse monitor of CH raises CHAIN_REVERSE (R12). -/
def chReverseEvent (d : Direction) (s : State) : State :=
  if reverseRaises (getPar s .chainReverseLimit) d s.ch then
    raise .chainReverse { s with ch := { s.ch with reverseReported := true } }
  else s

/-- A piece of a count of CH: the points the count reaches (0), the notice to the Scheduler where the count turns the
chain (1), the reverse event (2) (R12, R13, R109 to R115). -/
def chPiece (d : Direction) (turns : Bool) (outputs : List (Fin 24)) (s : State) : Fin 3 → State
  | 0 => settleCount outputs s
  | 1 => if turns then turnToReverse s else s
  | 2 => chReverseEvent d s

/-- A count of CH (R11 to R13, R15 to R17): the encoder, the speed monitor, and then the pieces in the order of the
command, which can name any (log 5). -/
def chCount (a b : Bool) (d : Direction) (order : CountOrder) (s : State) : State :=
  let turns := s.ch.direction == .forward && d == .reverse
  (fullOrder 3 order.pieces).foldl (chPiece d turns order.outputs)
    (speedCount d { s with ch := countEncoder a b d s.ch })

/-- ENCODER_COUNT (R11): the pair of a unit now reads `a`, `b`. -/
def encoderCount (unit : EncUnit) (a b : Bool) (order : CountOrder) (s : State) : State :=
  match unit with
  | .inf =>
    match countOf s.inf a b with
    | none => setPair .inf a b s
    | some d => infCount a b d s
  | .ch =>
    match countOf s.ch a b with
    | none => setPair .ch a b s
    | some d => chCount a b d order s

end Sys2Proof.Machine
end

