-- ==== Sys2Proof/Machine/Chain.lean ====
section
/-! DEFINITION. The lug chain (05): the advance, its pitch check, carry-over, load, saw station and presentations, and
the retreat (R86 to R100, R133). -/

namespace Sys2Proof.Machine

open Sys2Proof

/-! ### The advance, steps 1 to 4 -/

/-- The travel of a pitch is outside three to five quarters of CHAIN_PITCH (R88). -/
def pitchBad (pitch : Nat) (counts : Int) : Bool :=
  decide (counts * 4 < 3 * (pitch : Int)) || decide (5 * (pitch : Int) < counts * 4)

/-- The pitch check against C0 (R88). -/
def pitchCheck (c0 : Pos) (s : State) : State :=
  match s.pitchRef with
  | none => { s with pitchRef := some c0 }
  | some ref =>
    let counts := signedDiff c0 ref
    let s := { s with pitchRef := some c0, lastPitch := some counts }
    if pitchBad (getPar s .chainPitch) counts then raise .pitchFault s else s

/-- The lug at offset 39 loses its record (R89, R99). -/
def carryOver (s : State) : State :=
  match s.lugs[lugAt s 39].ticket with
  | none => s
  | some t => retire t .carryover s

/-- A strip is put on the HEAD lug: STAGE ON_LUG and LUG, the lug's TICKET, SAW_DONE clear (R91, R92). -/
def putOnHead (t : Nat) (s : State) : State :=
  updateStrip t (fun r => { r with stage := .onLug, lug := some s.head })
    { s with lugs := s.lugs.set s.head { ticket := some t, sawDone := false } }

/-- The load of the holding strip (R91). -/
def loadHolding (t : Nat) (s : State) : State := putOnHead t { s with holding := none, window := 0 }

/-- The placeholder of a PE4 phantom (R92). -/
def phantomLug (s : State) : State :=
  let s := raise .phantomLug s
  let t := nextTicketOf s
  putOnHead t (createStrip .onLug placeholder s)

/-- The transfer window counts down, and at 0 the holding strip is written off (R93). -/
def countWindow (t : Nat) (s : State) : State :=
  let s := { s with window := s.window - 1 }
  if s.window = 0 then retire t .lostTransfer s else s

/-- PE4 and transfer holding at an advance (R91 to R93). -/
def loadPoint (s : State) : State :=
  match s.channels[3].level, s.holding with
  | .blocked, some t => loadHolding t s
  | .blocked, none => phantomLug s
  | .clear, some t => countWindow t s
  | .clear, none => s

/-! ### The advance, steps 5 and 6 -/

/-- The saw an ON_LUG record has armed at the saw station: the four conditions of R95. -/
def sawToArm (r : Strip) (lug : Lug) : Option (Fin 16) :=
  if r.disposition = some .rejected ∨ r.disposition = some .trimOut ∨ lug.sawDone = true then none else r.saw

/-- The presence check of the lug at the saw station (R94). -/
def presenceCheck (s : State) : State :=
  match s.lugs[lugAt s (getPar s .sawOffset)].ticket, s.channels[5].level with
  | some t, .clear => retire t .lostAtSaw s
  | none, .blocked => raise .phantomAtSaw s
  | _, _ => s

/-- The arming of the saw for a strip that is present at the saw station (R94, R95). -/
def sawArming (c0 : Pos) (s : State) : State :=
  let j := lugAt s (getPar s .sawOffset)
  match s.lugs[j].ticket, s.channels[5].level with
  | some t, .blocked =>
    match (findStrip t s).bind (fun r => sawToArm r s.lugs[j]) with
    | some i => arm (sawOut i) j t c0 s
    | none => s
  | _, _ => s

/-- The presentation of the lug at an offset: its intended lane is found afresh and armed when it is at that offset
(R97, R133). -/
def present (c0 : Pos) (o : Nat) (s : State) : State :=
  let j := lugAt s o
  match s.lugs[j].ticket.bind (fun t => findStrip t s) with
  | none => s
  | some r =>
    match intendedLane o r s with
    | none => s
    | some l => if s.lanes[l].dropOffset = o then arm (divOut l) j r.ticket c0 s else s

/-- The lane is the lowest-numbered at its DROP_OFFSET: each lug is presented once (R97). -/
def presents (s : State) (l : Fin 8) : Bool :=
  (indices 8).all (fun k => decide (l.val ≤ k.val) || s.lanes[k].dropOffset != s.lanes[l].dropOffset)

/-- One piece of steps 5 and 6: 0 is the saw's arming, l + 1 that of the lug at lane l's offset (R87). -/
def advancePiece (c0 : Pos) (s : State) (k : Fin 9) : State :=
  if h : k.val = 0 then sawArming c0 s
  else
    let l : Fin 8 := ⟨k.val - 1, by omega⟩
    if presents s l then present c0 s.lanes[l].dropOffset s else s

/-- One part of what follows the presence check: a piece of the advance, or a count of CH that comes before the armings of
the pieces after it arrive (R115). -/
def advancePart (c0 : Pos) (s : State) : AdvancePart → State
  | .piece k => advancePiece c0 s k
  | .count a b order => encoderCount .ch a b order s

/-- The parts in the order of the command, each taken once; pieces it does not name come after those named, rising (log 5). -/
def fullParts (given : List AdvancePart) : List AdvancePart :=
  given.eraseDups ++ ((indices 9).map .piece).filter (fun p => !given.contains p)

/-- An advance (R87). Where a count of CH turns the chain between the advance and the arrival of its armings, those are
cancelled (R115). -/
def advance (c0 : Pos) (parts : List AdvancePart) (s : State) : State :=
  let s := presenceCheck (loadPoint (carryOver (pitchCheck c0 { s with head := s.head + 1 })))
  (fullParts parts).foldl (advancePart c0) s

/-- A retreat (R98, R99). -/
def retreat (s : State) : State := carryOver { s with head := s.head - 1, pitchRef := none }

end Sys2Proof.Machine
end

