-- ==== Sys2Proof/Machine/Sensing.lean ====
section
/-! DEFINITION. Sensing inputs (01): the filter channels, their edges and jam monitors, and the commands SAMPLE_TICK,
ENCODER_COUNT, JAM_TIMER_EXPIRY and SPEED_STALL_TIMEOUT (R2 to R17). -/

namespace Sys2Proof.Machine

open Sys2Proof

/-! ### Filter channels (R2 to R5) -/

/-- A raw line as a level: an asserted line reads BLOCKED (01 section 1.1). -/
def levelOf (asserted : Bool) : Level := if asserted then .blocked else .clear

/-- The kinds of filtered edge (01 section 1.1). -/
inductive EdgeKind where
  | leading | trailing
  deriving DecidableEq, Repr

/-- The filtered edge between two levels (R2). -/
def edgeOf (before after : Level) : Option EdgeKind :=
  match before, after with
  | .clear, .blocked => some .leading
  | .blocked, .clear => some .trailing
  | _, _ => none

/-- The DELAYED step (R3). -/
def stepDelayed (c : Channel) : Channel :=
  if c.sample ≠ c.level then
    if c.counter + 1 = c.threshold then { c with level := c.sample, counter := 0 }
    else { c with counter := c.counter + 1 }
  else if c.counter = 0 then c
  else { c with counter := c.counter - 1, glitch := true }

/-- LEVEL takes SAMPLE, and the edge starts an inhibit; no change when they agree, COUNTER being 0 (R4). -/
def startInhibit (c : Channel) : Channel :=
  if c.sample ≠ c.level then { c with level := c.sample, counter := 1 } else { c with counter := 0 }

/-- The IMMEDIATE step (R4). -/
def stepImmediate (c : Channel) : Channel :=
  if c.counter = 0 ∨ c.counter = c.threshold then startInhibit c
  else { c with counter := c.counter + 1, glitch := c.glitch || c.sample != c.prevSample }

/-- The BYPASS step (R5). -/
def stepBypass (c : Channel) : Channel := { c with level := c.sample, counter := 0 }

/-- The step of a channel's MODE; with THRESHOLD 0 every mode is BYPASS (R2 to R5). -/
def stepMode (c : Channel) : Channel :=
  if c.threshold = 0 then stepBypass c
  else match c.mode with
    | .delayed => stepDelayed c
    | .immediate => stepImmediate c
    | .bypass => stepBypass c

/-- The sample tick of one channel (R2). -/
def stepChannel (raw : Bool) (c : Channel) : Channel :=
  stepMode { c with prevSample := c.sample, sample := levelOf raw }

/-- The jam monitor's state at a filtered edge of its channel (R9). -/
def jamAtEdge (k : EdgeKind) (j : Jam) : Jam :=
  match k with
  | .leading => { j with state := .timing j.limitMs }
  | .trailing => { j with state := .clear }

/-- A channel after its tick, with its jam monitor's answer to the edge (R2, R9). -/
def tickChannel (raw : Bool) (c : Channel) : Channel :=
  let c' := stepChannel raw c
  match edgeOf c.level c'.level with
  | none => c'
  | some k => { c' with jam := c'.jam.map (jamAtEdge k) }

/-! ### The consumers of edges (01 section 1.1) -/

/-- A leading edge of SI4: an advance or a retreat by DIRECTION of CH, with the CH capture (R14, R87, R98). -/
def lugEdge (parts : List AdvancePart) (s : State) : State :=
  match s.ch.direction with
  | .forward => advance s.ch.position parts s
  | .reverse => retreat s

/-- Hands a filtered edge to the consumer of its channel (01 section 1.1, R14). -/
def deliverEdge (parts : List AdvancePart) (i : Fin 6) (k : EdgeKind) (s : State) : State :=
  match i, k with
  | 0, .leading => pe1Leading s.inf.position s
  | 0, .trailing => pe1Trailing s.inf.position s
  | 1, .leading => pe2Arrival s
  | 2, .leading => pe3Edge s
  | 4, .leading => lugEdge parts s
  | _, _ => s

/-- The glitch notice of SI0, when its GLITCH changes from clear to set (R6, R31). -/
def glitchNotice (i : Fin 6) (before after : Channel) (s : State) : State :=
  if i = 0 ∧ before.glitch = false ∧ after.glitch = true then doubtMeasuring s else s

/-- One channel's tick: the channel, its glitch notice, its edge at the consumer (R2, R6). -/
def sampleChannel (raw : BitVec 6) (parts : List AdvancePart) (s : State) (i : Fin 6) : State :=
  let before := s.channels[i]
  let after := tickChannel (raw.getLsbD i.val) before
  let s := glitchNotice i before after (updateChannel i (fun _ => after) s)
  match edgeOf before.level after.level with
  | none => s
  | some k => deliverEdge parts i k s

/-- SAMPLE_TICK (R2): the six channels, in the order of the command. -/
def sampleTick (raw : BitVec 6) (order : TickOrder) (s : State) : State :=
  (fullOrder 6 order.channels).foldl (sampleChannel raw order.parts) s

/-! ### Jam timers (R9) -/

/-- The jam event of a channel; SI4 has none (R9). -/
def jamEvent (i : Fin 6) : Option EventKind :=
  match i with
  | 0 => some .jam0
  | 1 => some .jam1
  | 2 => some .jam2
  | 3 => some .jam3
  | 4 => none
  | 5 => some .jam5

/-- The channel's jam timer has run out (R9). -/
def jamDue (s : State) (i : Fin 6) : Bool := s.channels[i].jam.any (fun j => j.state == .timing 0)

/-- The expiry of a channel's jam timer (R9). -/
def jamExpiry (i : Fin 6) (s : State) : State :=
  let s := updateChannel i (fun c => { c with jam := c.jam.map (fun j => { j with state := .jammed }) }) s
  match jamEvent i with
  | some k => raise k s
  | none => s

/-! ### The commands -/

/-- SAMPLE_TICK (R2). While RESET is held nothing samples (R204, log 12). -/
def execSampleTick (raw : BitVec 6) (order : TickOrder) (s : State) : Host.Outcome State Fault Refusal :=
  .next (if s.resetHeld then s else sampleTick raw order s)

/-- JAM_TIMER_EXPIRY (R9). A timer that has not run out does not expire (log 2). -/
def execJamTimerExpiry (i : Fin 6) (s : State) : Host.Outcome State Fault Refusal :=
  .next (if !s.resetHeld && jamDue s i then jamExpiry i s else s)

/-- ENCODER_COUNT (R11). While RESET is held only the pair is followed, so that the level at the end of reset becomes the
reference (R19, log 12). -/
def execEncoderCount (unit : EncUnit) (a b : Bool) (order : CountOrder) (s : State) :
    Host.Outcome State Fault Refusal :=
  .next (if s.resetHeld then setPair unit a b s else encoderCount unit a b order s)

/-- SPEED_STALL_TIMEOUT (R17). A stall time that has not run out is no timeout (log 2). -/
def execSpeedStallTimeout (s : State) : Host.Outcome State Fault Refusal :=
  .next (if !s.resetHeld && s.stall == some 0 then emptyHistory { s with stall := none } else s)

end Sys2Proof.Machine
end

