-- ==== Sys2Proof/Machine/Timers.lean ====
section
/-! DEFINITION. The commands that stand for a time running out inside the part, for the Plan Engine's start and
completion, and for the pins of the Dispatch Port. A command whose time has not run out, or whose condition does not
hold, is not that event: it changes nothing (log 2). While RESET is held only the pins follow (log 12). -/

namespace Sys2Proof.Machine

open Sys2Proof

/-! ### Time pulses and the gate (R74, R78, R119) -/

/-- The time pulse is ON with no time left (R119). -/
def pulseDue (p : TimePulse) (s : State) : Bool :=
  s.pulses[pulseIdx p].on && s.pulses[pulseIdx p].msLeft == 0

/-- A time pulse ends (R119). -/
def endPulse (p : TimePulse) (s : State) : State :=
  { s with pulses := modifyAt s.pulses (pulseIdx p) (fun q => { q with on := false, msLeft := 0 }) }

/-- TIME_PULSE_EXPIRY (R119). -/
def execTimePulseExpiry (p : TimePulse) (s : State) : Host.Outcome State Fault Refusal :=
  .next (if !s.resetHeld && pulseDue p s then endPulse p s else s)

/-- GAP_TIMER_EXPIRY (R74): GAP_TIMER becomes EXPIRED, and the release test is made. -/
def execGapTimerExpiry (s : State) : Host.Outcome State Fault Refusal :=
  .next (if !s.resetHeld && s.gapTimer == some 0 then releaseTest { s with gapTimer := none } else s)

/-- MOULDER_TRANSIT_EXPIRY (R78). -/
def execMoulderTransitExpiry (s : State) : Host.Outcome State Fault Refusal :=
  .next (if s.resetHeld then s else transitTest s.moulder.length s)

/-! ### The Plan Engine (R47, R48) -/

/-- EVALUATION_START (R47). -/
def execEvaluationStart (s : State) : Host.Outcome State Fault Refusal :=
  .next (if s.resetHeld then s else startEvaluation s)

/-- EVALUATION_COMPLETION (R48, R72). -/
def execEvaluationCompletion (s : State) : Host.Outcome State Fault Refusal :=
  .next (if !s.resetHeld && s.engine.isSome then releaseTest (finishEvaluation s) else s)

/-! ### Drop watch (R143) -/

/-- DROP_WATCH_EXPIRY (R143) on a lane. -/
def execDropWatchExpiry (l : Fin 8) (s : State) : Host.Outcome State Fault Refusal :=
  .next (if !s.resetHeld && watchDue l s then expireWatch l s else s)

/-! ### The Dispatch Port (R160 to R163) -/

/-- A strobe whose STROBE_US has passed (R159). -/
def strobeDue (s : State) : Bool := s.port.handshake == .strobe && s.port.strobeLeft == 0

/-- STROBE_END (R160). -/
def execStrobeEnd (s : State) : Host.Outcome State Fault Refusal :=
  .next (if !s.resetHeld && strobeDue s then endStrobe s else s)

/-- PBUSY takes a level. -/
def setPbusy (high : Bool) (s : State) : State := { s with port := { s.port with pbusy := high } }

/-- PBUSY_CHANGE (R160): PBUSY now reads `high`. A level it already has is no change. -/
def execPbusyChange (high : Bool) (s : State) : Host.Outcome State Fault Refusal :=
  .next (if s.resetHeld then setPbusy high s
         else if s.port.pbusy = high then s
         else busyEdge high (setPbusy high s))

/-- PFAULT takes a level. -/
def setPfault (asserted : Bool) (s : State) : State := { s with port := { s.port with pfault := asserted } }

/-- PFAULT_CHANGE (R162): PFAULT now reads `asserted`. A level it already has is no change. -/
def execPfaultChange (asserted : Bool) (s : State) : Host.Outcome State Fault Refusal :=
  .next (if s.resetHeld then setPfault asserted s
         else if s.port.pfault = asserted then s
         else if asserted then faultAsserted (setPfault true s)
         else faultCleared (setPfault false s))

/-- HANDSHAKE_TIMEOUT (R163). -/
def execHandshakeTimeout (s : State) : Host.Outcome State Fault Refusal :=
  .next (if !s.resetHeld && s.port.timer == some 0 then portTimeout s else s)

end Sys2Proof.Machine
end

