-- ==== Sys2Proof/Machine/Reads.lean ====
section
/-! DEFINITION. What the reading commands and the station queries carry, encoded as R211 gives it (R20, R36, R37, R50,
R83, R103, R123, R148, R171, R180, R186, R199, R208). The order within a payload is that of the owning rule's list, and
of the field table it refers to (log 8). -/

namespace Sys2Proof.Machine

open Sys2Proof

/-! ### Strip records (R36, R37, R64, R180) -/

def stageBytes (x : Stage) : List Byte := enumByte stages x

/-- PLAN: its state, and for DONE its kind (R64). R211 gives no form for a value that carries another item: DESIGN CHOICE,
the item follows the code, with no presence byte (log 30). -/
def planBytes : Plan → List Byte
  | .none => [0]
  | .pending => [1]
  | .running => [2]
  | .done k => 3 :: enumByte planKinds k

/-- A defect entry: KIND, START, END, SIZE (R212). -/
def defectBytes (d : Defect) : List Byte := enumByte defectKinds d.kind ++ u16 d.start ++ u16 d.stop ++ u8 d.size

/-- The result fields of a plan: SAW, KEPT, COMPUTED_GRADE, MANUAL_GRADE, DISPOSITION (R64). -/
def planFieldBytes (r : Strip) : List Byte :=
  planBytes r.plan ++ optional (fun i => u8 i.val) r.saw ++ optional u16 r.kept
    ++ optional computedGradeByte r.computedGrade ++ optional manualGradeByte r.manualGrade
    ++ optional dispositionByte r.disposition

/-- The places of LIST_QUEUE, in their order (R37). -/
inductive Place where
  | infeed | moulder | transfer | chain
  deriving DecidableEq, Repr

def places : List Place := [.infeed, .moulder, .transfer, .chain]

/-- The place of a record, by its stage (02 section 2.1). -/
def placeOf : Stage → Place
  | .measuring | .infeed | .waiting => .infeed
  | .inMoulder => .moulder
  | .atTransfer => .transfer
  | .onLug => .chain

/-- The position of a record within its place (R36). -/
def positionIn (s : State) (r : Strip) : Nat :=
  match placeOf r.stage with
  | .infeed => s.infeed.idxOf r.ticket
  | .moulder => (s.moulder.map (·.ticket)).idxOf r.ticket
  | .transfer => 0
  | .chain => (r.lug.map (offsetOf s)).getD 0

/-- The answer of READ_STRIP: the fields in the order of the table of 02 section 2.1, the place, the position (R36). R36
lists the defect list beside the fields: DEDUCED, DEFECTS is sent once, at its place in the table (log 8). -/
def stripPayload (s : State) (r : Strip) : List Byte :=
  u16 r.ticket ++ stageBytes r.stage ++ u16 r.lot ++ u8 r.species ++ optional (fun p => u24 p.toNat) r.leadPos
    ++ optional u16 r.length ++ flagByte r.doubt ++ optional u8 r.thickness ++ optional (listOf defectBytes) r.defects
    ++ optional (fun a => u8 (a.val + 1)) r.reportFrom ++ planFieldBytes r ++ optional (fun i => u8 i.val) r.toolSet
    ++ optional flagByte r.wornAtRelease ++ optional u8 r.width ++ optional (fun j => u8 j.val) r.lug
    ++ flagByte r.missedCut ++ enumByte places (placeOf r.stage) ++ u8 (positionIn s r)

/-- An infeed queue entry of LIST_QUEUE (R37). -/
def infeedEntryBytes (s : State) (t : Nat) : List Byte :=
  u16 t ++ (match findStrip t s with
    | some r => stageBytes r.stage
    | none => [])

/-- The loaded lugs in offset order: offset, lug number, ticket (R37). -/
def loadedLugs (s : State) : List (Nat × Fin 40 × Nat) :=
  (List.range 39).filterMap (fun o => (s.lugs[lugAt s o].ticket).map (fun t => (o, lugAt s o, t)))

/-- The answer of LIST_QUEUE (R37). -/
def listPayload (s : State) : Place → List Byte
  | .infeed => listOf (infeedEntryBytes s) s.infeed
  | .moulder => listOf (fun e : MoulderEntry => u16 e.ticket ++ u16 e.age) s.moulder
  | .transfer => listOf (fun t => u16 t ++ u8 s.window) s.holding.toList
  | .chain => listOf (fun e : Nat × Fin 40 × Nat => u8 e.1 ++ u8 e.2.1.val ++ u16 e.2.2) (loadedLugs s)

/-- The data of a FOUND answer of QUERY_TICKET (R180, R212). -/
def ticketData (s : State) (r : Strip) : List Byte :=
  u16 r.ticket ++ stageBytes r.stage ++ optional u16 r.length ++ flagByte r.doubt ++ optional u8 r.thickness
    ++ flagByte r.missedCut ++ planFieldBytes r
    ++ optional (fun j => u8 (offsetOf s j)) (if r.stage = .onLug then r.lug else none)

/-- The data of a FOUND answer of QUERY_AT: TICKET, STAGE, FRONT (R33, R212). -/
def lookupData (s : State) (r : Strip) : List Byte := u16 r.ticket ++ stageBytes r.stage ++ u24 (frontOf s r)

/-! ### The lug chain (R103) -/

/-- The answer of READ_LUG. -/
def lugPayload (s : State) (j : Fin 40) : List Byte :=
  u8 (offsetOf s j) ++ optional u16 s.lugs[j].ticket ++ flagByte s.lugs[j].sawDone ++ u8 s.head.val
    ++ optional (fun p => u24 p.toNat) s.pitchRef ++ optional s32 s.lastPitch ++ optional u16 s.holding ++ u8 s.window
    ++ u16 (getPar s .chainPitch) ++ u8 (getPar s .sawOffset) ++ u8 (getPar s .transferWindow)

/-! ### Grade tables (R50) -/

def gradeRowBytes (g : GradeRow) : List Byte :=
  flagByte g.enabled ++ u16 g.maxDensity ++ g.maxSize.toList.flatMap u8 ++ u8 g.price

/-- The answer of GET_GRADE: the row, the eight weights, the saw map. -/
def gradePayload (s : State) (g : Grade) : List Byte :=
  gradeRowBytes s.grades[g] ++ s.weights.toList.flatMap u8 ++ listOf u16 s.sawMap

/-! ### Tool sets and the gate (R83) -/

/-- A count of milliseconds left, or a stopped timer; the value listed first in the timer's table is coded 0. -/
def gapTimerBytes : Option Nat → List Byte
  | some ms => 0 :: u16 ms
  | none => [1]

/-- The hold reason of the gate, 9 when every condition holds (log 21). -/
def holdReasonBytes : Option HoldReason → List Byte
  | some r => enumByte holdReasons r
  | none => [9]

/-- The answer of READ_TOOL: the set, then the gate. -/
def toolPayload (s : State) (m : Fin 4) : List Byte :=
  let t := s.tools[m]
  flagByte t.configured ++ u8 t.profile ++ u8 t.width ++ u16 t.life ++ u8 t.warnPct ++ u32 t.used
    ++ enumByte toolStates t.state ++ optional (fun i => u8 i.val) (mountedSet s)
    ++ optional (fun i => u8 i.val) s.pendingChange ++ gapTimerBytes s.gapTimer ++ u8 s.moulder.length
    ++ optional u16 s.mismatch ++ holdReasonBytes (holdReason s)

/-! ### Lanes and bundles (R148) -/

/-- ALTERNATE: the lane's number, or 255 for NONE (R210). -/
def alternateBytes : Option (Fin 8) → List Byte
  | some l => u8 l.val
  | none => [255]

/-- A drop watch entry: FIRE_TIME, age, BUNDLE. -/
def watchBytes (s : State) (w : Watch) : List Byte := u32 w.fireTime.toNat ++ u16 (watchAge s w) ++ optional u16 w.bundle

/-- The answer of GET_LANE: the lane record in the order of its table, then the drop watch list. -/
def lanePayload (s : State) (l : Fin 8) : List Byte :=
  let r := s.lanes[l]
  enumByte laneKinds r.kind ++ flagByte r.enabled ++ u8 r.dropOffset ++ gradeByte r.grade ++ u16 r.minK ++ u16 r.maxK
    ++ alternateBytes r.alternate ++ u16 r.target ++ u8 r.maxStrips ++ u16 r.shortMm ++ u8 r.mixPct
    ++ enumByte laneStates r.state ++ u16 r.binCount ++ listOf (watchBytes s) r.watch

/-- The answer of READ_BUNDLE: the lane's STATE, the bundle record in the order of its table, and the HISTOGRAM. R148
lists the HISTOGRAM beside the fields: DEDUCED, it is sent once, behind them (log 8). -/
def bundlePayload (state : LaneState) (b : Bundle) : List Byte :=
  enumByte laneStates state ++ u16 b.number ++ gradeByte b.grade ++ optional u16 b.lot ++ optional u8 b.species
    ++ optional u8 b.width ++ u8 b.count ++ u32 b.coverage ++ u32 b.short ++ u16 b.targetCopy ++ u8 b.mixCopy
    ++ u16 b.shortCopy ++ flagByte b.doubtful ++ optional (enumByte closeReasons) b.closeReason ++ flagByte b.labelDone
    ++ flagByte b.cleared ++ b.histogram.toList.flatMap u8

/-! ### Labels and the Dispatch Port (R171) -/

/-- The number of labels ahead of the lane's label. -/
def labelPlace (s : State) (l : Fin 8) : Nat := (s.labels.map (·.lane)).idxOf l

/-- The answer of READ_LABEL: the label record in the order of its table, its place, and POSITION, absent but for a
PRINTING label, with the presence byte of R211 (R171, log 8). -/
def labelPayload (s : State) (b : Label) : List Byte :=
  u8 b.lane.val ++ u16 b.number ++ u16 b.lot ++ u8 b.species ++ gradeByte b.grade ++ u8 b.width ++ u8 b.count
    ++ u24 b.coverage ++ listOf (fun p : Nat × Nat => u16 p.1 ++ u8 p.2) b.lengths ++ flagByte b.doubtful
    ++ enumByte closeReasons b.closeReason ++ enumByte labelStates b.state ++ u8 b.tries ++ u8 (labelPlace s b.lane)
    ++ optional u8 (if b.state = .printing then some s.composed else none)

/-- TIMER of the port: STOPPED, or RUNNING with the ms remaining. -/
def portTimerBytes : Option Nat → List Byte
  | none => [0]
  | some ms => 1 :: u16 ms

/-- The answer of PORT_STATUS. -/
def portPayload (s : State) : List Byte :=
  enumByte portModes s.port.mode ++ u8 s.port.fifo.length ++ enumByte handshakes s.port.handshake
    ++ flagByte s.port.ackSeen ++ portTimerBytes s.port.timer ++ flagByte s.port.held ++ flagByte s.port.pbusy
    ++ flagByte s.port.pfault ++ optional (fun l : Fin 8 => u8 l.val ++ u8 s.composed) s.composing
    ++ listOf (fun b : Label => u8 b.lane.val ++ u16 b.number ++ enumByte labelStates b.state ++ u8 b.tries) s.labels

/-! ### The Station Link (R186) -/

/-- TRANSACTION, with the address concerned. DESIGN CHOICE: the address follows the code of SENDING or WAITING, with no
presence byte (log 30). -/
def transactionBytes : Transaction → List Byte
  | .idle => [0]
  | .sending a _ _ _ _ => 1 :: u8 (a.val + 1)
  | .waiting a _ _ => 2 :: u8 (a.val + 1)

/-- REPLY_TIMER: STOPPED, or RUNNING with the ms remaining. -/
def replyTimerBytes : Option Nat → List Byte
  | none => [0]
  | some ms => 1 :: u8 ms

/-- The answer of READ_STATION: the items of R186 in their order. DESIGN CHOICE: LINK_BAUD is sent as the rate itself, a
number of 3 bytes, and not as the one-byte code of an enumerated value (R185, R207, R211; log 39). -/
def stationPayload (s : State) (a : Fin 4) : List Byte :=
  let t := s.stations[a]
  enumByte roles t.role ++ u16 t.stationPos ++ enumByte stationStates t.state ++ u8 t.misses
    ++ optional (fun w : Answer => [w.kind, w.reqId, resultByte w.result]) t.pendingAnswer
    ++ optional (fun b : Byte => [b]) t.lastReqId ++ u8 s.pollPointer ++ transactionBytes s.transaction
    ++ replyTimerBytes s.replyTimer ++ u24 (getPar s .linkBaud) ++ u8 (getPar s .linkReplyMs)
    ++ u8 (getPar s .linkMissLimit)

/-! ### Events (R199, R211) -/

/-- ENABLED or DISABLED, ON or OFF: the value listed first is coded 0 (log 9). -/
def switchByte (first : Bool) : List Byte := enumByte firstSecond first

/-- LAST_ESCALATION: its kind, FROM, TO, and TIME. -/
def escalationBytes (e : Escalation) : List Byte :=
  enumByte eventKinds e.kind ++ enumByte lineStates e.before ++ enumByte lineStates e.after ++ u32 e.time.toNat

/-- FLAG, ROUTE, MASKED, SEVERITY of a kind. -/
def eventBytes (e : EventItem) : List Byte :=
  flagByte e.flag ++ enumByte routes e.route ++ flagByte e.masked ++ enumByte severities e.severity

/-- The answer of READ_EVENTS. -/
def eventsPayload (s : State) : List Byte :=
  enumByte lineStates s.line ++ switchByte s.escalation ++ optional escalationBytes s.lastEscalation
    ++ s.events.toList.flatMap eventBytes ++ flagByte (attention s .attn0) ++ flagByte (attention s .attn1)
    ++ flagByte (lineOk s)

/-! ### Inputs and outputs (R20, R123, R211) -/

/-- JAM_MS and JAM_STATE; both are 0 for SI4 (R211). -/
def jamBytes : Option Jam → List Byte
  | none => u16 0 ++ [0]
  | some j => u16 j.limitMs ++ (match j.state with
    | .clear => [0]
    | .timing _ => [1]
    | .jammed => [2])

/-- A channel's items (R20). -/
def channelBytes (c : Channel) : List Byte :=
  enumByte filterModes c.mode ++ u16 c.threshold ++ enumByte levels c.sample ++ enumByte levels c.level
    ++ flagByte c.glitch ++ jamBytes c.jam

/-- An encoder unit's items (R20). -/
def encoderBytes (e : Encoder) : List Byte :=
  u24 e.position.toNat ++ enumByte directions e.direction ++ u24 e.excursion ++ flagByte e.reverseReported

/-- A pulse: LUG, TICKET, LEAD, SET, CLEAR, and LANE for a pusher, whose output's number says that it follows (R123, log
8). -/
def pulseBytes (p : Pulse) : List Byte :=
  u8 p.lug.val ++ u16 p.ticket ++ u16 p.lead ++ u24 p.setAt.toNat ++ u24 p.clearAt.toNat
    ++ (match p.lane with
      | some l => u8 l.val
      | none => [])

/-- A counted output's items (R123). -/
def outBytes (s : State) (o : Fin 24) : List Byte :=
  switchByte (outLevel s o) ++ enumByte outStates s.outs[o].state ++ switchByte s.outs[o].forced
    ++ optional pulseBytes s.outs[o].active ++ optional pulseBytes s.outs[o].waiting

/-- The items of GATE, KICK or EJECT (R123). -/
def timePulseBytes (s : State) (p : TimePulse) : List Byte :=
  switchByte (pulseLevel s p) ++ switchByte s.pulses[pulseIdx p].forced ++ u16 s.pulses[pulseIdx p].msLeft

/-- The answer of READ_IO. -/
def ioPayload (s : State) : List Byte :=
  s.channels.toList.flatMap channelBytes ++ encoderBytes s.inf ++ encoderBytes s.ch ++ u32 s.speed
    ++ (indices 24).flatMap (outBytes s) ++ timePulseBytes s .gate ++ timePulseBytes s .kick ++ timePulseBytes s .eject
    ++ flagByte (infeedPermit s) ++ flagByte (lineOk s)

/-! ### Parameters (R207, R208) -/

/-- The answer of SET_PARAM: the code and the value stored (R207, log 10). -/
def storedPayload (p : Param) (value : Nat) : List Byte := u8 (paramCode p) ++ u32 value

/-- The answer of GET_PARAM: the code, the value, the low and high ends of its range (R208, log 10). -/
def paramPayload (s : State) (p : Param) : List Byte :=
  u8 (paramCode p) ++ u32 (getPar s p) ++ u32 (paramLow p) ++ u32 (paramHigh s p)

end Sys2Proof.Machine
end

