-- ==== Sys2Proof/Machine/Link.lean ====
section
/-! DEFINITION. The Station Link (09): polling, replies, misses, requests and their answers (R173 to R184). A reply's
command delivers the characters of its frame, or those that stand in their place (log 15). While RESET is held the link
takes nothing (log 12). -/

namespace Sys2Proof.Machine

open Sys2Proof

/-! ### Polls (R175) -/

/-- The addresses in the order that follows the address polled last, as entries of the station table (R175). -/
def pollOrder (pointer : Nat) : List (Fin 4) :=
  [Fin.ofNat 4 pointer, Fin.ofNat 4 (pointer + 1), Fin.ofNat 4 (pointer + 2), Fin.ofNat 4 (pointer + 3)]

/-- The station polled next (R175). -/
def nextStation (s : State) : Option (Fin 4) :=
  (pollOrder s.pollPointer).find? (fun a => s.stations[a].state != .disabled)

/-- A poll is begun, if the link is idle and a station is in service (R175 steps 1 and 2). -/
def beginPoll (s : State) : State :=
  match s.transaction, nextStation s with
  | .idle, some a =>
    let answer := s.stations[a].pendingAnswer
    { s with pollPointer := a.val + 1,
             transaction := .sending a (getPar s .linkBaud) (pollFrame a answer) answer.isSome false }
  | _, _ => s

/-- The last stop bit of the POLL has been sent: the reply window opens, or an abandoned poll ends (R175 step 3,
R184 step 2). -/
def pollSent (s : State) : State :=
  match s.transaction with
  | .sending a _ _ carried abandoned =>
    if abandoned then beginPoll { s with transaction := .idle }
    else { s with transaction := .waiting a carried [], replyTimer := some (getPar s .linkReplyMs) }
  | _ => s

/-! ### Replies (R176, R177) -/

/-- A good reply ends the transaction: steps 1 to 3 of R176. -/
def endTransaction (a : Fin 4) (carried : Bool) (s : State) : State :=
  updateStation a
    (fun t => { t with misses := 0,
                       state := if t.state = .offline then .online else t.state,
                       pendingAnswer := if carried then none else t.pendingAnswer })
    { s with replyTimer := none, transaction := .idle }

/-- A station after a miss (R177 step 2). -/
def missedStation (limit : Nat) (t : Station) : Station :=
  let n := min 15 (t.misses + 1)
  { t with misses := n, state := if t.state = .online ∧ limit ≤ n then .offline else t.state }

/-- A poll is missed (R177). -/
def missPoll (s : State) : State :=
  match s.transaction with
  | .waiting a _ _ =>
    let before := s.stations[a].state
    let s := updateStation a (missedStation (getPar s .linkMissLimit)) { s with transaction := .idle, replyTimer := none }
    beginPoll (if before = .online ∧ s.stations[a].state = .offline then raise .stationOffline s else s)
  | _ => s

/-! ### Requests (R178) -/

/-- What the execution of a request gives: the state, the result, its data. -/
abbrev Executed := State × Result × List Byte

/-- The station is owed an answer, which is also kept for a repeat (R178). -/
def owe (a : Fin 4) (w : Answer) (s : State) : State :=
  updateStation a
    (fun t => { t with lastReqId := some w.reqId, lastAnswer := some w, pendingAnswer := some w }) s

/-- A request of one of the six kinds: repeat, role, execution (R178). -/
def handleRequest (kind reqId : Byte) (permitted : List Role) (execute : Fin 4 → State → Executed) (a : Fin 4)
    (s : State) : State :=
  if s.stations[a].lastReqId = some reqId then
    updateStation a (fun t => { t with pendingAnswer := t.lastAnswer }) s
  else if !permitted.contains s.stations[a].role then
    owe a { kind := kind, reqId := reqId, result := .notPermitted, data := [] } s
  else
    let e := execute a s
    owe a { kind := kind, reqId := reqId, result := e.2.1, data := e.2.2 } e.1

/-- A request of a kind that is none of the six (R178). -/
def handleUnknown (kind reqId : Byte) (a : Fin 4) (s : State) : State :=
  if s.stations[a].lastReqId = some reqId then
    updateStation a (fun t => { t with pendingAnswer := t.lastAnswer }) s
  else owe a { kind := kind, reqId := reqId, result := .unknown, data := [] } s

/-- QUERY_AT (R179). -/
def queryAt (a : Fin 4) (s : State) : Executed :=
  match lookup s s.stations[a].stationPos with
  | some r => (s, .found, lookupData s r)
  | none => (s, .none, [])

/-- QUERY_TICKET (R180). -/
def queryTicket (ticket : Nat) (s : State) : Executed :=
  match findStrip ticket s with
  | some r => (s, .found, ticketData s r)
  | none => (s, .notFound, [])

/-- SCAN_REPORT (R43, R44). A report too short to name a ticket reads a free value (log 11). -/
def scanReport (args : List Byte) (a : Fin 4) (s : State) : Executed :=
  let (result, report) := checkReport args s
  let s := if args.length < 2 then { s with freeIndex := s.freeIndex + 1 } else s
  match report with
  | some (t, thickness, ds) => (takeReport a t thickness ds s, result, [])
  | none => (s, result, [])

/-- GRADE_OVERRIDE (R63). -/
def gradeOverride (ticket : Nat) (value : Byte) (s : State) : Executed :=
  match manualGradeOf value with
  | none => (s, .badValue, [])
  | some v => if isLive ticket s then (storeManual ticket v s, .taken, []) else (s, .notFound, [])

/-- DROP_SEEN (R142). -/
def dropSeen (lane : Byte) (s : State) : Executed :=
  match finOf 8 lane with
  | none => (s, .badValue, [])
  | some l =>
    match s.lanes[l].watch with
    | _ :: rest => (updateLane l (fun r => { r with watch := rest }) s, .taken, [])
    | [] => (raise .extraDrop s, .extra, [])

/-- BUNDLE_CLEARED (R144). -/
def bundleCleared (lane : Byte) (s : State) : Executed :=
  match finOf 8 lane with
  | none => (s, .badValue, [])
  | some l => if s.lanes[l].state = .closed then (setCleared l s, .taken, []) else (s, .wrongState, [])

/-- The work of a request in a good reply, by its kind (R178 to R182). -/
def serveRequest (reqId : Byte) : Request → Fin 4 → State → State
  | .queryAt => handleRequest 1 reqId [.scanner, .grader] queryAt
  | .queryTicket ticket => handleRequest 2 reqId [.scanner, .grader, .stacker] (fun _ => queryTicket ticket.toNat)
  | .scanReport args => handleRequest 3 reqId [.scanner] (scanReport args)
  | .gradeOverride ticket value => handleRequest 4 reqId [.grader] (fun _ => gradeOverride ticket.toNat value)
  | .dropSeen lane => handleRequest 5 reqId [.stacker] (fun _ => dropSeen lane)
  | .bundleCleared lane => handleRequest 6 reqId [.stacker] (fun _ => bundleCleared lane)
  | .unknown kind _ => handleUnknown kind reqId

/-- The work of a good reply: none for IDLE (R176 step 4). -/
def serveReply : ReplyBody → Fin 4 → State → State
  | .idle, _, s => s
  | .request reqId request, a, s => serveRequest reqId request a s

/-! ### Reception (R173, R175, R176) -/

/-- Characters arrive on LRX: in an open window they are collected until the reply is good, which ends the transaction, or
bad; after a bad reply, and outside a window, they are discarded. -/
def receive (cs : List Character) (s : State) : State :=
  match s.transaction with
  | .waiting a carried received =>
    if readReply a received = .incomplete then
      match readReply a (received ++ cs) with
      | .good body => beginPoll (serveReply body a (endTransaction a carried s))
      | _ => { s with transaction := .waiting a carried (received ++ cs) }
    else s
  | _ => s

/-- A reply arrives: its frame as it was sent, or the characters that stand in its place (log 15). -/
def takeReply (arrival : Arrival) (body : ReplyBody) (s : State) : State :=
  receive (arrival.wire.getD (sent (replyFrame arrival.addr body))) s

/-! ### The commands -/

/-- A command of the link, which takes nothing while RESET is held (log 12). -/
def linkCommand (act : State → State) (s : State) : Host.Outcome State Fault Refusal :=
  .next (if s.resetHeld then s else act s)

/-- POLL_SENT (R175). -/
def execPollSent (s : State) : Host.Outcome State Fault Refusal := linkCommand pollSent s

/-- IDLE_REPLY (R176). -/
def execIdleReply (arrival : Arrival) (s : State) : Host.Outcome State Fault Refusal :=
  linkCommand (takeReply arrival .idle) s

/-- REPLY_TIMER_EXPIRY (R177). A window that has time left does not end (log 2). -/
def execReplyTimerExpiry (s : State) : Host.Outcome State Fault Refusal :=
  linkCommand (fun s => if s.replyTimer = some 0 then missPoll s else s) s

/-- A request arrives in a reply. -/
def execRequest (reply : Reply) (request : Request) (s : State) : Host.Outcome State Fault Refusal :=
  linkCommand (takeReply reply.toArrival (.request reply.reqId request)) s

/-- QUERY_AT (R179). -/
def execQueryAt (reply : Reply) (s : State) : Host.Outcome State Fault Refusal := execRequest reply .queryAt s

/-- QUERY_TICKET (R180). -/
def execQueryTicket (reply : Reply) (ticket : BitVec 16) (s : State) : Host.Outcome State Fault Refusal :=
  execRequest reply (.queryTicket ticket) s

/-- SCAN_REPORT (R43, R181). -/
def execScanReport (reply : Reply) (args : List Byte) (s : State) : Host.Outcome State Fault Refusal :=
  execRequest reply (.scanReport args) s

/-- GRADE_OVERRIDE (R63, R181). -/
def execGradeOverride (reply : Reply) (ticket : BitVec 16) (value : Byte) (s : State) :
    Host.Outcome State Fault Refusal :=
  execRequest reply (.gradeOverride ticket value) s

/-- DROP_SEEN (R142, R182). -/
def execDropSeen (reply : Reply) (lane : Byte) (s : State) : Host.Outcome State Fault Refusal :=
  execRequest reply (.dropSeen lane) s

/-- BUNDLE_CLEARED (R144, R182). -/
def execBundleCleared (reply : Reply) (lane : Byte) (s : State) : Host.Outcome State Fault Refusal :=
  execRequest reply (.bundleCleared lane) s

/-- UNKNOWN_REQUEST (R178). The bytes of a kind that is one of the six are that request, or a bad reply (R176, log
20). -/
def execUnknownRequest (reply : Reply) (kind : Byte) (args : List Byte) (s : State) :
    Host.Outcome State Fault Refusal :=
  execRequest reply (.unknown kind args) s

end Sys2Proof.Machine
end

