-- ==== Sys2Proof/Machine/Port.lean ====
section
/-! DEFINITION. The Command Port (11): transactions, the checks of a frame, responses, and the resets (R201 to R206,
R210, R211). A host command stands for the transaction that carries its frame, taken when SS rises; TRANSACTION_BEGIN is
the fall of SS before it (log 14). -/

namespace Sys2Proof.Machine

open Sys2Proof

/-! ### Responses -/

/-- PENDING takes a response (R202, R211). -/
def respond (seq code : Byte) (status : Status) (payload : List Byte) (s : State) : State :=
  { s with cmd := { s.cmd with response := responseFrame seq code status payload } }

/-- What the execution of a command gives: the state, the status, the payload. -/
abbrev Answered := State × Status × List Byte

/-- A command answered OK with no payload. -/
def okay (s : State) : Answered := (s, .ok, [])

/-- A command refused: nothing changes (R211: a refusal carries no payload). -/
def refuse (status : Status) (s : State) : Answered := (s, status, [])

/-- OK_CLAMPED when something was clamped, OK otherwise (00 section 5.2). -/
def okOr (clamped : Bool) : Status := if clamped then .okClamped else .ok

/-- A read answered OK. -/
def report (payload : List Byte) (s : State) : Answered := (s, .ok, payload)

/-- Executes a command and stores its response (R202). -/
def answer (seq code : Byte) (run : State → Answered) (s : State) : State :=
  let e := run s
  respond seq code e.2.1 e.2.2 e.1

/-! ### Transactions (R201, R202) -/

/-- SS rises: ACTIVE is cleared; RX holds the bytes that reached it, and TX_INDEX counts the bytes of PENDING that went
out in the `clocked` bytes of the transaction (R201). -/
def endTransfer (rx : List Byte) (clocked : Nat) (s : State) : State :=
  { s with cmd := { s.cmd with rx := rx, rxPartial := 0, txIndex := min clocked s.cmd.response.length,
                               active := false, ssLow := false } }

/-- SS rises with ACTIVE clear, or while RESET is held: no frame is dealt with (R201, R204). -/
def raiseSs (s : State) : State := { s with cmd := { s.cmd with ssLow := false } }

/-- The port deals with a frame at the rise of SS. -/
def takesFrame (s : State) : Bool := !s.resetHeld && s.cmd.active

/-- The state as a command's execution finds it: the transaction has ended (R201). -/
def afterTransfer (x : Xfer) (code : Byte) (args : List Byte) (s : State) : State :=
  let frame := commandFrame x.seq code args
  endTransfer (rxOf frame) (frame.length + x.pad) s

/-- The transaction of a frame with a known command code and a good CRC: what is done after checks 1 to 3 of R202 is
`body`; a frame longer than check 1 allows is a bad frame (R210), and argument bytes that disagree with the command are
a bad argument. -/
def hostFrame (x : Xfer) (code : Byte) (args : List Byte) (body : State → State) (s : State) :
    Host.Outcome State Fault Refusal :=
  .next
    (if !takesFrame s then raiseSs s
     else
       let s := afterTransfer x code args s
       if Config.maxArgs < args.length then respond x.seq code .badFrame [] s
       else if !argsAgree code args then respond x.seq code .badArgument [] s
       else body s)

/-- The transaction of a command that is answered (R202). -/
def hostCommand (x : Xfer) (code : Byte) (args : List Byte) (run : State → Answered) (s : State) :
    Host.Outcome State Fault Refusal :=
  hostFrame x code args (answer x.seq code run) s

/-- TRANSACTION_BEGIN (R201): SS falls. An SS that is low already does not fall; while RESET is held no transaction
begins. -/
def execTransactionBegin (s : State) : Host.Outcome State Fault Refusal :=
  .next
    (if s.cmd.ssLow then s
     else if s.resetHeld then { s with cmd := { s.cmd with ssLow := true } }
     else { s with cmd := { s.cmd with active := true, rx := [], rxPartial := 0, txIndex := 0, ssLow := true } })

/-- EMPTY_TRANSACTION (R201): SS rises before a byte is complete; the partial byte is discarded and PENDING stays. -/
def execEmptyTransaction (_clocks : Fin 8) (s : State) : Host.Outcome State Fault Refusal :=
  .next (if takesFrame s then endTransfer [] 0 s else raiseSs s)

/-- A byte of RX as received, 0 when it did not arrive (R211). With a LENGTH of 0 or 1 the bytes after those it calls for
are padding, which R201 discards: DESIGN CHOICE, they count as not arrived (log 33). -/
def rxByte (rx : List Byte) (i : Nat) : Byte := rx[i]?.getD 0

/-- BAD_FRAME (R202): SS rises after the bytes `mosi`; the status of the check that fails, with SEQ and the command code
as received in RX (log 33). A transaction without a byte is ignored (R201); a frame that passes the checks is no command
of this row (log 20). -/
def execBadFrame (mosi : List Byte) (s : State) : Host.Outcome State Fault Refusal :=
  if !takesFrame s then .next (raiseSs s)
  else if mosi = [] then .next (endTransfer [] 0 s)
  else
    let rx := rxOf mosi
    match frameFault rx with
    | some status => .next (respond (rxByte rx 1) (rxByte rx 2) status [] (endTransfer rx mosi.length s))
    | none => .refused .illFormed

/-- NOP (R203): nothing is executed, and PENDING is left as it is. -/
def execNop (x : Xfer) (s : State) : Host.Outcome State Fault Refusal := hostFrame x 0x00 [] (fun s => s) s

/-! ### Resets (R204, R205) -/

/-- Every block takes its state after power-on reset; the levels of the pins stand as they do outside, and so does the
queue of commands (R204, R205, log 13). PRINTER_FAULT is raised for a PFAULT found asserted (R162). -/
def resetBlocks (cmd : CommandPort) (s : State) : State :=
  let r := { State.reset with
    inf := resetEncoder s.inf.pairA s.inf.pairB, ch := resetEncoder s.ch.pairA s.ch.pairB,
    port := resetPort s.port.pbusy s.port.pfault, cmd := cmd, freeIndex := s.freeIndex, pending := s.pending }
  if s.port.pfault then raise .printerFault r else r

/-- RESET_ASSERT (R204): the RESET line is held; a transaction in progress is abandoned. -/
def execResetAssert (s : State) : Host.Outcome State Fault Refusal :=
  .next { s with resetHeld := true, cmd := { s.cmd with active := false } }

/-- POWER_ON_RESET (R204): the RESET line is released. -/
def execPowerOnReset (s : State) : Host.Outcome State Fault Refusal :=
  .next (resetBlocks (resetCommandPort s.cmd.ssLow) s)

/-- The Command Port after a soft reset (R205). -/
def softCommandPort (seq : Byte) : CommandPort :=
  { resetCommandPort false with response := responseFrame seq 0x05 .resetDone [1] }

/-- SOFT_RESET (R205). -/
def execSoftReset (x : Xfer) (s : State) : Host.Outcome State Fault Refusal :=
  hostFrame x 0x05 [] (fun s => resetBlocks (softCommandPort x.seq) s) s

end Sys2Proof.Machine
end

