-- ==== Sys2Proof/Machine/LineControl.lean ====
section
/-! DEFINITION. Line control and the event commands (10), TRACK_CLEAR (11) and the maintenance override (06): R121, R188
to R190, R196 to R199, R206, R20 and R123. -/

namespace Sys2Proof.Machine

open Sys2Proof

/-! ### Line commands (R188 to R191) -/

/-- A line command's change of LINE_STATE: handed to the blocks, the release test among them (R191). -/
def changeLine (after : LineState) (s : State) : State := releaseTest (enterLine after s)

/-- LINE_START (R188). -/
def lineStart (s : State) : Answered :=
  match s.line with
  | .stopped | .hold => okay (changeLine .running s)
  | .running => okay s
  | .faultStop => refuse .wrongState s

/-- LINE_HOLD (R189). -/
def lineHold (s : State) : Answered :=
  match s.line with
  | .running => okay (changeLine .hold s)
  | .hold => okay s
  | .stopped | .faultStop => refuse .wrongState s

/-- LINE_STOP (R189). -/
def lineStop (s : State) : Answered :=
  match s.line with
  | .running | .hold => okay (changeLine .stopped s)
  | .stopped => okay s
  | .faultStop => refuse .wrongState s

/-- A flag of STOP severity is set, masked or not (R190). -/
def stopFlagSet (s : State) : Bool := s.events.toList.any (fun e => e.flag && e.severity == .stop)

/-- FAULT_ACK (R190). -/
def faultAck (s : State) : Answered :=
  match s.line with
  | .faultStop => if stopFlagSet s then refuse .busy s else okay (changeLine .stopped s)
  | .stopped | .running | .hold => refuse .wrongState s

def execLineStart (x : Xfer) (s : State) : Host.Outcome State Fault Refusal := hostCommand x 0x01 [] lineStart s

def execLineHold (x : Xfer) (s : State) : Host.Outcome State Fault Refusal := hostCommand x 0x02 [] lineHold s

def execLineStop (x : Xfer) (s : State) : Host.Outcome State Fault Refusal := hostCommand x 0x03 [] lineStop s

def execFaultAck (x : Xfer) (s : State) : Host.Outcome State Fault Refusal := hostCommand x 0x04 [] faultAck s

/-! ### TRACK_CLEAR (R40, R49, R84, R104, R149, R206) -/

/-- An evaluation in progress when every record is retired has its result dropped (R49). -/
def discardEvaluation (s : State) : State := { s with engine := s.engine.map (fun e => { e with discard := true }) }

/-- Every live record is retired TRACK_CLEARED and its place emptied, without an event; the actuator schedules, every drop
watch list, MISMATCH_TICKET (R40, R49, R84, R104, R149, R206). The FORCED values stay (R124). -/
def clearTracking (s : State) : State :=
  let s := discardEvaluation s
  evalPermit
    { s with strips := [], infeed := [], planQueue := [], moulder := [], holding := none, window := 0,
             lugs := mapTable (fun _ => emptyLug) s.lugs, mismatch := none, outs := mapTable idleOut s.outs,
             lanes := mapTable (fun l => { l with watch := [] }) s.lanes }

/-- TRACK_CLEAR (R206): a pending tool change then completes, and the release test is made. -/
def trackClear (s : State) : Answered :=
  if s.line = .stopped then okay (releaseTest (drainTest (clearTracking s))) else refuse .wrongState s

def execTrackClear (x : Xfer) (s : State) : Host.Outcome State Fault Refusal := hostCommand x 0x06 [] trackClear s

/-! ### Events (R196 to R199) -/

/-- The event kind of a code (R211). -/
def eventOf (b : Byte) : Option EventKind := enumOf eventKinds b

/-- The flag of a kind becomes clear (R198). -/
def clearFlag (s : State) (k : EventKind) : State :=
  { s with events := modifyAt s.events (eventIdx k) (fun e => { e with flag := false }) }

/-- CLEAR_EVENTS (R198). -/
def clearEvents (bytes : List Byte) (s : State) : Answered :=
  match allOf eventOf bytes with
  | some kinds => okay (kinds.foldl clearFlag s)
  | none => refuse .badArgument s

/-- SET_EVENT_ROUTE (R196). -/
def setEventRoute (kind route masked severity : Byte) (s : State) : Answered :=
  match eventOf kind, enumOf routes route, flagOf masked, enumOf severities severity with
  | some k, some r, some m, some v =>
    okay { s with events := modifyAt s.events (eventIdx k) (fun e => { e with route := r, masked := m, severity := v }) }
  | _, _, _, _ => refuse .badArgument s

/-- SET_ESCALATION (R197). -/
def setEscalation (value : Byte) (s : State) : Answered :=
  match enumOf firstSecond value with
  | some v => okay { s with escalation := v }
  | none => refuse .badArgument s

def execReadEvents (x : Xfer) (s : State) : Host.Outcome State Fault Refusal :=
  hostCommand x 0x60 [] (fun s => report (eventsPayload s) s) s

def execClearEvents (x : Xfer) (count : Byte) (bytes : List Byte) (s : State) : Host.Outcome State Fault Refusal :=
  hostCommand x 0x61 (count :: bytes) (clearEvents bytes) s

def execSetEventRoute (x : Xfer) (kind route masked severity : Byte) (s : State) : Host.Outcome State Fault Refusal :=
  hostCommand x 0x62 [kind, route, masked, severity] (setEventRoute kind route masked severity) s

def execSetEscalation (x : Xfer) (value : Byte) (s : State) : Host.Outcome State Fault Refusal :=
  hostCommand x 0x63 [value] (setEscalation value) s

/-! ### The maintenance override and READ_IO (R20, R121, R123) -/

/-- The FORCED value of an output after SET_OUTPUTS, by its number in the set and the clear list (R121). -/
def forcedAfter (sets clears : List Byte) (n : Nat) (forced : Bool) : Bool :=
  let b := BitVec.ofNat 8 n
  if sets.contains b && !clears.contains b then true
  else if clears.contains b && !sets.contains b then false
  else forced

/-- The FORCED values after SET_OUTPUTS (R121, R210 for the output numbers). -/
def forceOutputs (sets clears : List Byte) (s : State) : State :=
  { s with outs := Vector.ofFn (fun i : Fin 24 =>
             { s.outs[i] with forced := forcedAfter sets clears i.val s.outs[i].forced }),
           pulses := Vector.ofFn (fun i : Fin 3 =>
             { s.pulses[i] with forced := forcedAfter sets clears (24 + i.val) s.pulses[i].forced }) }

/-- SET_OUTPUTS (R121): the lists of its argument bytes, which follow the set count. -/
def setOutputs (setCount : Byte) (bytes : List Byte) (s : State) : Answered :=
  let sets := bytes.take setCount.toNat
  let clears := bytes.drop (setCount.toNat + 1)
  if s.line ≠ .stopped then refuse .wrongState s
  else if (sets ++ clears).any (fun b => 27 ≤ b.toNat) then refuse .badArgument s
  else okay (forceOutputs sets clears s)

def execSetOutputs (x : Xfer) (setCount : Byte) (bytes : List Byte) (s : State) : Host.Outcome State Fault Refusal :=
  hostCommand x 0x70 (setCount :: bytes) (setOutputs setCount bytes) s

def execReadIo (x : Xfer) (s : State) : Host.Outcome State Fault Refusal :=
  hostCommand x 0x71 [] (fun s => report (ioPayload s) s) s

end Sys2Proof.Machine
end

