-- ==== Sys2Proof/Machine/Settings.lean ====
section
/-! DEFINITION. The commands that write settings: parameters, grade tables, filters, the lot, and the reads of parameters
and tables (R6, R7, R32, R39, R50 to R53, R102, R120, R185, R207 to R209). -/

namespace Sys2Proof.Machine

open Sys2Proof

/-! ### SET_PARAM and GET_PARAM (R207 to R209) -/

/-- A structural parameter (R209). -/
def isStructural : Param → Bool
  | .infeedCpm | .chainPitch | .sawOffset => true
  | _ => false

/-- The four rates of LINK_BAUD (R185). -/
def linkRates : List Nat := [19200, 57600, 115200, 250000]

/-- Some lug holds a ticket (R102). -/
def anyLugLoaded (s : State) : Bool := s.lugs.toList.any (fun l => l.ticket.isSome)

/-- A SAW_OFFSET is at or beyond the DROP_OFFSET of a lane whose KIND is not UNUSED (R102). -/
def offsetMeetsLane (s : State) (v : Nat) : Bool :=
  s.lanes.toList.any (fun l => l.kind != .unused && l.dropOffset ≤ v)

/-- The status that refuses a value, in the order of steps 2 to 4 of R207; `v` is the value as step 5 clamps it. -/
def paramRefusal (s : State) (p : Param) (carried v : Nat) : Option Status :=
  if isStructural p ∧ s.line ≠ .stopped then some .wrongState
  else if p = .linkBaud ∧ carried ∉ linkRates then some .badArgument
  else if p = .sawOffset ∧ (anyLugLoaded s = true ∨ offsetMeetsLane s v = true) then some .wrongState
  else none

/-- A parameter lowered to an upper end it exceeds (R32, R120). -/
def lowerTo (bound : Nat) (p : Param) (s : State) : State :=
  if bound < getPar s p then putPar p bound s else s

/-- The counts held below CHAIN_PITCH (R120). -/
def pitchCounts : List Param := [.sawFireCounts, .sawHoldCounts, .divertFireCounts, .divertHoldCounts]

/-- The other parameters changed on account of one that has been stored (R32, R120, R207). -/
def adjustOthers (p : Param) (s : State) : State :=
  match p with
  | .infeedHighMark => lowerTo (getPar s .infeedHighMark - 1) .infeedLowMark s
  | .chainPitch => pitchCounts.foldl (fun s q => lowerTo (getPar s .chainPitch - 1) q s) s
  | _ => s

/-- Every entry of every drop watch list that has outlived DROP_CONFIRM_MS expires (R147). -/
def expireAll (s : State) : State :=
  (indices 8).foldl (fun s l => expireWatches l s.lanes[l].watch.length s) s

/-- What a write of a parameter sets off (R30, R72, R78, R147). -/
def paramEffect (p : Param) (s : State) : State :=
  match p with
  | .infeedHighMark | .infeedLowMark => evalPermit s
  | .moulderCapacity => releaseTest s
  | .moulderTransitMs => transitTest s.moulder.length s
  | .dropConfirmMs => expireAll s
  | _ => s

/-- SET_PARAM (R207). -/
def setParam (code : Byte) (value : BitVec 32) (s : State) : Answered :=
  match paramOf code with
  | none => refuse .badArgument s
  | some p =>
    let v := clampNat (paramLow p) (paramHigh s p) value.toNat
    match paramRefusal s p value.toNat v with
    | some status => refuse status s
    | none =>
      let stored := putPar p v s
      let adjusted := adjustOthers p stored
      (paramEffect p adjusted, okOr (v != value.toNat || adjusted.params != stored.params), storedPayload p v)

/-- GET_PARAM (R208). -/
def getParam (code : Byte) (s : State) : Answered :=
  match paramOf code with
  | none => refuse .badArgument s
  | some p => report (paramPayload s p) s

def execSetParam (x : Xfer) (code : Byte) (value : BitVec 32) (s : State) : Host.Outcome State Fault Refusal :=
  hostCommand x 0x10 (code :: be32 value) (setParam code value) s

def execGetParam (x : Xfer) (code : Byte) (s : State) : Host.Outcome State Fault Refusal :=
  hostCommand x 0x11 [code] (getParam code) s

/-! ### The grade tables (R50 to R52) -/

/-- SET_GRADE (R50). -/
def setGrade (row enabled : Byte) (maxDensity : BitVec 16) (maxSize : Vector Byte 8) (price : Byte) (s : State) :
    Answered :=
  match finFrom1 6 row, flagOf enabled with
  | some g, some e =>
    if s.engine.isSome then refuse .busy s
    else
      let r : GradeRow :=
        { enabled := e, maxDensity := maxDensity.toNat, maxSize := mapTable BitVec.toNat maxSize, price := price.toNat }
      okay { s with grades := s.grades.set g r }
  | _, _ => refuse .badArgument s

/-- GET_GRADE (R50). -/
def getGrade (row : Byte) (s : State) : Answered :=
  match finFrom1 6 row with
  | some g => report (gradePayload s g) s
  | none => refuse .badArgument s

/-- SET_WEIGHTS (R51). -/
def setWeights (weights : Vector Byte 8) (s : State) : Answered :=
  ({ s with weights := mapTable (fun b : Byte => min 15 b.toNat) weights },
   okOr (weights.toList.any (fun b => 15 < b.toNat)), [])

/-- Strictly increasing (R52). -/
def increasing : List Nat → Bool
  | a :: b :: rest => a < b && increasing (b :: rest)
  | _ => true

/-- SET_SAW_MAP (R52). -/
def setSawMap (bytes : List Byte) (s : State) : Answered :=
  let carried := positionsOf bytes
  let clamped := carried.map (clampNat 50 4000)
  if s.line ≠ .stopped ∨ s.strips ≠ [] then refuse .wrongState s
  else if increasing clamped then ({ s with sawMap := clamped }, okOr (clamped != carried), [])
  else refuse .badArgument s

def execSetGrade (x : Xfer) (row enabled : Byte) (maxDensity : BitVec 16) (maxSize : Vector Byte 8) (price : Byte)
    (s : State) : Host.Outcome State Fault Refusal :=
  hostCommand x 0x12 (row :: enabled :: (be16 maxDensity ++ maxSize.toList ++ [price]))
    (setGrade row enabled maxDensity maxSize price) s

def execGetGrade (x : Xfer) (row : Byte) (s : State) : Host.Outcome State Fault Refusal :=
  hostCommand x 0x13 [row] (getGrade row) s

def execSetWeights (x : Xfer) (weights : Vector Byte 8) (s : State) : Host.Outcome State Fault Refusal :=
  hostCommand x 0x14 weights.toList (setWeights weights) s

def execSetSawMap (x : Xfer) (count : Byte) (bytes : List Byte) (s : State) : Host.Outcome State Fault Refusal :=
  hostCommand x 0x15 (count :: bytes) (setSawMap bytes) s

/-! ### Filters and the lot (R6, R7, R10, R39) -/

/-- A channel as SET_FILTER writes it: MODE, THRESHOLD, COUNTER 0, and the jam limit where it is kept (R7, R10). -/
def filteredChannel (mode : FilterMode) (threshold jamMs : Nat) (c : Channel) : Channel :=
  { c with mode := mode, threshold := threshold, counter := 0, jam := c.jam.map (fun j => { j with limitMs := jamMs }) }

/-- SET_FILTER (R7). -/
def setFilter (channel mode : Byte) (threshold jamMs : BitVec 16) (s : State) : Answered :=
  match finOf 6 channel, enumOf filterModes mode with
  | some i, some m =>
    let v := clampNat 100 60000 jamMs.toNat
    (updateChannel i (filteredChannel m threshold.toNat v) s,
     okOr (s.channels[i].jam.isSome && v != jamMs.toNat), [])
  | _, _ => refuse .badArgument s

/-- CLEAR_GLITCH (R6). -/
def clearGlitch (channel : Byte) (s : State) : Answered :=
  match finOf 6 channel with
  | some i => okay (updateChannel i (fun c => { c with glitch := false }) s)
  | none => refuse .badArgument s

/-- SET_LOT (R39). -/
def setLot (lot : BitVec 16) (species : Byte) (s : State) : Answered :=
  ({ s with lot := lot.toNat, species := min 15 species.toNat }, okOr (15 < species.toNat), [])

def execSetFilter (x : Xfer) (channel mode : Byte) (threshold jamMs : BitVec 16) (s : State) :
    Host.Outcome State Fault Refusal :=
  hostCommand x 0x18 (channel :: mode :: (be16 threshold ++ be16 jamMs)) (setFilter channel mode threshold jamMs) s

def execSetLot (x : Xfer) (lot : BitVec 16) (species : Byte) (s : State) : Host.Outcome State Fault Refusal :=
  hostCommand x 0x19 (be16 lot ++ [species]) (setLot lot species) s

def execClearGlitch (x : Xfer) (channel : Byte) (s : State) : Host.Outcome State Fault Refusal :=
  hostCommand x 0x1B [channel] (clearGlitch channel) s

end Sys2Proof.Machine
end

