-- ==== Sys2Proof/Machine/StripCommands.lean ====
section
/-! DEFINITION. The host commands on strip records, lugs, the gate and tool sets (R36 to R38, R63, R65, R68, R69, R71,
R76, R83, R103). -/

namespace Sys2Proof.Machine

open Sys2Proof

/-! ### Records (R36 to R38, R63, R103) -/

/-- READ_STRIP (R36). -/
def readStrip (ticket : Nat) (s : State) : Answered :=
  match findStrip ticket s with
  | some r => report (stripPayload s r) s
  | none => refuse .notFound s

/-- LIST_QUEUE (R37). -/
def listQueue (place : Byte) (s : State) : Answered :=
  match enumOf places place with
  | some p => report (listPayload s p) s
  | none => refuse .badArgument s

/-- READ_LUG (R103). -/
def readLug (lug : Byte) (s : State) : Answered :=
  match finOf 40 lug with
  | some j => report (lugPayload s j) s
  | none => refuse .badArgument s

/-- REGRADE (R63). -/
def regrade (ticket : Nat) (value : Byte) (s : State) : Answered :=
  match manualGradeOf value with
  | none => refuse .badArgument s
  | some v => if isLive ticket s then okay (storeManual ticket v s) else refuse .notFound s

/-- PURGE (R38). -/
def purge (ticket : Nat) (s : State) : Answered :=
  match findStrip ticket s with
  | none => refuse .notFound s
  | some r => if r.stage = .onLug then okay (retire ticket .purged s) else refuse .wrongState s

def execReadStrip (x : Xfer) (ticket : BitVec 16) (s : State) : Host.Outcome State Fault Refusal :=
  hostCommand x 0x20 (be16 ticket) (readStrip ticket.toNat) s

def execListQueue (x : Xfer) (place : Byte) (s : State) : Host.Outcome State Fault Refusal :=
  hostCommand x 0x21 [place] (listQueue place) s

def execReadLug (x : Xfer) (lug : Byte) (s : State) : Host.Outcome State Fault Refusal :=
  hostCommand x 0x22 [lug] (readLug lug) s

def execRegrade (x : Xfer) (ticket : BitVec 16) (value : Byte) (s : State) : Host.Outcome State Fault Refusal :=
  hostCommand x 0x23 (be16 ticket ++ [value]) (regrade ticket.toNat value) s

def execPurge (x : Xfer) (ticket : BitVec 16) (s : State) : Host.Outcome State Fault Refusal :=
  hostCommand x 0x24 (be16 ticket) (purge ticket.toNat) s

/-! ### The gate (R76) -/

/-- The head record, when it is WAITING (R76 check 2). -/
def waitingHead (s : State) : Option Strip := (headStrip s).filter (fun r => r.stage == .waiting)

/-- EJECT_HEAD (R76). -/
def ejectHead (s : State) : Answered :=
  if !actuatorsAct s then refuse .wrongState s
  else match waitingHead s with
    | none => refuse .empty s
    | some r =>
      okay (releaseTest { retire r.ticket .ejected (startPulse .eject .ejectPulseMs s) with mismatch := none })

def execEjectHead (x : Xfer) (s : State) : Host.Outcome State Fault Refusal := hostCommand x 0x25 [] ejectHead s

/-! ### Tool sets (R65, R68, R69, R71, R83) -/

/-- The set of an index, when it is not mounted (R65, R68). -/
def isMounted (m : Fin 4) (s : State) : Bool := s.tools[m].state != .unmounted

/-- A tool set as SET_TOOL writes it (R65). -/
def describedTool (profile width life warnPct : Nat) (t : Tool) : Tool :=
  { t with configured := true, profile := profile, width := width, life := life, warnPct := warnPct }

/-- SET_TOOL (R65). -/
def setTool (set profile width : Byte) (life : BitVec 16) (warnPct : Byte) (s : State) : Answered :=
  match finOf 4 set with
  | none => refuse .badArgument s
  | some m =>
    if isMounted m s then refuse .wrongState s
    else
      let p := min 15 profile.toNat
      let w := clampNat 30 200 width.toNat
      let l := max 1 life.toNat
      let c := clampNat 1 100 warnPct.toNat
      ({ s with tools := modifyAt s.tools m (describedTool p w l c) },
       okOr (p != profile.toNat || w != width.toNat || l != life.toNat || c != warnPct.toNat), [])

/-- READ_TOOL (R83). -/
def readTool (set : Byte) (s : State) : Answered :=
  match finOf 4 set with
  | some m => report (toolPayload s m) s
  | none => refuse .badArgument s

/-- CHANGE_TOOLS (R69, R70). -/
def changeTools (set : Byte) (s : State) : Answered :=
  match finOf 4 set with
  | none => refuse .badArgument s
  | some m =>
    if s.tools[m].configured then okay (drainTest { s with pendingChange := some m }) else refuse .wrongState s

/-- CANCEL_CHANGE (R71). -/
def cancelChange (s : State) : Answered :=
  match s.pendingChange with
  | some _ => okay (releaseTest { s with pendingChange := none })
  | none => refuse .wrongState s

/-- RESET_WEAR (R68). -/
def resetWear (set : Byte) (s : State) : Answered :=
  match finOf 4 set with
  | none => refuse .badArgument s
  | some m =>
    if isMounted m s then refuse .wrongState s
    else okay { s with tools := modifyAt s.tools m (fun t => { t with used := 0 }) }

def execSetTool (x : Xfer) (set profile width : Byte) (life : BitVec 16) (warnPct : Byte) (s : State) :
    Host.Outcome State Fault Refusal :=
  hostCommand x 0x30 (set :: profile :: width :: (be16 life ++ [warnPct])) (setTool set profile width life warnPct) s

def execReadTool (x : Xfer) (set : Byte) (s : State) : Host.Outcome State Fault Refusal :=
  hostCommand x 0x31 [set] (readTool set) s

def execChangeTools (x : Xfer) (set : Byte) (s : State) : Host.Outcome State Fault Refusal :=
  hostCommand x 0x32 [set] (changeTools set) s

def execCancelChange (x : Xfer) (s : State) : Host.Outcome State Fault Refusal := hostCommand x 0x33 [] cancelChange s

def execResetWear (x : Xfer) (set : Byte) (s : State) : Host.Outcome State Fault Refusal :=
  hostCommand x 0x34 [set] (resetWear set) s

end Sys2Proof.Machine
end

