-- ==== Sys2Proof/Machine/LaneCommands.lean ====
section
/-! DEFINITION. The host commands on lanes, bundles, labels, the Dispatch Port and stations (R125 to R127, R138, R144,
R148, R165 to R168, R171, R174, R183, R184, R186). -/

namespace Sys2Proof.Machine

open Sys2Proof

/-! ### Lanes (R125 to R127, R148) -/

/-- The ten fields of SET_LANE as they are carried (R125). -/
structure LaneFields where
  kind       : LaneKind
  dropOffset : Nat
  grade      : Nat
  minK       : Nat
  maxK       : Nat
  alternate  : Option (Fin 8)
  target     : Nat
  maxStrips  : Nat
  shortMm    : Nat
  mixPct     : Nat
  deriving DecidableEq, Repr

/-- The fields clamped to their ranges; MAX_K below MIN_K is raised to MIN_K (R125 step 3). -/
def clampLane (sawOffset : Nat) (f : LaneFields) : LaneFields :=
  let minK := clampNat 0 4000 f.minK
  { f with dropOffset := clampNat (sawOffset + 1) 38 f.dropOffset, grade := clampNat 1 6 f.grade, minK := minK,
           maxK := max minK (clampNat 0 4000 f.maxK), target := clampNat 100 65535 f.target,
           maxStrips := clampNat 1 255 f.maxStrips, shortMm := clampNat 0 4000 f.shortMm,
           mixPct := clampNat 0 100 f.mixPct }

/-- A grade 1 to 6 as a number, held as its index. -/
def gradeIndex (n : Nat) : Grade := Fin.ofNat 6 (n - 1)

/-- A lane as SET_LANE writes it (R125). -/
def writtenLane (f : LaneFields) (l : Lane) : Lane :=
  { l with kind := f.kind, dropOffset := f.dropOffset, grade := gradeIndex f.grade, minK := f.minK, maxK := f.maxK,
           alternate := f.alternate, target := f.target, maxStrips := f.maxStrips, shortMm := f.shortMm,
           mixPct := f.mixPct, binCount := 0 }

/-- SET_LANE on a lane, its enumerated fields read (R125 steps 2 to 4). -/
def writeLane (l : Fin 8) (f : LaneFields) (s : State) : Answered :=
  let c := clampLane (getPar s .sawOffset) f
  if s.lanes[l].state ≠ .disabled then refuse .wrongState s
  else if c.dropOffset ≠ s.lanes[l].dropOffset ∧ s.line ≠ .stopped then refuse .wrongState s
  else (updateLane l (writtenLane c) s, okOr (c != f), [])

/-- SET_LANE (R125). -/
def setLane (lane kind dropOffset grade : Byte) (minK maxK : BitVec 16) (alternate : Byte) (target : BitVec 16)
    (maxStrips : Byte) (shortMm : BitVec 16) (mixPct : Byte) (s : State) : Answered :=
  match finOf 8 lane, enumOf laneKinds kind with
  | some l, some k =>
    match alternateOf l alternate with
    | none => refuse .badArgument s
    | some alt =>
      writeLane l { kind := k, dropOffset := dropOffset.toNat, grade := grade.toNat, minK := minK.toNat,
                    maxK := maxK.toNat, alternate := alt, target := target.toNat, maxStrips := maxStrips.toNat,
                    shortMm := shortMm.toNat, mixPct := mixPct.toNat } s
  | _, _ => refuse .badArgument s

/-- GET_LANE (R148). -/
def getLane (lane : Byte) (s : State) : Answered :=
  match finOf 8 lane with
  | some l => report (lanePayload s l) s
  | none => refuse .badArgument s

/-- ENABLED of a lane is set. -/
def setEnabled (l : Fin 8) (v : Bool) (s : State) : State := updateLane l (fun r => { r with enabled := v }) s

/-- LANE_ENABLE ON (R126). -/
def laneOn (l : Fin 8) (s : State) : Answered :=
  match s.lanes[l].kind, s.lanes[l].state with
  | .unused, _ => refuse .wrongState s
  | .bundle, .disabled => okay (openBundle l (setEnabled l true s))
  | _, .disabled => okay (updateLane l (fun r => { r with state := .opened }) (setEnabled l true s))
  | _, _ => okay (setEnabled l true s)

/-- LANE_ENABLE OFF (R127). -/
def laneOff (l : Fin 8) (s : State) : Answered :=
  let s := setEnabled l false s
  match s.lanes[l].state, s.lanes[l].bundle with
  | .opened, none => okay (updateLane l (fun r => { r with state := .disabled }) s)
  | .opened, some b =>
    if b.count = 0 then okay (updateLane l (fun r => { r with bundle := none, state := .disabled }) s)
    else okay (closeBundle l .forced s)
  | _, _ => okay s

/-- LANE_ENABLE (R126, R127). -/
def laneEnable (lane value : Byte) (s : State) : Answered :=
  match finOf 8 lane, enumOf firstSecond value with
  | some l, some true => laneOn l s
  | some l, some false => laneOff l s
  | _, _ => refuse .badArgument s

def execSetLane (x : Xfer) (lane kind dropOffset grade : Byte) (minK maxK : BitVec 16) (alternate : Byte)
    (target : BitVec 16) (maxStrips : Byte) (shortMm : BitVec 16) (mixPct : Byte) (s : State) :
    Host.Outcome State Fault Refusal :=
  hostCommand x 0x16
    (lane :: kind :: dropOffset :: grade ::
      (be16 minK ++ be16 maxK ++ [alternate] ++ be16 target ++ [maxStrips] ++ be16 shortMm ++ [mixPct]))
    (setLane lane kind dropOffset grade minK maxK alternate target maxStrips shortMm mixPct) s

def execGetLane (x : Xfer) (lane : Byte) (s : State) : Host.Outcome State Fault Refusal :=
  hostCommand x 0x17 [lane] (getLane lane) s

def execLaneEnable (x : Xfer) (lane value : Byte) (s : State) : Host.Outcome State Fault Refusal :=
  hostCommand x 0x42 [lane, value] (laneEnable lane value) s

/-! ### Bundles (R138, R144, R148) -/

/-- READ_BUNDLE (R148). -/
def readBundle (lane : Byte) (s : State) : Answered :=
  match finOf 8 lane with
  | none => refuse .badArgument s
  | some l =>
    match s.lanes[l].bundle with
    | some b => report (bundlePayload s.lanes[l].state b) s
    | none => refuse .empty s

/-- FORCE_CLOSE (R138). -/
def forceClose (lane : Byte) (s : State) : Answered :=
  match finOf 8 lane with
  | none => refuse .badArgument s
  | some l =>
    if s.lanes[l].kind ≠ .bundle ∨ s.lanes[l].state ≠ .opened then refuse .wrongState s
    else if s.lanes[l].bundle.all (fun b => b.count == 0) then refuse .empty s
    else okay (closeBundle l .forced s)

/-- CONFIRM_CLEAR (R144). -/
def confirmClear (lane : Byte) (s : State) : Answered :=
  match finOf 8 lane with
  | none => refuse .badArgument s
  | some l => if s.lanes[l].state = .closed then okay (setCleared l s) else refuse .wrongState s

def execReadBundle (x : Xfer) (lane : Byte) (s : State) : Host.Outcome State Fault Refusal :=
  hostCommand x 0x40 [lane] (readBundle lane) s

def execForceClose (x : Xfer) (lane : Byte) (s : State) : Host.Outcome State Fault Refusal :=
  hostCommand x 0x41 [lane] (forceClose lane) s

def execConfirmClear (x : Xfer) (lane : Byte) (s : State) : Host.Outcome State Fault Refusal :=
  hostCommand x 0x43 [lane] (confirmClear lane) s

/-! ### Labels (R165, R166, R171) -/

/-- READ_LABEL (R171). -/
def readLabel (lane : Byte) (s : State) : Answered :=
  match finOf 8 lane with
  | none => refuse .badArgument s
  | some l =>
    match labelOf l s with
    | some b => report (labelPayload s b) s
    | none => refuse .empty s

/-- LABEL_RETRY (R165). -/
def labelRetry (lane : Byte) (s : State) : Answered :=
  match finOf 8 lane with
  | none => refuse .badArgument s
  | some l =>
    match labelOf l s with
    | none => refuse .empty s
    | some b =>
      if b.state = .failed then
        okay (composerTest (updateLabel l (fun x => { x with state := .queued, tries := 0 }) s))
      else refuse .wrongState s

/-- LABEL_DISCARD (R166). -/
def labelDiscard (lane : Byte) (s : State) : Answered :=
  match finOf 8 lane with
  | none => refuse .badArgument s
  | some l =>
    match labelOf l s with
    | none => refuse .empty s
    | some b => if b.state = .printing then refuse .busy s else okay (handLabelDone l (removeLabel l s))

def execReadLabel (x : Xfer) (lane : Byte) (s : State) : Host.Outcome State Fault Refusal :=
  hostCommand x 0x44 [lane] (readLabel lane) s

def execLabelRetry (x : Xfer) (lane : Byte) (s : State) : Host.Outcome State Fault Refusal :=
  hostCommand x 0x45 [lane] (labelRetry lane) s

def execLabelDiscard (x : Xfer) (lane : Byte) (s : State) : Host.Outcome State Fault Refusal :=
  hostCommand x 0x46 [lane] (labelDiscard lane) s

/-! ### The Dispatch Port (R167, R168, R171) -/

/-- MODE takes a value. -/
def setMode (m : PortMode) (s : State) : State := { s with port := { s.port with mode := m } }

/-- A PRINTING label returns to QUEUED with TRIES unchanged, CURRENT absent and POSITION 0 (R167). -/
def returnPrinting (s : State) : State :=
  match s.composing with
  | some l => dropCurrent (updateLabel l (fun x => { x with state := .queued }) s)
  | none => s

/-- PORT_MODE from one mode to another (R167). -/
def changeMode (m : PortMode) (s : State) : Answered :=
  match s.port.mode, m with
  | .off, .direct => okay (setMode .direct s)
  | .direct, .off => okay (setMode .off (flushPort s))
  | .direct, .stream => if s.port.fifo = [] then okay (composerTest (setMode .stream s)) else refuse .busy s
  | .off, .stream => refuse .wrongState s
  | .stream, .direct => okay (setMode .direct (flushPort (returnPrinting s)))
  | .stream, .off => okay (setMode .off (flushPort (returnPrinting s)))
  | .off, .off | .direct, .direct | .stream, .stream => okay s

/-- PORT_MODE (R167). -/
def portMode (mode : Byte) (s : State) : Answered :=
  match enumOf portModes mode with
  | some m => changeMode m s
  | none => refuse .badArgument s

/-- PORT_WRITE (R168): the entries taken are those the FIFO has room for. -/
def portWrite (bytes : List Byte) (s : State) : Answered :=
  if s.port.mode ≠ .direct then refuse .wrongState s
  else match entriesOf bytes with
    | none => refuse .badArgument s
    | some es =>
      let taken := es.take (Config.fifoCapacity - s.port.fifo.length)
      (startHandshake { s with port := { s.port with fifo := s.port.fifo ++ taken } }, .ok, u8 taken.length)

def execPortMode (x : Xfer) (mode : Byte) (s : State) : Host.Outcome State Fault Refusal :=
  hostCommand x 0x50 [mode] (portMode mode) s

def execPortWrite (x : Xfer) (count : Byte) (bytes : List Byte) (s : State) : Host.Outcome State Fault Refusal :=
  hostCommand x 0x51 (count :: bytes) (portWrite bytes) s

def execPortStatus (x : Xfer) (s : State) : Host.Outcome State Fault Refusal :=
  hostCommand x 0x52 [] (fun s => report (portPayload s) s) s

/-! ### Stations (R174, R183, R184, R186) -/

/-- The station of an address 1 to 4. -/
def stationOf (address : Byte) : Option (Fin 4) := finFrom1 4 address

/-- SET_STATION (R174). -/
def setStation (address role : Byte) (stationPos : BitVec 16) (s : State) : Answered :=
  match stationOf address, enumOf roles role with
  | some a, some r =>
    if s.stations[a].state ≠ .disabled then refuse .wrongState s
    else
      (updateStation a (fun t => { t with role := r, stationPos := min 3000 stationPos.toNat }) s,
       okOr (3000 < stationPos.toNat), [])
  | _, _ => refuse .badArgument s

/-- STATION_ENABLE ON (R183). -/
def stationOn (a : Fin 4) (s : State) : State :=
  if s.stations[a].state = .disabled then
    beginPoll
      (updateStation a
        (fun t => { t with state := .online, misses := 0, pendingAnswer := none, lastReqId := none, lastAnswer := none })
        s)
  else s

/-- A poll of a station is abandoned: a POLL being sent goes on to its end, an open window closes (R184 step 2). -/
def abandonPoll (a : Fin 4) (s : State) : State :=
  match s.transaction with
  | .sending b baud frame carried _ =>
    if b = a then { s with transaction := .sending b baud frame carried true } else s
  | .waiting b _ _ => if b = a then beginPoll { s with transaction := .idle, replyTimer := none } else s
  | .idle => s

/-- STATION_ENABLE OFF (R184). -/
def stationOff (a : Fin 4) (s : State) : State :=
  if s.stations[a].state = .disabled then s
  else withdrawReports a (abandonPoll a (updateStation a (fun t => { t with state := .disabled, pendingAnswer := none }) s))

/-- STATION_ENABLE (R183, R184). -/
def stationEnable (address value : Byte) (s : State) : Answered :=
  match stationOf address, enumOf firstSecond value with
  | some a, some true => okay (stationOn a s)
  | some a, some false => okay (stationOff a s)
  | _, _ => refuse .badArgument s

/-- READ_STATION (R186). -/
def readStation (address : Byte) (s : State) : Answered :=
  match stationOf address with
  | some a => report (stationPayload s a) s
  | none => refuse .badArgument s

def execSetStation (x : Xfer) (address role : Byte) (stationPos : BitVec 16) (s : State) :
    Host.Outcome State Fault Refusal :=
  hostCommand x 0x1A (address :: role :: be16 stationPos) (setStation address role stationPos) s

def execStationEnable (x : Xfer) (address value : Byte) (s : State) : Host.Outcome State Fault Refusal :=
  hostCommand x 0x72 [address, value] (stationEnable address value) s

def execReadStation (x : Xfer) (address : Byte) (s : State) : Host.Outcome State Fault Refusal :=
  hostCommand x 0x73 [address] (readStation address) s

end Sys2Proof.Machine
end

