-- ==== Sys2Proof/Machine/Clock.lean ====
section
/-! DEFINITION. The part's own time: what step does on an empty queue (log 1). One microsecond passes, the timers that
run with it or with the millisecond clock run down, and the events whose time has come join the queue as commands (R1,
R9, R17, R47, R48, R74, R77, R78, R119, R143, R159, R163, R177). -/

namespace Sys2Proof.Machine

open Sys2Proof

/-- A running timer with a millisecond less. -/
def countDown (t : Option Nat) : Option Nat := t.map (· - 1)

/-- A jam timer with a millisecond less (R9). -/
def countJam (c : Channel) : Channel :=
  { c with jam := c.jam.map (fun j =>
      match j.state with
      | .timing n => { j with state := .timing (n - 1) }
      | _ => j) }

/-- A time pulse that is ON with a millisecond less; it runs in RUNNING and HOLD (R119). -/
def countPulse (p : PulseOut) : PulseOut := if p.on then { p with msLeft := p.msLeft - 1 } else p

/-- A moulder queue entry a millisecond older; ages run in RUNNING and HOLD (R77). -/
def olderEntry (e : MoulderEntry) : MoulderEntry := { e with age := e.age + 1 }

/-- A millisecond passes (R1). -/
def msTick (s : State) : State :=
  let s := { s with ms := s.ms + 1, channels := mapTable countJam s.channels, stall := countDown s.stall,
                    gapTimer := countDown s.gapTimer, replyTimer := countDown s.replyTimer,
                    port := { s.port with timer := countDown s.port.timer } }
  if actuatorsAct s then { s with pulses := mapTable countPulse s.pulses, moulder := s.moulder.map olderEntry } else s

/-- A microsecond passes; each thousandth moves the millisecond clock (R1, log 3). -/
def usTick (s : State) : State :=
  let s := { s with us := s.us + 1, port := { s.port with strobeLeft := s.port.strobeLeft - 1 } }
  if 999 ≤ s.usPhase then msTick { s with usPhase := 0 } else { s with usPhase := s.usPhase + 1 }

/-- The command, when its time has come. -/
def dueIf (b : Bool) (c : Instr) : List Instr := if b then [c] else []

/-- The evaluation in progress has run for its 200 µs (R48). -/
def evaluationDue (s : State) : Bool :=
  s.engine.any (fun e => decide (Config.evaluationUs ≤ (s.us - e.startUs).toNat))

/-- An evaluation can start: a ticket waits, and the engine is IDLE or becomes IDLE by the completion that is due (R47).
The start then follows the completion in the same microsecond, so that 17 evaluations take 3,400 µs (R48). -/
def startDue (s : State) : Bool := !s.planQueue.isEmpty && (s.engine.isNone || evaluationDue s)

/-- The drop watch expiries due on a lane, one for each entry that has outlived DROP_CONFIRM_MS (R143). -/
def watchCommands (s : State) (l : Fin 8) : List Instr :=
  List.replicate (s.lanes[l].watch.countP (fun w => decide (getPar s .dropConfirmMs < watchAge s w))) (.dropWatchExpiry l)

/-- The events whose time has come, as commands (log 2). -/
def dueCommands (s : State) : List Instr :=
  dueIf (strobeDue s) .strobeEnd
    ++ (indices 6).flatMap (fun i => dueIf (jamDue s i) (.jamTimerExpiry i))
    ++ dueIf (s.stall == some 0) .speedStallTimeout
    ++ dueIf (pulseDue .gate s) (.timePulseExpiry .gate) ++ dueIf (pulseDue .kick s) (.timePulseExpiry .kick)
    ++ dueIf (pulseDue .eject s) (.timePulseExpiry .eject)
    ++ dueIf (s.gapTimer == some 0) .gapTimerExpiry
    ++ dueIf (lateHead s).isSome .moulderTransitExpiry
    ++ dueIf (evaluationDue s) .evaluationCompletion
    ++ dueIf (startDue s) .evaluationStart
    ++ (indices 8).flatMap (watchCommands s)
    ++ dueIf (s.port.timer == some 0) .handshakeTimeout
    ++ dueIf (s.replyTimer == some 0) .replyTimerExpiry

/-- The tick of an empty queue (log 1); the part's time stands while RESET is held (log 12). -/
def tick (s : State) : State :=
  if s.resetHeld then s
  else
    let s := usTick s
    { s with pending := s.pending ++ dueCommands s }

end Sys2Proof.Machine
end

