-- ==== Sys2Proof/Machine/Dispatch.lean ====
section
/-! DEFINITION. One arm per command of the table: its meaning. -/

namespace Sys2Proof.Machine

open Sys2Proof

/-- The effect of a command on everything but the queue. -/
def exec (i : Instr) (s : State) : Host.Outcome State Fault Refusal :=
  match i with
  | .sampleTick raw order => Sys2Proof.Machine.execSampleTick raw order s
  | .jamTimerExpiry channel => Sys2Proof.Machine.execJamTimerExpiry channel s
  | .encoderCount unit a b order => Sys2Proof.Machine.execEncoderCount unit a b order s
  | .speedStallTimeout => Sys2Proof.Machine.execSpeedStallTimeout s
  | .timePulseExpiry output => Sys2Proof.Machine.execTimePulseExpiry output s
  | .gapTimerExpiry => Sys2Proof.Machine.execGapTimerExpiry s
  | .moulderTransitExpiry => Sys2Proof.Machine.execMoulderTransitExpiry s
  | .evaluationStart => Sys2Proof.Machine.execEvaluationStart s
  | .evaluationCompletion => Sys2Proof.Machine.execEvaluationCompletion s
  | .dropWatchExpiry lane => Sys2Proof.Machine.execDropWatchExpiry lane s
  | .strobeEnd => Sys2Proof.Machine.execStrobeEnd s
  | .pbusyChange high => Sys2Proof.Machine.execPbusyChange high s
  | .pfaultChange asserted => Sys2Proof.Machine.execPfaultChange asserted s
  | .handshakeTimeout => Sys2Proof.Machine.execHandshakeTimeout s
  | .pollSent => Sys2Proof.Machine.execPollSent s
  | .idleReply arrival => Sys2Proof.Machine.execIdleReply arrival s
  | .replyTimerExpiry => Sys2Proof.Machine.execReplyTimerExpiry s
  | .queryAt reply => Sys2Proof.Machine.execQueryAt reply s
  | .queryTicket reply ticket => Sys2Proof.Machine.execQueryTicket reply ticket s
  | .scanReport reply args => Sys2Proof.Machine.execScanReport reply args s
  | .gradeOverride reply ticket value => Sys2Proof.Machine.execGradeOverride reply ticket value s
  | .dropSeen reply lane => Sys2Proof.Machine.execDropSeen reply lane s
  | .bundleCleared reply lane => Sys2Proof.Machine.execBundleCleared reply lane s
  | .transactionBegin => Sys2Proof.Machine.execTransactionBegin s
  | .emptyTransaction clocks => Sys2Proof.Machine.execEmptyTransaction clocks s
  | .badFrame mosi => Sys2Proof.Machine.execBadFrame mosi s
  | .resetAssert => Sys2Proof.Machine.execResetAssert s
  | .powerOnReset => Sys2Proof.Machine.execPowerOnReset s
  | .nop x => Sys2Proof.Machine.execNop x s
  | .lineStart x => Sys2Proof.Machine.execLineStart x s
  | .lineHold x => Sys2Proof.Machine.execLineHold x s
  | .lineStop x => Sys2Proof.Machine.execLineStop x s
  | .faultAck x => Sys2Proof.Machine.execFaultAck x s
  | .softReset x => Sys2Proof.Machine.execSoftReset x s
  | .trackClear x => Sys2Proof.Machine.execTrackClear x s
  | .setParam x code value => Sys2Proof.Machine.execSetParam x code value s
  | .getParam x code => Sys2Proof.Machine.execGetParam x code s
  | .setGrade x row enabled maxDensity maxSize price => Sys2Proof.Machine.execSetGrade x row enabled maxDensity maxSize price s
  | .getGrade x row => Sys2Proof.Machine.execGetGrade x row s
  | .setWeights x weights => Sys2Proof.Machine.execSetWeights x weights s
  | .setSawMap x count bytes => Sys2Proof.Machine.execSetSawMap x count bytes s
  | .setLane x lane kind dropOffset grade minK maxK alternate target maxStrips shortMm mixPct => Sys2Proof.Machine.execSetLane x lane kind dropOffset grade minK maxK alternate target maxStrips shortMm mixPct s
  | .getLane x lane => Sys2Proof.Machine.execGetLane x lane s
  | .setFilter x channel mode threshold jamMs => Sys2Proof.Machine.execSetFilter x channel mode threshold jamMs s
  | .setLot x lot species => Sys2Proof.Machine.execSetLot x lot species s
  | .setStation x address role stationPos => Sys2Proof.Machine.execSetStation x address role stationPos s
  | .clearGlitch x channel => Sys2Proof.Machine.execClearGlitch x channel s
  | .readStrip x ticket => Sys2Proof.Machine.execReadStrip x ticket s
  | .listQueue x place => Sys2Proof.Machine.execListQueue x place s
  | .readLug x lug => Sys2Proof.Machine.execReadLug x lug s
  | .regrade x ticket value => Sys2Proof.Machine.execRegrade x ticket value s
  | .purge x ticket => Sys2Proof.Machine.execPurge x ticket s
  | .ejectHead x => Sys2Proof.Machine.execEjectHead x s
  | .setTool x set profile width life warnPct => Sys2Proof.Machine.execSetTool x set profile width life warnPct s
  | .readTool x set => Sys2Proof.Machine.execReadTool x set s
  | .changeTools x set => Sys2Proof.Machine.execChangeTools x set s
  | .cancelChange x => Sys2Proof.Machine.execCancelChange x s
  | .resetWear x set => Sys2Proof.Machine.execResetWear x set s
  | .readBundle x lane => Sys2Proof.Machine.execReadBundle x lane s
  | .forceClose x lane => Sys2Proof.Machine.execForceClose x lane s
  | .laneEnable x lane value => Sys2Proof.Machine.execLaneEnable x lane value s
  | .confirmClear x lane => Sys2Proof.Machine.execConfirmClear x lane s
  | .readLabel x lane => Sys2Proof.Machine.execReadLabel x lane s
  | .labelRetry x lane => Sys2Proof.Machine.execLabelRetry x lane s
  | .labelDiscard x lane => Sys2Proof.Machine.execLabelDiscard x lane s
  | .portMode x mode => Sys2Proof.Machine.execPortMode x mode s
  | .portWrite x count bytes => Sys2Proof.Machine.execPortWrite x count bytes s
  | .portStatus x => Sys2Proof.Machine.execPortStatus x s
  | .readEvents x => Sys2Proof.Machine.execReadEvents x s
  | .clearEvents x count bytes => Sys2Proof.Machine.execClearEvents x count bytes s
  | .setEventRoute x kind route masked severity => Sys2Proof.Machine.execSetEventRoute x kind route masked severity s
  | .setEscalation x value => Sys2Proof.Machine.execSetEscalation x value s
  | .setOutputs x setCount bytes => Sys2Proof.Machine.execSetOutputs x setCount bytes s
  | .readIo x => Sys2Proof.Machine.execReadIo x s
  | .stationEnable x address value => Sys2Proof.Machine.execStationEnable x address value s
  | .readStation x address => Sys2Proof.Machine.execReadStation x address s
  | .unknownRequest reply kind args => Sys2Proof.Machine.execUnknownRequest reply kind args s

end Sys2Proof.Machine
end

