-- ==== Sys2Proof/Safety.lean ====
section
/-! DEFINITION. What the statements say of states: frames, the Command Port's part in a command, and the invariants, in
the spec's own terms. -/

namespace Sys2Proof.Machine

open Sys2Proof

/-! ### Frames -/

/-- `t` is `s` but for event flags, the line state, outputs, and the marks of missed and made cuts: what the raising of
an event can change (R193, R194, R191, R117). -/
def RaiseFrame (s t : State) : Prop :=
  t = { s with events := t.events, line := t.line, lastEscalation := t.lastEscalation, outs := t.outs,
               pulses := t.pulses, strips := t.strips, lugs := t.lugs }

/-- `t` is `s` but for what tracking, plans, the gate, actuators, lanes, labels and the line hold. The settings, the
sensing state, the stations and the link, the clocks, the Command Port and the queue are as they were. -/
def LineFrame (s t : State) : Prop :=
  t = { s with strips := t.strips, nextTicket := t.nextTicket, infeed := t.infeed, permitOpen := t.permitOpen,
               planQueue := t.planQueue, engine := t.engine, tools := t.tools, pendingChange := t.pendingChange,
               moulder := t.moulder, gapTimer := t.gapTimer, mismatch := t.mismatch, head := t.head, lugs := t.lugs,
               holding := t.holding, window := t.window, pitchRef := t.pitchRef, lastPitch := t.lastPitch,
               outs := t.outs, pulses := t.pulses, lanes := t.lanes, nextBundle := t.nextBundle, labels := t.labels,
               composing := t.composing, composed := t.composed, doubtLatch := t.doubtLatch, port := t.port,
               line := t.line, lastEscalation := t.lastEscalation, events := t.events }

/-- `t` is `s` but for what `LineFrame` frees, the encoder CH and the speed monitor: what a count of CH can change. -/
def CountFrame (s t : State) : Prop :=
  LineFrame { s with ch := t.ch, history := t.history, speed := t.speed, stall := t.stall } t

/-! ### Commands of the host and replies of stations -/

/-- The Command Port deals with the frame at the rise of SS: the RESET line is released and a transaction is in progress
(R201, R204). -/
def State.Listens (s : State) : Prop := s.resetHeld = false ∧ s.cmd.active = true

/-- The state after a transaction that carried a command's frame, but for what the command itself did: SS is high, RX
holds the frame, and TX_INDEX counts the bytes of the response before it that went out (R201). -/
def State.ended (x : Xfer) (code : Byte) (args : List Byte) (response : List Byte) (s : State) : State :=
  { s with cmd := { response := response, rx := commandFrame x.seq code args, rxPartial := 0,
                    txIndex := min ((commandFrame x.seq code args).length + x.pad) s.cmd.response.length,
                    active := false, ssLow := false } }

/-- The state as a command's execution finds it: its transaction has ended, PENDING is as it was (R201, R202). -/
def State.taken (x : Xfer) (code : Byte) (args : List Byte) (s : State) : State := s.ended x code args s.cmd.response

/-- The state with the response of a command in PENDING (R202, R211). -/
def State.responds (x : Xfer) (code : Byte) (status : Status) (payload : List Byte) (s : State) : State :=
  { s with cmd := { s.cmd with response := responseFrame x.seq code status payload } }

/-- The state after the transaction of a command, its response in PENDING, but for what the command itself did (R201,
R202). -/
def State.answered (x : Xfer) (code : Byte) (args : List Byte) (status : Status) (payload : List Byte) (s : State) :
    State :=
  s.ended x code args (responseFrame x.seq code status payload)

/-- The reply window of a station is open and nothing has been received in it, and a reply arrives from its address as it
was sent (R175, R176). `carried` says whether the POLL carried an answer. -/
def State.Hears (s : State) (a : Fin 4) (carried : Bool) (arrival : Arrival) : Prop :=
  s.resetHeld = false ∧ s.transaction = .waiting a carried [] ∧ arrival.addr.toNat = a.val + 1 ∧ arrival.wire = none

/-- Steps 1 to 3 of R176: the window closes, MISSES is 0, the station is ONLINE, an answer that was carried is
delivered. -/
def State.heard (a : Fin 4) (carried : Bool) (s : State) : State :=
  let t := s.stations[a]
  { s with replyTimer := none, transaction := .idle,
           stations := s.stations.set a
             { t with misses := 0, state := if t.state = .offline then .online else t.state,
                      pendingAnswer := if carried then none else t.pendingAnswer } }

/-- The station's record with a fresh answer: LAST_REQ_ID, LAST_ANSWER and PENDING_ANSWER (R178). -/
def State.owes (a : Fin 4) (w : Answer) (s : State) : State :=
  { s with stations := s.stations.set a
             { s.stations[a] with lastReqId := some w.reqId, lastAnswer := some w, pendingAnswer := some w } }

/-- The reply is one a station can send: the argument bytes leave LENGTH within bounds, and a kind outside the six is none
of theirs (R178, R212). -/
def ReplyBody.Sendable : ReplyBody → Prop
  | .request _ (.scanReport args) => args.length ≤ 148
  | .request _ (.unknown kind args) => args.length ≤ 148 ∧ (kind = 0 ∨ 6 < kind.toNat)
  | _ => True

/-- The state with DOUBT set on the record in MEASURING, if there is one (R31). -/
def State.doubted (s : State) : State :=
  { s with strips := s.strips.map (fun r =>
      if measuringTicket s = some r.ticket then { r with doubt := true } else r) }

/-- No point of an output's schedule is reached at a POSITION: no set point of an ARMED pulse, no clear point or set point
of NEXT on an output that is ON (R15, 06 section 6.1). -/
def CountedOut.Quiet (position : Pos) (c : CountedOut) : Prop :=
  (c.state = .armed → ∀ p, c.active = some p → (position - p.setAt).toInt < 0) ∧
  (c.state = .on → (∀ p, c.active = some p → (position - p.clearAt).toInt < 0) ∧
    ∀ q, c.waiting = some q → (position - q.setAt).toInt < 0)

/-- The state that ends a reset: State.reset, with the pins as they stand, the queue and the count of free values kept,
and the flag of PRINTER_FAULT set for a PFAULT found asserted (R204, R205, R19, R162, log 13). -/
def State.afterReset (cmd : CommandPort) (s : State) : State :=
  { State.reset with
    inf := resetEncoder s.inf.pairA s.inf.pairB, ch := resetEncoder s.ch.pairA s.ch.pairB,
    port := resetPort s.port.pbusy s.port.pfault, cmd := cmd, freeIndex := s.freeIndex, pending := s.pending,
    events := if s.port.pfault then
        State.reset.events.set (eventIdx .printerFault) { resetEvent .note with flag := true }
      else State.reset.events }

/-- What the printer makes of the entries of a field: a RUN command, 40H and the count, repeats the character of the DATA
entry after it (R155, R213). -/
def expandRuns : List Entry → List Byte
  | [] => []
  | [e] => [e.byte]
  | e :: d :: rest =>
    if e.command then List.replicate (e.byte.toNat - 0x40) d.byte ++ expandRuns rest else e.byte :: expandRuns (d :: rest)

/-! ### Invariants -/

/-- No queue holds more than its capacity: the infeed queue 16 (R25), the moulder queue 8 (00 section 2.1), a drop watch
list 4 (R141), the FIFO 32 (08 section 8.3), the speed history 65 (R16). The plan queue is bounded by `Tracked`, the label
queue by `LabelsSound`. -/
structure State.Bounded (s : State) : Prop where
  infeed  : s.infeed.length ≤ Config.infeedCapacity
  moulder : s.moulder.length ≤ 8
  watch   : ∀ l : Fin 8, s.lanes[l].watch.length ≤ Config.watchCapacity
  fifo    : s.port.fifo.length ≤ Config.fifoCapacity
  history : s.history.length ≤ Config.speedHistory

/-- Every parameter lies in its range, and LINK_BAUD is one of the four rates (R207, R185). -/
structure State.InRange (s : State) : Prop where
  low  : ∀ p : Param, paramLow p ≤ getPar s p
  high : ∀ p : Param, getPar s p ≤ paramHigh s p
  baud : getPar s .linkBaud ∈ linkRates

/-- A counted output holds a pulse exactly while it is ARMED or ON, and a second one only behind a first (06 section
6.1). -/
def CountedOut.Sound (c : CountedOut) : Prop :=
  (c.state = .idle ↔ c.active = none) ∧ (c.state = .idle → c.waiting = none)

/-- The outputs agree with the line state: schedules are sound; in STOPPED and FAULT_STOP none is ARMED or ON and no time
pulse runs; a FORCED value is ON in STOPPED only (R106). -/
structure State.OutputsAgree (s : State) : Prop where
  sound   : ∀ o : Fin 24, s.outs[o].Sound
  stopped : s.line = .stopped ∨ s.line = .faultStop → ∀ o : Fin 24, s.outs[o].state = .idle
  pulses  : s.line = .stopped ∨ s.line = .faultStop → ∀ p : Fin 3, s.pulses[p].on = false
  forced  : s.line ≠ .stopped → (∀ o : Fin 24, s.outs[o].forced = false) ∧ ∀ p : Fin 3, s.pulses[p].forced = false

/-- The speed monitor: SPEED is 0 while the history is short, 64,000,000 at most, and while CH runs in reverse the history
is empty (R16, R17). -/
structure State.SpeedSound (s : State) : Prop where
  short   : s.history.length < Config.speedHistory → s.speed = 0
  most    : s.speed ≤ 64000000
  reverse : s.ch.direction = .reverse → s.history = [] ∧ s.speed = 0

/-- At most one tool set is mounted, and its STATE is its wear class (04 section 4.1, R66). -/
structure State.ToolsSound (s : State) : Prop where
  one  : ∀ m n : Fin 4, s.tools[m].state ≠ .unmounted → s.tools[n].state ≠ .unmounted → m = n
  wear : ∀ m : Fin 4, s.tools[m].state ≠ .unmounted → s.tools[m].state = wearClass s.tools[m]

/-- A GRADED record holds a SAW (R59, R131). -/
def State.GradedHaveSaw (s : State) : Prop :=
  ∀ r ∈ s.strips, ∀ g : Grade, r.disposition = some (.graded g) → r.saw.isSome

/-- The accounts of a bundle agree: COUNT is the sum of the HISTOGRAM, SHORT_MM2 keeps within the mix (R136). -/
structure Bundle.Balanced (b : Bundle) : Prop where
  count : b.count = b.histogram.toList.sum
  short : b.short * 100 ≤ b.mixCopy * b.coverage

/-- Every bundle's accounts agree, and every GRADED record holds a SAW (R136, R131). -/
structure State.Accounts (s : State) : Prop where
  graded  : s.GradedHaveSaw
  bundles : ∀ l : Fin 8, ∀ b, s.lanes[l].bundle = some b → b.Balanced

/-- The lug at offset 39 is empty, and so is SAW_DONE of every empty lug clear (R86, R96). -/
structure State.RingSound (s : State) : Prop where
  last  : s.lugs[lugAt s 39].ticket = none
  empty : ∀ j : Fin 40, s.lugs[j].ticket = none → s.lugs[j].sawDone = false

/-- The transfer window is 0 while HOLDING is empty (05 section 5.1). -/
def State.WindowSound (s : State) : Prop := s.holding = none → s.window = 0

/-- The place that holds a record, by its STAGE (00 section 2.3, 02 section 2.1). -/
def State.Holds (s : State) (r : Strip) : Prop :=
  match r.stage with
  | .measuring | .infeed | .waiting => r.ticket ∈ s.infeed
  | .inMoulder => r.ticket ∈ s.moulder.map (·.ticket)
  | .atTransfer => s.holding = some r.ticket
  | .onLug => ∃ j : Fin 40, r.lug = some j ∧ s.lugs[j].ticket = some r.ticket

/-- A record of the ticket is live, in one of the stages. -/
def State.Live (s : State) (t : Nat) (stages : List Stage) : Prop :=
  ∃ r ∈ s.strips, r.ticket = t ∧ r.stage ∈ stages

/-- Every live record sits in exactly one place and every place holds a live record (00 section 2.3); tickets are distinct
and within 1 to 65,535 (R21, R22). -/
structure State.Placed (s : State) : Prop where
  tickets : (s.strips.map (·.ticket)).Nodup
  range   : 1 ≤ s.nextTicket ∧ s.nextTicket ≤ 65535
  infeed  : s.infeed.Nodup ∧ ∀ t ∈ s.infeed, s.Live t [.measuring, .infeed, .waiting]
  moulder : (s.moulder.map (·.ticket)).Nodup ∧ ∀ e ∈ s.moulder, s.Live e.ticket [.inMoulder]
  holding : ∀ t, s.holding = some t → s.Live t [.atTransfer]
  lugs    : ∀ (j : Fin 40) (t : Nat), s.lugs[j].ticket = some t →
              ∃ r ∈ s.strips, r.ticket = t ∧ r.stage = .onLug ∧ r.lug = some j
  held    : ∀ r ∈ s.strips, s.Holds r

/-- The plan queue agrees with the records: it names each ticket once, of a record of the infeed queue whose PLAN is
PENDING; a record in MEASURING has no plan, one whose PLAN is PENDING or RUNNING holds a report, and an evaluation that is
not to be discarded works on a live record whose PLAN is RUNNING (R28, R44 to R49). -/
structure State.Planned (s : State) : Prop where
  queue     : s.planQueue.Nodup ∧ ∀ t ∈ s.planQueue, t ∈ s.infeed ∧ ∃ r ∈ s.strips, r.ticket = t ∧ r.plan = .pending
  measuring : ∀ r ∈ s.strips, r.stage = .measuring → r.plan = .none
  reported  : ∀ r ∈ s.strips, r.plan = .pending ∨ r.plan = .running → r.reportFrom.isSome
  engine    : ∀ e, s.engine = some e → e.discard = false → ∃ r ∈ s.strips, r.ticket = e.current ∧ r.plan = .running

/-- What tracking rests on: every queue within its capacity, every parameter in its range, the ring sound, and records,
places and plans in agreement. -/
structure State.Tracked (s : State) : Prop where
  bounded : s.Bounded
  inRange : s.InRange
  ring    : s.RingSound
  placed  : s.Placed
  planned : s.Planned

/-- The label queue agrees with the lanes: no lane has two labels; a lane with a label is CLOSED and its bundle waits for
LABEL_DONE; the bundle of an OPEN lane does too; CURRENT names a PRINTING label (R150, R151, R153, R157). -/
structure State.LabelsSound (s : State) : Prop where
  lanes   : (s.labels.map (·.lane)).Nodup
  closed  : ∀ k ∈ s.labels, s.lanes[k.lane].state = .closed ∧
              ∃ b, s.lanes[k.lane].bundle = some b ∧ b.labelDone = false
  opened  : ∀ (l : Fin 8) (b : Bundle), s.lanes[l].state = .opened → s.lanes[l].bundle = some b → b.labelDone = false
  current : ∀ l, s.composing = some l → ∃ k ∈ s.labels, k.lane = l ∧ k.state = .printing

end Sys2Proof.Machine
end

