-- ==== Sys2Proof/Certificates/Slice0/Obligations.lean ====
section
/-! DEFINITION. The statements for the provers. Each is a claim about the model in the terms of the spec's rules; its
docstring says which. -/

open Sys2Proof Sys2Proof.Machine

/-! ### The queue, the part's own time, resets, transactions -/

/-- The model's form (log 25): a step takes the command at the front of the queue and runs it with the queue's rest. -/
def Obligations.StepRunsTheFrontCommand : Prop :=
  ∀ (c : Instr) (rest : List Instr) (s : State), s.pending = c :: rest →
    step s = exec c { s with pending := rest }

/-- The model's choice (log 1, log 3): on an empty queue a step is a microsecond of R1, each thousandth of which moves the
millisecond clock. The strobe's time runs down with the microsecond; a TIMING jam monitor, the stall time, GAP_TIMER,
REPLY_TIMER and the port's TIMER run down with the millisecond, and, in RUNNING and HOLD, so does the time of a pulse
that is ON, and AGE of R77 grows. Nothing else changes but the queue, which takes the events that have come due. While
RESET is held nothing moves (log 12). -/
def Claims.AMicrosecondPasses : Prop :=
  ∀ s : State, s.pending = [] →
    (s.resetHeld = true → step s = .next s) ∧
    (s.resetHeld = false → ∃ t, step s = .next t ∧
      let moves := 999 ≤ s.usPhase
      let acts := s.line = .running ∨ s.line = .hold
      let down (timer : Option Nat) : Option Nat := if moves then timer.map (fun n => n - 1) else timer
      t = { s with us := s.us + 1, ms := if moves then s.ms + 1 else s.ms, usPhase := if moves then 0 else s.usPhase + 1,
                   pending := t.pending, channels := t.channels, pulses := t.pulses, stall := down s.stall,
                   gapTimer := down s.gapTimer, replyTimer := down s.replyTimer,
                   moulder := if moves ∧ acts then s.moulder.map (fun e => { e with age := e.age + 1 }) else s.moulder,
                   port := { s.port with timer := down s.port.timer, strobeLeft := s.port.strobeLeft - 1 } } ∧
      (∀ i : Fin 6, t.channels[i] = { s.channels[i] with jam := s.channels[i].jam.map (fun j =>
        match j.state with
        | .timing n => if moves then { j with state := .timing (n - 1) } else j
        | _ => j) }) ∧
      (∀ p : Fin 3, t.pulses[p] = if moves ∧ acts ∧ s.pulses[p].on = true
        then { s.pulses[p] with msLeft := s.pulses[p].msLeft - 1 } else s.pulses[p]) ∧
      t.pending = dueCommands t)

/-- The model's choice (log 2): the events that have come due, and no others, join the queue as commands: R9, R17, R47, R48,
R74, R78, R119, R143, R159, R163, R177. The start of an evaluation that waits for the one completing follows it at once
(R47, R48). -/
def Claims.DueEventsJoinTheQueue : Prop :=
  ∀ s : State,
    let evaluated := ∃ e, s.engine = some e ∧ 200 ≤ (s.us - e.startUs).toNat
    let overdue (w : Watch) : Bool := decide (getPar s .dropConfirmMs < (s.ms - w.fireTime).toNat)
    let due (c : Instr) : Prop := match c with
      | .strobeEnd => s.port.handshake = .strobe ∧ s.port.strobeLeft = 0
      | .jamTimerExpiry i => ∃ j, s.channels[i].jam = some j ∧ j.state = .timing 0
      | .speedStallTimeout => s.stall = some 0
      | .timePulseExpiry p => s.pulses[pulseIdx p].on = true ∧ s.pulses[pulseIdx p].msLeft = 0
      | .gapTimerExpiry => s.gapTimer = some 0
      | .moulderTransitExpiry => ∃ e, s.moulder.head? = some e ∧ getPar s .moulderTransitMs < e.age
      | .evaluationCompletion => evaluated
      | .evaluationStart => s.planQueue ≠ [] ∧ (s.engine = none ∨ evaluated)
      | .dropWatchExpiry l => ∃ w ∈ s.lanes[l].watch, overdue w = true
      | .handshakeTimeout => s.port.timer = some 0
      | .replyTimerExpiry => s.replyTimer = some 0
      | _ => False
    (∀ c, c ∈ dueCommands s ↔ due c) ∧
    (∀ l : Fin 8, (dueCommands s).count (.dropWatchExpiry l) = s.lanes[l].watch.countP overdue) ∧
    (evaluated → s.planQueue ≠ [] → ∃ before rest,
      dueCommands s = before ++ .evaluationCompletion :: .evaluationStart :: rest)

/-- R1 and the part's own time: logs 1 to 3. -/
def Obligations.IdleStepIsAMicrosecond : Prop := Claims.AMicrosecondPasses ∧ Claims.DueEventsJoinTheQueue

/-- R204, R205: POWER_ON_RESET and SOFT_RESET give every block its state after power-on reset, and the RESET_DONE of their
cause. That TX_INDEX is 0 is the model's choice (log 31), and so is that the pins, the queue and the count of free values
stay (log 13). -/
def Claims.ResetsRestore : Prop :=
  (∀ s : State, exec .powerOnReset s = .next (s.afterReset
    { response := responseFrame 0 0x00 .resetDone [0], rx := [], rxPartial := 0, txIndex := 0, active := false,
      ssLow := s.cmd.ssLow })) ∧
  ∀ (x : Xfer) (s : State), s.Listens → exec (.softReset x) s = .next (s.afterReset
    { response := responseFrame x.seq 0x05 .resetDone [1], rx := [], rxPartial := 0, txIndex := 0, active := false,
      ssLow := false })

/-- R8, R19, R1: sensing, the encoders, the speed monitor and the clocks after reset; SI4 has no jam monitor. -/
def Claims.SensingAfterReset : Prop :=
  let s := State.reset
  s.ms = 0 ∧ s.us = 0 ∧ s.history = [] ∧ s.speed = 0 ∧ s.stall = none ∧
  (∀ i : Fin 6, s.channels[i] =
    { mode := .delayed, threshold := 20, counter := 0, sample := .clear, prevSample := .clear, level := .clear,
      glitch := false, jam := if i = 4 then none else some { limitMs := 3000, state := .clear } }) ∧
  ∀ e ∈ [s.inf, s.ch], e.position = 0 ∧ e.direction = .forward ∧ e.excursion = 0 ∧ e.reverseReported = false

/-- R41, R64, R85, R105: the Strip Table, the infeed, the Plan Engine, the gate, the tool sets and the chain after reset. -/
def Claims.TrackingAfterReset : Prop :=
  let s := State.reset
  s.strips = [] ∧ s.infeed = [] ∧ s.nextTicket = 1 ∧ s.lot = 0 ∧ s.species = 0 ∧ s.permitOpen = true ∧
  infeedPermit s = false ∧ s.planQueue = [] ∧ s.engine = none ∧ s.weights.toList = [2, 6, 8, 10, 1, 5, 3, 1] ∧
  s.sawMap = [] ∧
  (∀ g : Fin 6, s.grades[g] = { enabled := false, maxDensity := 0, maxSize := Vector.replicate 8 0, price := 0 }) ∧
  (∀ m : Fin 4, s.tools[m] =
    { configured := false, profile := 0, width := 30, life := 1, warnPct := 100, used := 0, state := .unmounted }) ∧
  mountedSet s = none ∧ s.pendingChange = none ∧ s.moulder = [] ∧ s.gapTimer = none ∧ s.mismatch = none ∧
  s.head = 0 ∧ (∀ j : Fin 40, s.lugs[j] = { ticket := none, sawDone := false }) ∧ s.holding = none ∧ s.window = 0 ∧
  s.pitchRef = none ∧ s.lastPitch = none

/-- R124, R149, R172, R187: the outputs, the lanes, the labels, the Dispatch Port and the Station Link after reset. -/
def Claims.OutputsAfterReset : Prop :=
  let s := State.reset
  (∀ o : Fin 24, s.outs[o] = { state := .idle, active := none, waiting := none, forced := false } ∧
    outLevel s o = false) ∧
  (∀ p : TimePulse, s.pulses[pulseIdx p] = { on := false, msLeft := 0, forced := false } ∧ pulseLevel s p = false) ∧
  (∀ l : Fin 8, s.lanes[l] =
    { kind := .unused, enabled := false, dropOffset := 38, grade := 0, minK := 0, maxK := 4000, alternate := none,
      target := 100, maxStrips := 255, shortMm := 0, mixPct := 100, state := .disabled, binCount := 0, bundle := none,
      watch := [] }) ∧
  s.nextBundle = 1 ∧ s.labels = [] ∧ s.composing = none ∧ s.composed = 0 ∧ s.port.mode = .off ∧ s.port.fifo = [] ∧
  s.port.handshake = .idle ∧ s.port.ackSeen = false ∧ s.port.fallSeen = false ∧ s.port.timer = none ∧
  s.port.held = false ∧ pstb s = false ∧ pd s = 0 ∧ ptag s = false ∧
  (∀ a : Fin 4, s.stations[a] =
    { role := .scanner, stationPos := 0, state := .disabled, misses := 0, pendingAnswer := none, lastReqId := none,
      lastAnswer := none }) ∧
  s.pollPointer = 0 ∧ s.transaction = .idle ∧ s.replyTimer = none ∧ ldir s = false ∧ ltx s = .idle

/-- R200, R204 and the defaults of R19, R32, R53, R82, R102, R120, R147, R170 and R185: the line, the events, the Command
Port and the parameters after reset. -/
def Claims.LineAfterReset : Prop :=
  let s := State.reset
  s.line = .stopped ∧ s.lastEscalation = none ∧ s.escalation = true ∧ lineOk s = true ∧
  attention s .attn0 = false ∧ attention s .attn1 = false ∧
  (∀ k : EventKind, s.events[eventIdx k] = { flag := false, route := .attn0, masked := false, severity :=
    if k ∈ [.jam0, .jam1, .jam2, .jam3, .jam5, .chainReverse, .infeedReverse, .phantomGate] then .stop
    else if k ∈ [.lostMoulder, .lostTransfer, .lostAtSaw, .carryover, .pitchFault] then .hold else .note }) ∧
  s.cmd.active = false ∧ s.cmd.rx = [] ∧ s.cmd.response = responseFrame 0 0x00 .resetDone [0] ∧
  ∀ q ∈ ([(.infeedReverseLimit, 400), (.chainReverseLimit, 400), (.sawLatencyMs, 35), (.divertLatencyMs, 20),
      (.infeedCpm, 20000), (.infeedHighMark, 14), (.infeedLowMark, 10), (.kickPulseMs, 50), (.fenceTrim, 10),
      (.farMargin, 5), (.endZone, 20), (.minKept, 250), (.moulderCapacity, 6), (.gatePulseMs, 60), (.gateGapMs, 400),
      (.moulderTransitMs, 4000), (.wornGradeCap, 3), (.ejectPulseMs, 80), (.chainPitch, 1600), (.sawOffset, 6),
      (.transferWindow, 3), (.sawFireCounts, 600), (.sawHoldCounts, 700), (.divertFireCounts, 500),
      (.divertHoldCounts, 600), (.dropConfirmMs, 800), (.strobeUs, 5), (.handshakeMs, 250), (.labelRetries, 3),
      (.fifoThreshold, 8), (.linkBaud, 115200), (.linkReplyMs, 10), (.linkMissLimit, 3)] : List (Param × Nat)),
    getPar s q.1 = q.2

/-- R204, R205, and the reset tables of the chapters. -/
def Obligations.ResetsGiveTheResetState : Prop :=
  Claims.ResetsRestore ∧ Claims.SensingAfterReset ∧ Claims.TrackingAfterReset ∧ Claims.OutputsAfterReset ∧
  Claims.LineAfterReset

/-- R192, R204, R173 (log 12): RESET_ASSERT holds the RESET line and abandons a transaction; while it is held every output
of the signal list is deasserted, low, idle or not driven, and of every command but POWER_ON_RESET only the levels of
input pins are followed. -/
def Obligations.HeldResetSilencesThePart : Prop :=
  (∀ s : State, exec .resetAssert s = .next { s with resetHeld := true, cmd := { s.cmd with active := false } }) ∧
  ∀ s : State, s.resetHeld = true →
    ((∀ o, outLevel s o = false) ∧ (∀ p, pulseLevel s p = false) ∧ infeedPermit s = false ∧ lineOk s = false ∧
      (∀ r, attention s r = false) ∧ ldir s = false ∧ ltx s = .idle ∧ pstb s = false ∧ pd s = 0 ∧ ptag s = false ∧
      ∀ n, misoBytes n s = none) ∧
    ∀ c : Instr, c ≠ .powerOnReset → ∃ t, exec c s = .next t ∧
      t = { s with inf := { s.inf with pairA := t.inf.pairA, pairB := t.inf.pairB },
                   ch := { s.ch with pairA := t.ch.pairA, pairB := t.ch.pairB },
                   port := { s.port with pbusy := t.port.pbusy, pfault := t.port.pfault },
                   cmd := { s.cmd with ssLow := t.cmd.ssLow, active := t.cmd.active } }

/-- R201, R203: the fall of SS begins a transaction; one without a whole byte, and a NOP, leave PENDING as it is. In a
transaction MISO shifts out PENDING and then bytes of 0; it is not driven while SS is high. -/
def Claims.TransactionsBeginAndEnd : Prop :=
  (∀ s : State, s.resetHeld = false → s.cmd.ssLow = false →
    exec .transactionBegin s = .next { s with cmd :=
      { s.cmd with active := true, rx := [], rxPartial := 0, txIndex := 0, ssLow := true } }) ∧
  (∀ (n : Fin 8) (s : State), s.Listens →
    exec (.emptyTransaction n) s = .next { s with cmd :=
      { s.cmd with active := false, rx := [], rxPartial := 0, txIndex := 0, ssLow := false } }) ∧
  (∀ (x : Xfer) (s : State), s.Listens → exec (.nop x) s = .next (s.ended x 0x00 [] s.cmd.response)) ∧
  (∀ (n : Nat) (s : State),
    (s.Listens → s.cmd.ssLow = true → ∃ out, misoBytes n s = some out ∧ out.length = n ∧
      ∀ i < n, out[i]? = some (s.cmd.response[i]?.getD 0)) ∧
    (s.cmd.ssLow = false → misoBytes n s = none)) ∧
  ∀ s : State, s.resetHeld = false → s.cmd.active = false →
    (∀ n, exec (.emptyTransaction n) s = .next { s with cmd := { s.cmd with ssLow := false } }) ∧
    (∀ x, exec (.nop x) s = .next { s with cmd := { s.cmd with ssLow := false } }) ∧
    ∀ mosi, exec (.badFrame mosi) s = .next { s with cmd := { s.cmd with ssLow := false } }

/-- R202, checks 1 to 3: a frame that fails a check is answered with the status of the first that fails, with SEQ and the
command code as received and 0 for a byte that did not arrive, and nothing is executed; a frame that fails none is no
command of this row (log 20). -/
def Claims.BadFramesAreAnsweredUnexecuted : Prop :=
  ∀ (mosi : List Byte) (s : State), s.Listens → mosi ≠ [] →
    (∀ status, frameFault (rxOf mosi) = some status →
      exec (.badFrame mosi) s = .next { s with cmd :=
        { response := responseFrame ((rxOf mosi)[1]?.getD 0) ((rxOf mosi)[2]?.getD 0) status [], rx := rxOf mosi,
          rxPartial := 0, txIndex := min mosi.length s.cmd.response.length, active := false, ssLow := false } }) ∧
    (frameFault (rxOf mosi) = none → exec (.badFrame mosi) s = .refused .illFormed)

/-- R201, R202, R203. -/
def Obligations.TransactionsAndBadFrames : Prop :=
  Claims.TransactionsBeginAndEnd ∧ Claims.BadFramesAreAnsweredUnexecuted

/-- R210, R202: a frame built as R210 gives it, of at most 33 argument bytes, passes check 1; checks 2 and 3 then decide
on its code and its argument bytes alone, and its padding is discarded. -/
def Claims.CommandFramesPassTheirChecks : Prop :=
  ∀ (seq code : Byte) (args padding : List Byte), args.length ≤ 33 →
    rxOf (commandFrame seq code args ++ padding) = commandFrame seq code args ∧
    frameFault (commandFrame seq code args) =
      if knownCode code = false then some .unknownCommand
      else if argsAgree code args = false then some .badArgument else none

/-- R210, R212: a sequence of bytes followed by its own CRC leaves the CRC 0, for the CRC-8 of the Command Port and for
the CRC-16 of the Station Link, most significant byte first. -/
def Claims.CrcOfACheckedFrameIsZero : Prop :=
  ∀ bytes : List Byte, crc8 (bytes ++ [crc8 bytes]) = 0 ∧ crc16 (bytes ++ be16 (crc16 bytes)) = 0

/-- R176, R212, R173: characters received as a reply are good exactly when they begin with the frame that R212 lays out
for their body and the address polled, each without a framing error; what follows the frame is no part of it. That a
request needs its kind and REQ_ID is log 36, and what a later arrival adds to the characters log 15. -/
def Claims.GoodRepliesAreReplyFrames : Prop :=
  ∀ (a : Fin 4) (received : List Character) (body : ReplyBody),
    readReply a received = .good body ↔
      body.Sendable ∧ ∃ rest, received = sent (replyFrame (BitVec.ofNat 8 (a.val + 1)) body) ++ rest

/-- R176, R212: a reply is found bad at once by a framing error in its frame, a LENGTH outside 4 to 154, or an address that
is not the one polled; a reply found bad stays bad, whatever is received after it (log 15). -/
def Claims.BadRepliesStayBad : Prop :=
  ∀ (a : Fin 4) (first : Character) (rest : List Character),
    let n := first.byte.toNat
    (n < 4 ∨ 154 < n → readReply a (first :: rest) = .bad) ∧
    ((∃ c ∈ (first :: rest).take (1 + n), c.framing = true) → readReply a (first :: rest) = .bad) ∧
    (∀ c more, rest = c :: more → c.byte.toNat ≠ a.val + 1 → readReply a (first :: rest) = .bad) ∧
    ∀ more, readReply a (first :: rest) = .bad → readReply a (first :: rest ++ more) = .bad

/-- R202, R210, R212, R176. -/
def Obligations.FramesPassTheirChecks : Prop :=
  Claims.CommandFramesPassTheirChecks ∧ Claims.CrcOfACheckedFrameIsZero ∧ Claims.GoodRepliesAreReplyFrames ∧
  Claims.BadRepliesStayBad

/-! ### Sensing (01) -/

/-- R5: in BYPASS mode, and in either of the other modes while THRESHOLD is 0, a tick sets LEVEL to SAMPLE and keeps
COUNTER at 0; GLITCH stays, and a filtered edge is reported at every tick at which the value changes. -/
def Claims.BypassFollowsTheLine : Prop :=
  ∀ (c : Channel) (asserted : Bool), c.mode = .bypass ∨ c.threshold = 0 →
    stepChannel asserted c =
      { c with prevSample := c.sample, sample := levelOf asserted, level := levelOf asserted, counter := 0 } ∧
    ((edgeOf c.level (stepChannel asserted c).level).isSome ↔ c.level ≠ levelOf asserted)

/-- R3: the table of the DELAYED step, with THRESHOLD 1 or more. -/
def Claims.DelayedStep : Prop :=
  ∀ (c : Channel) (asserted : Bool), c.mode = .delayed → 1 ≤ c.threshold →
    let d := { c with prevSample := c.sample, sample := levelOf asserted }
    (levelOf asserted ≠ c.level → c.counter + 1 = c.threshold →
      stepChannel asserted c = { d with level := levelOf asserted, counter := 0 }) ∧
    (levelOf asserted ≠ c.level → c.counter + 1 ≠ c.threshold →
      stepChannel asserted c = { d with counter := c.counter + 1 }) ∧
    (levelOf asserted = c.level → 0 < c.counter →
      stepChannel asserted c = { d with counter := c.counter - 1, glitch := true }) ∧
    (levelOf asserted = c.level → c.counter = 0 → stepChannel asserted c = d) ∧
    ((edgeOf c.level (stepChannel asserted c).level).isSome ↔
      levelOf asserted ≠ c.level ∧ c.counter + 1 = c.threshold)

/-- R4: the three cases of the IMMEDIATE step, with THRESHOLD 1 or more. -/
def Claims.ImmediateStep : Prop :=
  ∀ (c : Channel) (asserted : Bool), c.mode = .immediate → 1 ≤ c.threshold →
    let d := { c with prevSample := c.sample, sample := levelOf asserted }
    (c.counter = 0 ∨ c.counter = c.threshold →
      stepChannel asserted c =
        if levelOf asserted ≠ c.level then { d with level := levelOf asserted, counter := 1 }
        else { d with counter := 0 }) ∧
    (0 < c.counter → c.counter < c.threshold →
      stepChannel asserted c =
        { d with counter := c.counter + 1, glitch := c.glitch || levelOf asserted != c.sample }) ∧
    ((edgeOf c.level (stepChannel asserted c).level).isSome ↔
      levelOf asserted ≠ c.level ∧ (c.counter = 0 ∨ c.counter = c.threshold))

/-- The steps of the three filter modes: R3, R4, R5. -/
def Obligations.FilterSteps : Prop :=
  Claims.BypassFollowsTheLine ∧ Claims.DelayedStep ∧ Claims.ImmediateStep

/-- R2: a SAMPLE_TICK takes a tick of every channel, whatever the others do and in whichever order their edges are
handed on; the settings, the sensing state beside the channels, the stations and the link are not changed by it. Where
counts of CH come between an advance and its armings (R115, log 38) they change the encoder CH and the speed monitor. -/
def Obligations.ChannelsTickIndependently : Prop :=
  ∀ (raw : BitVec 6) (order : TickOrder) (s : State), s.resetHeld = false →
    ∃ t, exec (.sampleTick raw order) s = .next t ∧
      CountFrame { s with channels := t.channels } t ∧
      ((∀ p ∈ order.parts, ∃ k, p = .piece k) → LineFrame { s with channels := t.channels } t) ∧
      ∀ i : Fin 6, t.channels[i] = tickChannel (raw.getLsbD i.val) s.channels[i]

/-- R2, R6, R31, R14 and the channel table of 01 section 1.1: when no LEVEL changes at a tick, the tick is the ticks of the
channels, and DOUBT on the record in MEASURING where SI0's GLITCH becomes set by it; when channel i is the one channel
whose LEVEL changes, and is taken last, the work of i's consumer follows. -/
def Obligations.AnEdgeReachesItsConsumer : Prop :=
  ∀ (raw : BitVec 6) (order : TickOrder) (s : State), s.resetHeld = false →
    let ticked (j : Fin 6) : Channel := tickChannel (raw.getLsbD j.val) s.channels[j]
    let edge (j : Fin 6) : Option EdgeKind := edgeOf s.channels[j].level (ticked j).level
    let u := { s with channels := Vector.ofFn ticked }
    let v := if s.channels[0].glitch = false ∧ (ticked 0).glitch = true then u.doubted else u
    ((∀ j, edge j = none) → exec (.sampleTick raw order) s = .next v) ∧
    ∀ (i : Fin 6) (k : EdgeKind) (before : List (Fin 6)),
      fullOrder 6 order.channels = before ++ [i] → (∀ j, edge j = if j = i then some k else none) →
      exec (.sampleTick raw order) s = .next
        (match i, k with
         | 0, .leading => pe1Leading v.inf.position v
         | 0, .trailing => pe1Trailing v.inf.position v
         | 1, .leading => pe2Arrival v
         | 2, .leading => pe3Edge v
         | 4, .leading =>
           if v.ch.direction = .forward then advance v.ch.position order.parts v else retreat v
         | _, _ => v)

/-- R9: the row of the timer expiry, and of the two edges. A timer that has not run out does not expire (log 2). -/
def Obligations.JamMonitor : Prop :=
  (∀ (i : Fin 6) (s : State) (j : Jam) (k : EventKind), s.resetHeld = false → s.channels[i].jam = some j →
    j.state = .timing 0 → jamEvent i = some k →
    exec (.jamTimerExpiry i) s = .next (raise k
      { s with channels := s.channels.set i { s.channels[i] with jam := some { j with state := .jammed } } })) ∧
  (∀ (i : Fin 6) (s : State), (∀ j, s.channels[i].jam = some j → j.state ≠ .timing 0) →
    exec (.jamTimerExpiry i) s = .next s) ∧
  ∀ (c : Channel) (j : Jam) (asserted : Bool), c.jam = some j →
    let next : JamState := match edgeOf c.level (stepChannel asserted c).level with
      | some .leading => .timing j.limitMs
      | some .trailing => .clear
      | none => j.state
    (tickChannel asserted c).jam = some { j with state := next }

/-- R11: a change of the pair to the next state of the forward sequence counts up, one to the previous counts down, any
other counts nothing; the new pair becomes the reference. The other unit is as it was. R12: EXCURSION saturates, and
REVERSE_REPORTED is cleared where EXCURSION returns to 0. -/
def Claims.QuadratureDecoding : Prop :=
  ∀ (unit : EncUnit) (a b : Bool) (order : CountOrder) (s : State), s.resetHeld = false →
    let e := match unit with | .inf => s.inf | .ch => s.ch
    ∃ t, exec (.encoderCount unit a b order) s = .next t ∧
      (match unit with | .inf => t.ch = s.ch | .ch => t.inf = s.inf) ∧
      let f := match unit with | .inf => t.inf | .ch => t.ch
      f.pairA = a ∧ f.pairB = b ∧
      ((a, b) = (!e.pairB, e.pairA) →
        f.position = e.position + 1 ∧ f.direction = .forward ∧ f.excursion = e.excursion - 1 ∧
        f.reverseReported = (e.reverseReported && decide (1 < e.excursion))) ∧
      ((a, b) = (e.pairB, !e.pairA) →
        f.position = e.position - 1 ∧ f.direction = .reverse ∧ f.excursion = min 8388607 (e.excursion + 1)) ∧
      ((a, b) ≠ (!e.pairB, e.pairA) → (a, b) ≠ (e.pairB, !e.pairA) →
        f.position = e.position ∧ f.direction = e.direction ∧ f.excursion = e.excursion ∧
        f.reverseReported = e.reverseReported)

/-- R12: a reverse count of INF that takes EXCURSION above the limit while REVERSE_REPORTED is clear raises INFEED_REVERSE
and sets it; any other count of INF raises no event. For CH, in whichever order its points, its notice and its event are taken: CHAIN_REVERSE. -/
def Claims.ReverseMonitors : Prop :=
  (∀ (a b : Bool) (order : CountOrder) (s : State), s.resetHeld = false → (a, b) = (s.inf.pairB, !s.inf.pairA) →
    ∃ t, exec (.encoderCount .inf a b order) s = .next t ∧
      if getPar s .infeedReverseLimit < min 8388607 (s.inf.excursion + 1) ∧ s.inf.reverseReported = false then
        t.events[eventIdx .infeedReverse].flag = true ∧ t.inf.reverseReported = true
      else t.events = s.events ∧ t.inf.reverseReported = s.inf.reverseReported) ∧
  ∀ (a b : Bool) (order : CountOrder) (s : State), s.resetHeld = false → (a, b) = (s.ch.pairB, !s.ch.pairA) →
    getPar s .chainReverseLimit < min 8388607 (s.ch.excursion + 1) → s.ch.reverseReported = false →
    ∃ t, exec (.encoderCount .ch a b order) s = .next t ∧
      t.events[eventIdx .chainReverse].flag = true ∧ t.ch.reverseReported = true

/-- R13, R31, R12: a count of INF changes the encoder alone, but a reverse one sets DOUBT on the record in MEASURING before
the event it may raise. -/
def Claims.ReverseCountsDoubtTheMeasurement : Prop :=
  ∀ (a b : Bool) (order : CountOrder) (s : State), s.resetHeld = false → ∃ e : Encoder,
    ((a, b) = (s.inf.pairB, !s.inf.pairA) →
      let u := { s.doubted with inf := e }
      exec (.encoderCount .inf a b order) s = .next
        (if getPar s .infeedReverseLimit < min 8388607 (s.inf.excursion + 1) ∧ s.inf.reverseReported = false then
          raise .infeedReverse u else u)) ∧
    ((a, b) ≠ (s.inf.pairB, !s.inf.pairA) → exec (.encoderCount .inf a b order) s = .next { s with inf := e })

/-- R11 to R13. -/
def Obligations.EncodersCount : Prop :=
  Claims.QuadratureDecoding ∧ Claims.ReverseMonitors ∧ Claims.ReverseCountsDoubtTheMeasurement

/-- R16, R17: a forward count of CH appends its time, keeps the last 65, and sets SPEED from a full history; a reverse
count empties the history; the stall time restarts at both, and at its end the history is emptied, not before it (log
2). -/
def Claims.SpeedMonitor : Prop :=
  (∀ (a b : Bool) (order : CountOrder) (s : State), s.resetHeld = false → s.history.length ≤ 65 →
    ((a, b) = (!s.ch.pairB, s.ch.pairA) →
      ∃ t, exec (.encoderCount .ch a b order) s = .next t ∧ t.stall = some 500 ∧
        t.history = (s.history ++ [s.us]).drop ((s.history ++ [s.us]).length - 65) ∧
        t.speed = (if t.history.length < 65 then 0
          else 64000000 / max 1 (s.us - t.history.headD 0).toNat)) ∧
    ((a, b) = (s.ch.pairB, !s.ch.pairA) →
      ∃ t, exec (.encoderCount .ch a b order) s = .next t ∧ t.stall = some 500 ∧ t.history = [] ∧ t.speed = 0)) ∧
  ∀ s : State, s.resetHeld = false →
    (s.stall = some 0 → exec .speedStallTimeout s = .next { s with stall := none, history := [], speed := 0 }) ∧
    (s.stall ≠ some 0 → exec .speedStallTimeout s = .next s)

/-- R115: a CH count that turns the chain from FORWARD to REVERSE leaves every counted output IDLE with ACTIVE and NEXT
absent, in whichever order the points, the notice and the reverse event of the count are taken. -/
def Claims.TheTurnToReverseEndsEveryPulse : Prop :=
  ∀ (a b : Bool) (order : CountOrder) (s : State), s.resetHeld = false → s.ch.direction = .forward →
    (a, b) = (s.ch.pairB, !s.ch.pairA) →
    ∃ t, exec (.encoderCount .ch a b order) s = .next t ∧
      ∀ o : Fin 24, t.outs[o].state = .idle ∧ t.outs[o].active = none ∧ t.outs[o].waiting = none

/-- R115: a count that turns the chain between an advance and the arrival of armings made at it (log 38): those that have
arrived are cancelled by the notice, those that arrive after it on arrival, so that every counted output is IDLE with ACTIVE
and NEXT absent; and an arming that arrives after it is no late fire. -/
def Claims.TheTurnCancelsArmingsOnTheirWay : Prop :=
  ∀ (c0 : Pos) (before rest : List AdvancePart) (a b : Bool) (order : CountOrder) (s : State),
    s.ch.direction = .forward → (a, b) = (s.ch.pairB, !s.ch.pairA) →
    (∀ p ∈ before ++ rest, ∃ k, p = .piece k) →
    let t := advance c0 (before ++ .count a b order :: rest) s
    (∀ o : Fin 24, t.outs[o].state = .idle ∧ t.outs[o].active = none ∧ t.outs[o].waiting = none) ∧
    (before = [] → t.events[eventIdx .lateFire] = s.events[eventIdx .lateFire])

/-- What a count of CH does beside its encoder: R16, R17, R115. -/
def Obligations.ChainCounts : Prop :=
  Claims.SpeedMonitor ∧ Claims.TheTurnToReverseEndsEveryPulse ∧ Claims.TheTurnCancelsArmingsOnTheirWay

/-! ### The Strip Table and the infeed queue (02) -/

/-- R22, R21: a record takes the first ticket of the sequence from NEXT_TICKET that no live record holds, and NEXT_TICKET
becomes the number after it; LOT and SPECIES are stamped, and distinct tickets stay distinct. -/
def Obligations.TicketsAreFresh : Prop :=
  ∀ (stage : Stage) (add : Strip → Strip) (s : State),
    (∀ r, (add r).ticket = r.ticket) → s.strips.length < 65535 → 1 ≤ s.nextTicket → s.nextTicket ≤ 65535 →
    let live := s.strips.map (·.ticket)
    ∃ n t, (∀ k < n, nextNumber^[k] s.nextTicket ∈ live) ∧ t = nextNumber^[n] s.nextTicket ∧ t ∉ live ∧
      1 ≤ t ∧ t ≤ 65535 ∧ (live.Nodup → ((createStrip stage add s).strips.map (·.ticket)).Nodup) ∧
      createStrip stage add s =
        { s with strips := s.strips ++ [add (freshStrip t s.lot s.species stage)],
                 nextTicket := if t = 65535 then 1 else t + 1 }

/-- R30: the latch is SHUT at the high mark and above, OPEN at the low mark and below, and keeps its state between;
INFEED_PERMIT is asserted in RUNNING with the latch OPEN and in no other case (but for a held RESET, R204). -/
def Obligations.PermitLatch : Prop :=
  ∀ s : State, getPar s .infeedLowMark < getPar s .infeedHighMark →
    (getPar s .infeedHighMark ≤ s.infeed.length → evalPermit s = { s with permitOpen := false }) ∧
    (s.infeed.length ≤ getPar s .infeedLowMark → evalPermit s = { s with permitOpen := true }) ∧
    (getPar s .infeedLowMark < s.infeed.length → s.infeed.length < getPar s .infeedHighMark → evalPermit s = s) ∧
    (infeedPermit s = true ↔ s.resetHeld = false ∧ s.line = .running ∧ s.permitOpen = true)

/-- R26, R27: a PE1 leading edge opens a record in MEASURING at the tail with the capture, or, on a queue of 16, raises
OVERRUN, with a KICK pulse in RUNNING and HOLD. -/
def Claims.MeasuringStartsAtPe1 : Prop :=
  ∀ (capture : Pos) (s : State),
    (s.infeed.length < 16 →
      let t := nextTicketOf s
      pe1Leading capture s = evalPermit
        { s with strips := s.strips ++ [{ freshStrip t s.lot s.species .measuring with leadPos := some capture }],
                 nextTicket := nextNumber t, infeed := s.infeed ++ [t] }) ∧
    (16 ≤ s.infeed.length → s.line = .running ∨ s.line = .hold →
      pe1Leading capture s = raise .overrun
        { s with pulses := s.pulses.set 1 { s.pulses[1] with on := true, msLeft := getPar s .kickPulseMs } }) ∧
    (16 ≤ s.infeed.length → s.line = .stopped ∨ s.line = .faultStop → pe1Leading capture s = raise .overrun s)

/-- R28, R29, R46: the trailing edge completes the record in MEASURING with floor(ΔC × 1000 / INFEED_CPM), 4,095 with
DOUBT above that; a record that holds a report joins the plan queue. Every other record is as it was. -/
def Claims.LengthIsMeasuredAtPe1 : Prop :=
  (∀ (capture lead : Pos) (s : State) (r : Strip), measuringTicket s = some r.ticket →
    findStrip r.ticket s = some r → r.leadPos = some lead →
    let mm := (capture - lead).toNat * 1000 / getPar s .infeedCpm
    let t := pe1Trailing capture s
    findStrip r.ticket t = some
      { r with stage := .infeed, length := some (min mm 4095), doubt := r.doubt || decide (4095 < mm),
               plan := if r.reportFrom.isSome then .pending else r.plan } ∧
    t.planQueue = (if r.reportFrom.isSome then s.planQueue ++ [r.ticket] else s.planQueue) ∧
    (∀ n, n ≠ r.ticket → findStrip n t = findStrip n s) ∧
    t = { s with strips := t.strips, planQueue := t.planQueue }) ∧
  ∀ (capture : Pos) (s : State), measuringTicket s = none → pe1Trailing capture s = s

/-- R26 to R29. -/
def Obligations.Pe1EdgesMeasure : Prop :=
  Claims.MeasuringStartsAtPe1 ∧ Claims.LengthIsMeasuredAtPe1

/-- R34: the four rows of an arrival, by the oldest unarrived record's state; the release test of R72 follows. -/
def Claims.ArrivalAtTheGate : Prop :=
  ∀ (s : State) (r : Strip), (infeedStrips s).find? unarrived = some r → findStrip r.ticket s = some r →
    ∃ u, pe2Arrival s = releaseTest u ∧ (∀ n, n ≠ r.ticket → findStrip n u = findStrip n s) ∧
      u = { s with strips := u.strips, planQueue := u.planQueue } ∧
      (r.stage = .infeed → r.reportFrom.isSome → u.planQueue = s.planQueue ∧
        findStrip r.ticket u = some { r with stage := .waiting }) ∧
      (r.stage = .infeed → r.reportFrom = none → u.planQueue = s.planQueue ∧
        findStrip r.ticket u = some (writePlan .default
          (defaultPlan s.sawMap (getPar s .fenceTrim) (getPar s .farMargin) (getPar s .minKept) r.length r.manualGrade)
          { r with stage := .waiting })) ∧
      (r.stage = .measuring →
        let mm := (s.inf.position - r.leadPos.getD 0).toNat * 1000 / getPar s .infeedCpm
        let q : Strip := { r with stage := .waiting, length := some (min mm 4095), doubt := true }
        (r.reportFrom = none → u.planQueue = s.planQueue ∧
          findStrip r.ticket u = some (writePlan .default
            (defaultPlan s.sawMap (getPar s .fenceTrim) (getPar s .farMargin) (getPar s .minKept) q.length
              r.manualGrade) q)) ∧
        (r.reportFrom.isSome → u.planQueue = s.planQueue ++ [r.ticket] ∧
          findStrip r.ticket u = some { q with plan := .pending }))

/-- R35: an arrival with no unarrived record raises PHANTOM_GATE and, on a queue of fewer than 16, makes a placeholder in
WAITING with no length, DOUBT, the default plan with no saw, and DISPOSITION HOLD. -/
def Claims.PhantomAtTheGate : Prop :=
  ∀ s : State, (infeedStrips s).find? unarrived = none →
    let u := raise .phantomGate s
    let t := nextTicketOf u
    (s.infeed.length < 16 → pe2Arrival s = releaseTest (evalPermit
      { u with nextTicket := nextNumber t, infeed := u.infeed ++ [t],
               strips := u.strips ++ [{ freshStrip t u.lot u.species .waiting with
                 doubt := true, plan := .done .default, kept := some 0, disposition := some .hold }] })) ∧
    (16 ≤ s.infeed.length → pe2Arrival s = releaseTest u)

/-- R34, R35. -/
def Obligations.ArrivalsAtTheGate : Prop :=
  Claims.ArrivalAtTheGate ∧ Claims.PhantomAtTheGate

/-- R33: the record a QUERY_AT names is the oldest of the infeed queue in MEASURING or INFEED with FRONT at or beyond the
station and, in INFEED, FRONT − LENGTH below it; NONE when there is none. -/
def Obligations.LookupNamesTheOldestCoveringRecord : Prop :=
  ∀ (s : State) (pos : Nat),
    let front (r : Strip) : Nat := (s.inf.position - r.leadPos.getD 0).toNat * 1000 / getPar s .infeedCpm
    let covers (r : Strip) : Prop := pos ≤ front r ∧
      (r.stage = .measuring ∨ r.stage = .infeed ∧ (front r : Int) - (r.length.getD 0 : Int) < (pos : Int))
    (∀ r, lookup s pos = some r ↔
      ∃ older younger, infeedStrips s = older ++ r :: younger ∧ covers r ∧ ∀ q ∈ older, ¬ covers q) ∧
    (lookup s pos = none ↔ ∀ r ∈ infeedStrips s, ¬ covers r)

/-! ### Grading and cut planning (03) -/

/-- R54: saw i with position p is a candidate exactly when p ≤ LENGTH − M and p − F ≥ MIN_KEPT, as signed numbers; with no
LENGTH there is none (R60). -/
def Claims.CandidatesOfStageB : Prop :=
  ∀ (sawMap : List Nat) (f m minKept len : Nat) (i : Fin 16) (p : Nat),
    ((i, p) ∈ candidates sawMap f m minKept (some len) ↔
      sawMap[i.val]? = some p ∧ (p : Int) ≤ (len : Int) - (m : Int) ∧ (minKept : Int) ≤ (p : Int) - (f : Int)) ∧
    candidates sawMap f m minKept none = []

/-- R55: a candidate passes exactly when no SPLIT or LOOSE_KNOT has START < p and END > p − Z, p − Z being signed. -/
def Claims.PassingCandidatesOfStageC : Prop :=
  ∀ (z : Nat) (ds : List Defect) (cs : List Candidate) (i : Fin 16) (p : Nat),
    (i, p) ∈ passing z ds cs ↔ (i, p) ∈ cs ∧
      ∀ d ∈ ds, d.kind = .split ∨ d.kind = .looseKnot → ¬ (d.start < p ∧ (p : Int) - (z : Int) < (d.stop : Int))

/-- R54, R55. -/
def Obligations.CandidatesOfStagesBAndC : Prop :=
  Claims.CandidatesOfStageB ∧ Claims.PassingCandidatesOfStageC

/-- R58 and its whole-machine sentence: whichever path a plan ran on, a plan that names saw i at position p has
p ≤ LENGTH − FAR_MARGIN and KEPT = p − FENCE_TRIM ≥ MIN_KEPT; a plan with no saw has KEPT 0. -/
def Obligations.EveryPlannedCutIsSound : Prop :=
  ∀ (e : Evaluation) (grades : Vector GradeRow 6) (sawMap : List Nat),
    let plan := planResult e grades sawMap
    (∀ i, plan.saw = some i → ∃ p len, sawMap[i.val]? = some p ∧ e.length = some len ∧ p + e.farMargin ≤ len ∧
      plan.kept + e.fenceTrim = p ∧ e.minKept ≤ plan.kept) ∧
    (plan.saw = none → plan.kept = 0) ∧
    (∀ g, plan.disposition = .graded g → plan.saw.isSome)

/-- R56: stage D: the kept length, the inside defects, their points and the density that stage E grades; R58: the value
is the kept length times the grade's price, and 0 for REJECT. -/
def Claims.ScoreOfStageD : Prop :=
  ∀ (e : Evaluation) (grades : Vector GradeRow 6) (saw : Fin 16) (p : Nat),
    let v := valueOf e grades (saw, p)
    let ds := e.defects.filter (fun d => decide (e.fenceTrim < d.stop) && decide (d.start < p))
    let points := (ds.map (fun d => e.weights[kindIdx d.kind] * d.size)).sum
    v.grade = gradeOf grades (min 65535 (points * 1000 / (p - e.fenceTrim))) ds ∧
    v.value = match v.grade with
      | none => 0
      | some g => (p - e.fenceTrim) * grades[g].price

/-- R57: stage E gives the first grade whose row is ENABLED and passes both tests, and REJECT when none does. -/
def Claims.GradeOfStageE : Prop :=
  ∀ (grades : Vector GradeRow 6) (density : Nat) (ds : List Defect),
    let passes (g : Grade) : Prop := grades[g].enabled = true ∧ density ≤ grades[g].maxDensity ∧
      ∀ d ∈ ds, d.size ≤ grades[g].maxSize[kindIdx d.kind]
    (∀ g, gradeOf grades density ds = some g ↔ passes g ∧ ∀ h < g, ¬ passes h) ∧
    (gradeOf grades density ds = none ↔ ∀ g, ¬ passes g)

/-- R58: the computed plan is TRIM_OUT exactly when every passing candidate has value 0; otherwise its value is the
largest of the passing candidates', with the larger position between equals. -/
def Claims.TheBestCandidateIsChosen : Prop :=
  ∀ (e : Evaluation) (grades : Vector GradeRow 6) (sawMap : List Nat),
    let cs := passing e.endZone e.defects (candidates sawMap e.fenceTrim e.farMargin e.minKept e.length)
    let value (c : Candidate) : Nat := (valueOf e grades c).value
    let plan := computedPlan e grades sawMap
    ((∀ c ∈ cs, value c = 0) →
      plan = { saw := none, kept := 0, computedGrade := some .reject, disposition := .trimOut }) ∧
    ((∃ c ∈ cs, value c ≠ 0) → ∃ c ∈ cs, ∃ g, plan =
        { saw := some c.1, kept := c.2 - e.fenceTrim, computedGrade := some (.grade g), disposition := .graded g } ∧
      (valueOf e grades c).grade = some g ∧ value c = (c.2 - e.fenceTrim) * grades[g].price ∧ 0 < value c ∧
      ∀ d ∈ cs, value d < value c ∨ value d = value c ∧ d.2 ≤ c.2)

/-- R56, R57, R58. -/
def Obligations.GradesAndChoiceOfStagesDToG : Prop :=
  Claims.ScoreOfStageD ∧ Claims.GradeOfStageE ∧ Claims.TheBestCandidateIsChosen

/-- R60, R61, R59: the default plan takes the largest-indexed candidate whatever the defects, the manual plan the passing
candidate with the largest position; COMPUTED_GRADE is absent, and the disposition is that of the manual grade. -/
def Obligations.UngradedPlans : Prop :=
  ∀ (e : Evaluation) (sawMap : List Nat),
    let cs := candidates sawMap e.fenceTrim e.farMargin e.minKept e.length
    let of (c : Option Candidate) (plan : PlanResult) : Prop :=
      plan.saw = c.map Prod.fst ∧ plan.kept = (c.map (fun c => c.2 - e.fenceTrim)).getD 0 ∧ plan.computedGrade = none ∧
      plan.disposition = match e.manualGrade with
        | none | some .hold => .hold
        | some .reject => .rejected
        | some (.grade g) => if c.isSome then .graded g else .hold
    (∃ c, of c (defaultPlan sawMap e.fenceTrim e.farMargin e.minKept e.length e.manualGrade) ∧
      (∀ d, c = some d → d ∈ cs ∧ ∀ x ∈ cs, x.1 ≤ d.1) ∧ (c = none → cs = [])) ∧
    ∃ c, of c (manualPlan e sawMap) ∧
      (∀ d, c = some d → d ∈ passing e.endZone e.defects cs ∧ ∀ x ∈ passing e.endZone e.defects cs, x.2 ≤ d.2) ∧
      (c = none → passing e.endZone e.defects cs = [])

/-- R47: the idle engine takes the head of the plan queue, copies its inputs and chooses its path; while it evaluates, or
with an empty queue, a start is not due and changes nothing (log 2). -/
def Claims.EvaluationsStart : Prop :=
  (∀ (s : State) (t : Nat) (rest : List Nat) (r : Strip), s.resetHeld = false → s.engine = none →
    s.planQueue = t :: rest → findStrip t s = some r →
    exec .evaluationStart s = .next { s with
      planQueue := rest,
      strips := s.strips.map (fun q => if q.ticket = t then { q with plan := .running } else q),
      engine := some
        { current := t, discard := false, length := r.length, defects := r.defects.getD [], doubt := r.doubt,
          path := if r.doubt then .default else if r.manualGrade.isSome then .manual else .computed,
          manualGrade := r.manualGrade, weights := s.weights, fenceTrim := getPar s .fenceTrim,
          farMargin := getPar s .farMargin, endZone := getPar s .endZone, minKept := getPar s .minKept,
          startUs := s.us } }) ∧
  ∀ s : State, s.resetHeld = false → s.engine.isSome ∨ s.planQueue = [] → exec .evaluationStart s = .next s

/-- R48, R49, R62: a completion writes the plan into the record of CURRENT, or drops it with DISCARD; a manual grade stored
meanwhile sets the disposition; the engine is idle and the release test is made. A completion is taken whenever an
evaluation is in progress (log 2), and its result is worked out from the grade rows and the saw map of that moment (log
17). -/
def Claims.EvaluationsComplete : Prop :=
  ∀ (s : State) (e : Evaluation), s.resetHeld = false → s.engine = some e →
    ∃ u, exec .evaluationCompletion s = .next (releaseTest u) ∧ u = { s with engine := none, strips := u.strips } ∧
      (e.discard = true → u.strips = s.strips) ∧
      (e.discard = false → ∀ n, findStrip n u = (findStrip n s).map (fun r =>
        if n = e.current then
          let plan := planResult e s.grades s.sawMap
          let q : Strip := { r with saw := plan.saw, kept := some plan.kept, computedGrade := plan.computedGrade,
                                    disposition := some plan.disposition,
                                    plan := .done (if e.path = .default then .default else .computed) }
          match r.manualGrade with
          | none => q
          | some v =>
            if some v = e.manualGrade ∨ r.missedCut = true then q
            else { q with disposition := some (manualDisposition plan.saw.isSome v) }
        else r))

/-- R47, R48. -/
def Obligations.EvaluationsRun : Prop :=
  Claims.EvaluationsStart ∧ Claims.EvaluationsComplete

/-- R43, R44: the rows of a SCAN_REPORT that names a ticket, in their order, and what a report that is taken stores. That a
report without THICKNESS or without its count is BAD_REPORT is log 34. -/
def Claims.ScanReportsAreChecked : Prop :=
  ∀ (a : Fin 4) (t1 t0 : Byte) (rest : List Byte) (s : State),
    let t := t1.toNat * 256 + t0.toNat
    let e := scanReport (t1 :: t0 :: rest) a s
    (findStrip t s = none → e = (s, .notFound, [])) ∧
    ∀ r, findStrip t s = some r →
      (r.stage ≠ .measuring → r.stage ≠ .infeed → e = (s, .tooLate, [])) ∧
      (r.stage = .measuring ∨ r.stage = .infeed → r.reportFrom.isSome → e = (s, .already, [])) ∧
      (r.stage = .measuring ∨ r.stage = .infeed → r.reportFrom = none → rest.length < 2 → e = (s, .badReport, [])) ∧
      (r.stage = .measuring ∨ r.stage = .infeed → r.reportFrom = none →
        ∀ (thickness count : Byte) (entries : List Byte), rest = thickness :: count :: entries →
        (15 < thickness.toNat ∨ 24 < count.toNat ∨ entries.length ≠ 6 * count.toNat → e = (s, .badReport, [])) ∧
        (defectsOf count.toNat entries = none → e = (s, .badReport, [])) ∧
        ∀ ds, thickness.toNat ≤ 15 → count.toNat ≤ 24 → defectsOf count.toNat entries = some ds →
          e.2 = (.taken, []) ∧
          findStrip t e.1 = some { r with thickness := some thickness.toNat, defects := some ds, reportFrom := some a,
                                          plan := if r.stage = .infeed then .pending else r.plan } ∧
          e.1 = { s with strips := e.1.strips, planQueue := e.1.planQueue } ∧
          (e.1.planQueue = if r.stage = .infeed then s.planQueue ++ [t] else s.planQueue) ∧
          ∀ n, n ≠ t → findStrip n e.1 = findStrip n s)

/-- R43 row 4, R212: a defect list's bytes are taken exactly when they are six for each entry of the count and every entry
is well formed; the entries are then those of the bytes, in their order. -/
def Claims.DefectEntriesAreChecked : Prop :=
  ∀ (n : Nat) (entries : List Byte) (ds : List Defect),
    defectsOf n entries = some ds ↔
      ds.length = n ∧ (∀ d ∈ ds, d.start ≤ d.stop ∧ d.stop ≤ 4095 ∧ 1 ≤ d.size ∧ d.size ≤ 255) ∧
      entries = ds.flatMap (fun d => [BitVec.ofNat 8 (kindIdx d.kind).val, BitVec.ofNat 8 (d.start / 256),
        BitVec.ofNat 8 d.start, BitVec.ofNat 8 (d.stop / 256), BitVec.ofNat 8 d.stop, BitVec.ofNat 8 d.size])

/-- R43, R44. -/
def Obligations.ReportsAreChecked : Prop :=
  Claims.ScanReportsAreChecked ∧ Claims.DefectEntriesAreChecked

/-- R63, R62, R59: REGRADE checks the value and then the ticket; MANUAL_GRADE takes the value, and with PLAN DONE and no
missed cut the disposition follows from it. Nothing else changes. -/
def Obligations.ManualGradesAreStored : Prop :=
  ∀ (x : Xfer) (ticket : BitVec 16) (value : Byte) (s : State), s.Listens →
    let args := be16 ticket ++ [value]
    (manualGradeOf value = none →
      exec (.regrade x ticket value) s = .next (s.answered x 0x23 args .badArgument [])) ∧
    (manualGradeOf value ≠ none → findStrip ticket.toNat s = none →
      exec (.regrade x ticket value) s = .next (s.answered x 0x23 args .notFound [])) ∧
    ∀ v r, manualGradeOf value = some v → findStrip ticket.toNat s = some r →
      ∃ u : State, exec (.regrade x ticket value) s = .next (u.answered x 0x23 args .ok []) ∧
        u = { s with strips := u.strips } ∧ (∀ n, n ≠ ticket.toNat → findStrip n u = findStrip n s) ∧
        ∃ q, findStrip ticket.toNat u = some q ∧ q = { r with manualGrade := some v, disposition := q.disposition } ∧
          (r.missedCut = true ∨ (∀ k, r.plan ≠ .done k) → q.disposition = r.disposition) ∧
          (∀ k, r.plan = .done k → r.missedCut = false → q.disposition = some (match v with
            | .grade g => if r.saw.isSome then .graded g else .hold
            | .hold => .hold
            | .reject => .rejected))

/-! ### Moulder admission and tool sets (04) -/

/-- R72: the hold reason is that of the first failing condition in the order of the table, and there is none exactly when
all seven conditions hold. -/
def Claims.HoldReasonIsTheFirstFailure : Prop :=
  ∀ s : State,
    let head := s.infeed.head?.bind (fun t => findStrip t s)
    let set := (mountedSet s).map (fun m => s.tools[m])
    let conditions : List (HoldReason × Bool) :=
      [(.line, s.line == .running), (.noHead, head.any (fun r => r.stage == .waiting)),
       (.plan, head.any (fun r => r.plan == .done .default || r.plan == .done .computed)), (.noTool, set.isSome),
       (.exhausted, set.any (fun t => t.state != .exhausted)), (.change, s.pendingChange.isNone),
       (.profile, head.any (fun r => r.thickness.isNone || r.thickness == set.map (·.profile))),
       (.full, decide (s.moulder.length < getPar s .moulderCapacity)), (.gap, s.gapTimer.isNone)]
    holdReason s = (conditions.find? (fun c => !c.2)).map (·.1)

/-- R73, R75: with every condition holding, the test releases the head: GATE, GAP_TIMER, the record's WORN_AT_RELEASE,
TOOL_SET, WIDTH and stage, the queues, the latch, and then the wear; held by profile alone it raises PROFILE_MISMATCH once
a head; held by anything else it does nothing. -/
def Claims.ReleaseTest : Prop :=
  (∀ (s : State) (r : Strip) (m : Fin 4), holdReason s = none → headStrip s = some r → mountedSet s = some m →
    releaseTest s = addWear m r.length (evalPermit
      { s with pulses := s.pulses.set 0 { s.pulses[0] with on := true, msLeft := getPar s .gatePulseMs },
               gapTimer := some (getPar s .gateGapMs), infeed := s.infeed.tail, mismatch := none,
               moulder := s.moulder ++ [{ ticket := r.ticket, age := 0 }],
               strips := s.strips.map (fun q => if q.ticket = r.ticket then
                 { q with wornAtRelease := some (s.tools[m].state == .worn), toolSet := some m,
                          width := some s.tools[m].width, stage := .inMoulder } else q) })) ∧
  (∀ (s : State) (r : Strip), holdReason s = some .profile → headStrip s = some r →
    releaseTest s =
      if s.moulder.length < getPar s .moulderCapacity ∧ s.gapTimer = none ∧ s.mismatch ≠ some r.ticket then
        raise .profileMismatch { s with mismatch := some r.ticket } else s) ∧
  ∀ (s : State) (why : HoldReason), holdReason s = some why → why ≠ .profile → releaseTest s = s

/-- R72, R73, R75. -/
def Obligations.TheReleaseTest : Prop :=
  Claims.HoldReasonIsTheFirstFailure ∧ Claims.ReleaseTest

/-- R66, R67: a released LENGTH is added to USED, saturating at 99,999,999; STATE is worked out afresh, and the event of a
class entered is raised. A record without a LENGTH adds nothing. -/
def Claims.WearFollowsTheReleasedLength : Prop :=
  ∀ (m : Fin 4) (len : Nat) (s : State),
    let tool := s.tools[m]
    let used := min 99999999 (tool.used + len)
    let state : ToolState := if tool.life * 1000 ≤ used then .exhausted
      else if tool.life * tool.warnPct * 10 ≤ used then .worn else .mounted
    let u := { s with tools := s.tools.set m { tool with used := used, state := state } }
    addWear m none s = s ∧
    addWear m (some len) s =
      if state = tool.state ∨ state = .mounted then u
      else if state = .worn then raise .toolWorn u else raise .toolExhausted u

/-- R70: with the moulder queue empty a pending change completes: the mounted set becomes UNMOUNTED, the target is mounted
with its wear class and its event, TOOL_CHANGED is raised and the release test made; else it waits. -/
def Claims.ToolChangesCompleteAtTheDrain : Prop :=
  ∀ (s : State) (m : Fin 4), s.ToolsSound → s.pendingChange = some m →
    (s.moulder ≠ [] → drainTest s = s) ∧
    (s.moulder = [] →
      let state := wearClass s.tools[m]
      let u := { s with tools := Vector.ofFn fun i : Fin 4 =>
        { s.tools[i] with state := if i = m then state else .unmounted } }
      let v := if state = .worn then raise .toolWorn u else if state = .exhausted then raise .toolExhausted u else u
      drainTest s = releaseTest (raise .toolChanged { v with pendingChange := none }))

/-- R66, R67, R70. -/
def Obligations.WearAndToolChanges : Prop :=
  Claims.WearFollowsTheReleasedLength ∧ Claims.ToolChangesCompleteAtTheDrain

/-- R65, R68, R69, R71: SET_TOOL, RESET_WEAR, CHANGE_TOOLS and CANCEL_CHANGE, their checks in order and their effects. -/
def Obligations.ToolCommands : Prop :=
  (∀ (x : Xfer) (set profile width : Byte) (life : BitVec 16) (warnPct : Byte) (s : State), s.Listens →
    let c := Instr.setTool x set profile width life warnPct
    let args := set :: profile :: width :: (be16 life ++ [warnPct])
    (4 ≤ set.toNat → exec c s = .next (s.answered x 0x30 args .badArgument [])) ∧
    ∀ m : Fin 4, set.toNat = m.val →
      (s.tools[m].state ≠ .unmounted → exec c s = .next (s.answered x 0x30 args .wrongState [])) ∧
      (s.tools[m].state = .unmounted →
        let clamped := 15 < profile.toNat ∨ width.toNat < 30 ∨ 200 < width.toNat ∨ life = 0 ∨ warnPct = 0 ∨
          100 < warnPct.toNat
        let tool : Tool := { s.tools[m] with
          configured := true, profile := min 15 profile.toNat, width := max 30 (min 200 width.toNat),
          life := max 1 life.toNat, warnPct := max 1 (min 100 warnPct.toNat) }
        exec c s = .next (State.answered x 0x30 args (if clamped then .okClamped else .ok) []
          { s with tools := s.tools.set m tool }))) ∧
  ∀ (x : Xfer) (set : Byte) (s : State), s.Listens →
    (4 ≤ set.toNat → exec (.resetWear x set) s = .next (s.answered x 0x34 [set] .badArgument []) ∧
      exec (.changeTools x set) s = .next (s.answered x 0x32 [set] .badArgument [])) ∧
    (∀ m : Fin 4, set.toNat = m.val →
      exec (.resetWear x set) s = .next
        (if s.tools[m].state ≠ .unmounted then s.answered x 0x34 [set] .wrongState []
         else State.answered x 0x34 [set] .ok [] { s with tools := s.tools.set m { s.tools[m] with used := 0 } }) ∧
      exec (.changeTools x set) s = .next
        (if s.tools[m].configured = true then
          (drainTest { s.taken x 0x32 [set] with pendingChange := some m }).responds x 0x32 .ok []
         else s.answered x 0x32 [set] .wrongState [])) ∧
    exec (.cancelChange x) s = .next
      (if s.pendingChange = none then s.answered x 0x33 [] .wrongState []
       else (releaseTest { s.taken x 0x33 [] with pendingChange := none }).responds x 0x33 .ok [])

/-- R74, R119: GAP_TIMER and the time pulses at the end of their time; before it nothing ends (log 2). -/
def Claims.GateAndPulseTimers : Prop :=
  ∀ s : State, s.resetHeld = false →
    (s.gapTimer = some 0 → exec .gapTimerExpiry s = .next (releaseTest { s with gapTimer := none })) ∧
    (s.gapTimer ≠ some 0 → exec .gapTimerExpiry s = .next s) ∧
    ∀ p : TimePulse,
      let q := s.pulses[pulseIdx p]
      (q.on = true ∧ q.msLeft = 0 → exec (.timePulseExpiry p) s = .next
        { s with pulses := s.pulses.set (pulseIdx p) { q with on := false } }) ∧
      (¬ (q.on = true ∧ q.msLeft = 0) → exec (.timePulseExpiry p) s = .next s)

/-- R78: the transit monitor leaves no head entry of the moulder queue whose AGE exceeds MOULDER_TRANSIT_MS, and writes
off nothing while the head is within the limit. A late head is retired LOST_MOULDER, which raises that event, the release
test and the drain test are made, and the monitor goes on with the entry that is then the head. -/
def Claims.TransitMonitor : Prop :=
  ∀ s : State, s.resetHeld = false → ∃ t, exec .moulderTransitExpiry s = .next t ∧ LineFrame s t ∧
    (∀ e, t.moulder.head? = some e → e.age ≤ getPar s .moulderTransitMs) ∧
    ((∀ e, s.moulder.head? = some e → e.age ≤ getPar s .moulderTransitMs) → t = s) ∧
    ∀ e, s.moulder.head? = some e → getPar s .moulderTransitMs < e.age →
      t.events[eventIdx .lostMoulder].flag = true ∧ findStrip e.ticket t = none ∧
      exec .moulderTransitExpiry (drainTest (releaseTest (retire e.ticket .lostMoulder s))) = .next t

/-- R74, R78, R119. -/
def Obligations.TimersOfTheGate : Prop :=
  Claims.GateAndPulseTimers ∧ Claims.TransitMonitor

/-- R79 to R81, R90: a PE3 edge moves the head of the moulder queue to transfer holding with a fresh WINDOW, an older strip
there being lost, and caps a GRADED disposition better than WORN_GRADE_CAP once; on an empty queue PHANTOM_MOULDER. -/
def Obligations.MatchAtPe3 : Prop :=
  (∀ s : State, s.moulder = [] → pe3Edge s = raise .phantomMoulder s) ∧
  ∀ (s : State) (e : MoulderEntry) (rest : List MoulderEntry), s.moulder = e :: rest →
    let u := { s with moulder := rest }
    let v := match s.holding with
      | none => u
      | some h => retire h .lostTransfer u
    let cap := getPar s .wornGradeCap
    let lowered (r : Strip) : Option Disposition := match r.disposition with
      | some (.graded g) =>
        if r.wornAtRelease = some true ∧ 1 ≤ cap ∧ cap ≤ 6 ∧ g.val + 1 < cap then
          some (.graded (Fin.ofNat 6 (cap - 1))) else some (.graded g)
      | d => d
    pe3Edge s = drainTest (releaseTest
      { v with holding := some e.ticket, window := getPar s .transferWindow,
               strips := v.strips.map (fun r => if r.ticket = e.ticket then
                 { r with stage := .atTransfer, disposition := lowered r } else r) })

/-! ### The lug chain (05) -/

/-- R24, R49, R114, R101: once a ticket is retired no record, no infeed or moulder queue, no holding, no lug and no pulse
still to be taken at its set point names it; a PENDING record has left the plan queue, a RUNNING evaluation of it is
marked DISCARD, and the event of the reason is flagged. -/
def Obligations.RetirementForgetsTheTicket : Prop :=
  ∀ (t : Nat) (why : RetireReason) (s : State),
    let u := retire t why s
    LineFrame s u ∧ findStrip t u = none ∧ t ∉ u.infeed ∧ (∀ e ∈ u.moulder, e.ticket ≠ t) ∧ u.holding ≠ some t ∧
    (∀ j : Fin 40, u.lugs[j].ticket ≠ some t) ∧
    (∀ (o : Fin 24) (p : Pulse), (u.outs[o].state = .armed ∧ u.outs[o].active = some p) ∨ u.outs[o].waiting = some p →
      p.ticket ≠ t) ∧
    (∀ r, findStrip t s = some r → r.plan = .pending → t ∉ u.planQueue) ∧
    (∀ r e, findStrip t s = some r → r.plan = .running → s.engine = some e → e.current = t →
      u.engine = some { e with discard := true }) ∧
    ∀ k, retireEvent why = some k → u.events[eventIdx k].flag = true

/-- R86, R87, R98: an advance raises HEAD and every offset by one, makes C0 the pitch reference, and a retreat lowers them
and leaves no reference; after either the lug at offset 39 is empty (R89, R99). -/
def Obligations.TheRingMovesByOneLug : Prop :=
  (∀ (s : State) (j : Fin 40), offsetOf s j = (s.head.val + 40 - j.val) % 40 ∧ lugAt s (offsetOf s j) = j) ∧
  ∀ (c0 : Pos) (parts : List AdvancePart) (s : State),
    let u := advance c0 parts s
    let v := retreat s
    u.head = s.head + 1 ∧ u.pitchRef = some c0 ∧ u.lugs[lugAt u 39].ticket = none ∧
    v.head = s.head - 1 ∧ v.pitchRef = none ∧ v.lastPitch = s.lastPitch ∧ v.lugs[lugAt v 39].ticket = none

/-- R88: LAST_PITCH takes the signed counts from the last advance, PITCH_FAULT is raised outside three to five quarters of
CHAIN_PITCH, and PITCH_REF becomes C0; without a reference no check is made. -/
def Claims.PitchCheck : Prop :=
  ∀ (c0 : Pos) (s : State),
    (s.pitchRef = none → pitchCheck c0 s = { s with pitchRef := some c0 }) ∧
    ∀ ref, s.pitchRef = some ref →
      let counts := (c0 - ref).toInt
      let pitch : Int := getPar s .chainPitch
      let u := { s with pitchRef := some c0, lastPitch := some counts }
      pitchCheck c0 s = if counts * 4 < 3 * pitch ∨ counts * 4 > 5 * pitch then raise .pitchFault u else u

/-- R91, R92, R93: PE4 and transfer holding at an advance: the load, the placeholder of a phantom, made after PHANTOM_LUG is
raised (log 6), the count-down of the window with its loss at 0, and nothing. -/
def Claims.LoadPoint : Prop :=
  ∀ s : State,
    (∀ t, s.channels[3].level = .blocked → s.holding = some t → loadPoint s =
      { s with holding := none, window := 0, lugs := s.lugs.set s.head { ticket := some t, sawDone := false },
               strips := s.strips.map (fun r => if r.ticket = t then
                 { r with stage := .onLug, lug := some s.head } else r) }) ∧
    (s.channels[3].level = .blocked → s.holding = none →
      let u := raise .phantomLug s
      let t := nextTicketOf u
      t ∉ u.strips.map (·.ticket) → loadPoint s =
        { u with nextTicket := nextNumber t, lugs := u.lugs.set u.head { ticket := some t, sawDone := false },
                 strips := u.strips ++ [{ freshStrip t u.lot u.species .onLug with
                   doubt := true, plan := .done .default, kept := some 0, disposition := some .hold,
                   lug := some u.head }] }) ∧
    (∀ t, s.channels[3].level = .clear → s.holding = some t →
      let u := { s with window := s.window - 1 }
      loadPoint s = if s.window ≤ 1 then retire t .lostTransfer u else u) ∧
    (s.channels[3].level = .clear → s.holding = none → loadPoint s = s)

/-- R94, R95: the presence check of the lug at the saw station, and the four conditions on which its saw is armed. -/
def Claims.SawStation : Prop :=
  ∀ (c0 : Pos) (s : State),
    let j := lugAt s (getPar s .sawOffset)
    (∀ t, s.lugs[j].ticket = some t → s.channels[5].level = .clear →
      presenceCheck s = retire t .lostAtSaw s ∧ sawArming c0 s = s) ∧
    (s.lugs[j].ticket = none → s.channels[5].level = .blocked →
      presenceCheck s = raise .phantomAtSaw s ∧ sawArming c0 s = s) ∧
    (s.lugs[j].ticket = none → s.channels[5].level = .clear → presenceCheck s = s ∧ sawArming c0 s = s) ∧
    ∀ t r, s.lugs[j].ticket = some t → findStrip t s = some r → s.channels[5].level = .blocked →
      presenceCheck s = s ∧
      (∀ i : Fin 16, r.saw = some i → r.disposition ≠ some .rejected → r.disposition ≠ some .trimOut →
        s.lugs[j].sawDone = false → sawArming c0 s = arm (sawOut i) j t c0 s) ∧
      (r.saw = none ∨ r.disposition = some .rejected ∨ r.disposition = some .trimOut ∨ s.lugs[j].sawDone = true →
        sawArming c0 s = s)

/-- R97, R133: a lane's presentation at an advance: the lug at its DROP_OFFSET, presented once where several lanes share
the offset, has the pusher of its intended lane armed when that lane is at the offset; an empty lug is not presented. -/
def Claims.Presentation : Prop :=
  ∀ (c0 : Pos) (l : Fin 8) (s : State),
    let o := s.lanes[l].dropOffset
    let j := lugAt s o
    let u := advancePiece c0 s l.succ
    ((∃ k < l, s.lanes[k].dropOffset = o) → u = s) ∧
    ((∀ k < l, s.lanes[k].dropOffset ≠ o) →
      (s.lugs[j].ticket = none → u = s) ∧
      ∀ t r, s.lugs[j].ticket = some t → findStrip t s = some r →
        (intendedLane o r s = none → u = s) ∧
        ∀ m, intendedLane o r s = some m →
          u = if s.lanes[m].dropOffset = o then arm (divOut m) j t c0 s else s)

/-- R87, R89: the steps of an advance in their order: HEAD, the pitch check, the lug at offset 39, PE4 and holding, the
saw station, and the presentations; the saw's arming and the lanes' presentations come in an order that takes each of
them once, beginning with the parts the operand names, where it names each once (log 5). What comes among them is a count
of CH that the operand names (R115, log 38). -/
def Claims.AdvanceInOrder : Prop :=
  ∀ (c0 : Pos) (parts : List AdvancePart) (s : State), ∃ order : List AdvancePart,
    order.Nodup ∧ (∀ k, .piece k ∈ order) ∧ (∀ a b o, .count a b o ∈ order ↔ .count a b o ∈ parts) ∧
    (parts.Nodup → ∃ rest, order = parts ++ rest) ∧
    (let one := { s with head := s.head + 1 }
     let two := pitchCheck c0 one
     let three := match two.lugs[lugAt two 39].ticket with
       | none => two
       | some t => retire t .carryover two
     let four := loadPoint three
     advance c0 parts s = order.foldl (advancePart c0) (presenceCheck four)) ∧
    ∀ v : State, advancePart c0 v (.piece 0) = sawArming c0 v ∧
      (∀ l : Fin 8, advancePart c0 v (.piece l.succ) = advancePiece c0 v l.succ) ∧
      ∀ a b o, v.resetHeld = false → exec (.encoderCount .ch a b o) v = .next (advancePart c0 v (.count a b o))

/-- R87 to R89, R91 to R95, R97, R133. -/
def Obligations.TheWorkOfAnAdvance : Prop :=
  Claims.PitchCheck ∧ Claims.LoadPoint ∧ Claims.SawStation ∧ Claims.Presentation ∧ Claims.AdvanceInOrder

/-! ### Actuator timing (06) -/

/-- R18, R107: LEAD is SPEED × latency / 1000 rounded half up, no more than half a pitch; SET is C0 + FIRE − LEAD and CLEAR
is SET + HOLD, modulo 2^24, each from the settings of the output's kind. -/
def Claims.PulsesAreBuiltFromTheSettings : Prop :=
  ∀ (o : Fin 24) (lug : Fin 40) (t : Nat) (c0 : Pos) (s : State),
    let saw := o.val < 16
    let latency := if saw then getPar s .sawLatencyMs else getPar s .divertLatencyMs
    let fire := if saw then getPar s .sawFireCounts else getPar s .divertFireCounts
    let hold := if saw then getPar s .sawHoldCounts else getPar s .divertHoldCounts
    let rounded := s.speed * latency / 1000 + if 500 ≤ s.speed * latency % 1000 then 1 else 0
    let p := buildPulse o lug t c0 s
    p.lead = min rounded (getPar s .chainPitch / 2) ∧ p.lug = lug ∧ p.ticket = t ∧
    (saw → p.lane = none) ∧ (∀ l : Fin 8, o.val = 16 + l.val → p.lane = some l) ∧
    (p.setAt.toNat : Int) = ((c0.toNat : Int) + (fire : Int) - (p.lead : Int)) % 16777216 ∧
    p.clearAt.toNat = (p.setAt.toNat + hold) % 16777216

/-- R108, R112, R115, R118: what an arming does by the line state, the direction of CH and the output's schedule. A point
taken at once by it is `settleSets`. -/
def Claims.ArmingsAreTakenOrSkipped : Prop :=
  ∀ (o : Fin 24) (lug : Fin 40) (t : Nat) (c0 : Pos) (s : State),
    let p := buildPulse o lug t c0 s
    let late := 0 ≤ (s.ch.position - p.setAt).toInt
    let hold := if o.val < 16 then getPar s .sawHoldCounts else getPar s .divertHoldCounts
    let q := if late then { p with setAt := s.ch.position, clearAt := s.ch.position + BitVec.ofNat 24 hold } else p
    let c := s.outs[o]
    let late_raise (u : State) : State := if late then raise .lateFire u else u
    (s.line = .stopped ∨ s.line = .faultStop →
      arm o lug t c0 s = raise .missedActuation (if o.val < 16 then markMissedCut p s else s)) ∧
    (s.line = .running ∨ s.line = .hold → s.ch.direction = .reverse → arm o lug t c0 s = s) ∧
    (s.line = .running ∨ s.line = .hold → s.ch.direction = .forward →
      (c.state = .idle → arm o lug t c0 s = settleSets (late_raise
        { s with outs := s.outs.set o { c with state := .armed, active := some q, waiting := none } })) ∧
      (c.state ≠ .idle → c.waiting = none → arm o lug t c0 s = settleSets (late_raise
        { s with outs := s.outs.set o { c with waiting := some q } })) ∧
      (c.state ≠ .idle → c.waiting ≠ none →
        let u := late_raise s
        arm o lug t c0 s = raise .missedActuation (if o.val < 16 then markMissedCut p u else u)))

/-- R18, R107, R108, R112. -/
def Obligations.ArmingsAndTheirPulses : Prop :=
  Claims.PulsesAreBuiltFromTheSettings ∧ Claims.ArmingsAreTakenOrSkipped

/-- R109, R111, R113: what taking a point does at a saw: the set point, the merge, the clear point with the hand-over to
NEXT; SAW_DONE is that of a lug that still holds the pulse's ticket (log 18). -/
def Claims.PointsOfASaw : Prop :=
  ∀ (i : Fin 16) (p : Pulse) (s : State), s.outs[sawOut i].active = some p →
    let o := sawOut i
    let c := s.outs[o]
    let lug := s.lugs[p.lug]
    let done := { s with lugs := s.lugs.set p.lug (if lug.ticket = some p.ticket then { lug with sawDone := true } else lug) }
    takePoint o .setPoint s = { s with outs := s.outs.set o { c with state := .on } } ∧
    (∀ q, c.waiting = some q →
      let later := if 0 ≤ (q.clearAt - p.clearAt).toInt then q.clearAt else p.clearAt
      takePoint o .mergePoint s =
        { done with outs := s.outs.set o { c with waiting := none, active := some { q with clearAt := later } } }) ∧
    (c.waiting = none → takePoint o .clearPoint s =
      { done with outs := s.outs.set o { c with state := .idle, active := none } }) ∧
    ∀ q, c.waiting = some q → takePoint o .clearPoint s =
      { done with outs := s.outs.set o { c with state := .armed, active := some q, waiting := none } }

/-- R110, R111, R113: what taking a point does at a pusher: the set point and the merge ask the lane about the strip of
their pulse, which is committed when the lane accepts it; refused, the pulse is discarded with DIVERT_SUPPRESSED, the
output taking up NEXT at a set point and keeping its ACTIVE pulse at a merge. A point that the commit's withdrawal leaves
reached on another output is taken after the commit, as a point of its own (log 37). -/
def Claims.PointsOfAPusher : Prop :=
  ∀ (l : Fin 8) (p : Pulse) (s : State), s.outs[divOut l].active = some p →
    let o := divOut l
    let c := s.outs[o]
    (∀ r, findStrip p.ticket s = some r → laneAccepts s.lanes[l] r = true →
      takePoint o .setPoint s = commitStrip l r { s with outs := s.outs.set o { c with state := .on } }) ∧
    ((∀ r, findStrip p.ticket s = some r → laneAccepts s.lanes[l] r = false) →
      ∃ u, u = raise .divertSuppressed { s with outs := s.outs.set o { c with active := none } } ∧
        takePoint o .setPoint s = { u with outs := u.outs.set o (takeUpNext u.outs[o]) }) ∧
    (∀ q, c.waiting = some q →
      let later := if 0 ≤ (q.clearAt - p.clearAt).toInt then q.clearAt else p.clearAt
      (∀ r, findStrip q.ticket s = some r → laneAccepts s.lanes[l] r = true →
        takePoint o .mergePoint s = commitStrip l r
          { s with outs := s.outs.set o { c with waiting := none, active := some { q with clearAt := later } } }) ∧
      ((∀ r, findStrip q.ticket s = some r → laneAccepts s.lanes[l] r = false) →
        takePoint o .mergePoint s =
          raise .divertSuppressed { s with outs := s.outs.set o { c with waiting := none } })) ∧
    takePoint o .clearPoint s = { s with outs := s.outs.set o (takeUpNext c) }

/-- R15, R109, R110, R111, R113 and 06 section 6.1: in RUNNING or HOLD a forward count of CH takes the point it reaches: the
set point of an ARMED output, the set point of NEXT on one that is ON, and else its clear point; with no point reached,
and in STOPPED and FAULT_STOP, the count takes none. That a reached set point of NEXT comes before ACTIVE's clear point
reached at the same count is log 7. Stated for a count that reaches points of one output alone, and leaves none of its
points reached once the first is taken. -/
def Claims.ReachedPointsAreTaken : Prop :=
  ∀ (a b : Bool) (order : CountOrder) (s : State), s.resetHeld = false → (a, b) = (!s.ch.pairB, s.ch.pairA) →
    ∃ u : State, u = { s with ch := u.ch, history := u.history, speed := u.speed, stall := u.stall } ∧
      let now := s.ch.position + 1
      u.ch.position = now ∧
      (s.line = .stopped ∨ s.line = .faultStop ∨ (∀ j : Fin 24, s.outs[j].Quiet now) →
        exec (.encoderCount .ch a b order) s = .next u) ∧
      (s.line = .running ∨ s.line = .hold → ∀ (o : Fin 24) (p : Pulse),
        (∀ j, j ≠ o → s.outs[j].Quiet now) → s.outs[o].active = some p →
        let takes (k : Point) : Prop := (∀ j : Fin 24, (takePoint o k u).outs[j].Quiet now) →
          exec (.encoderCount .ch a b order) s = .next (takePoint o k u)
        (s.outs[o].state = .armed → 0 ≤ (now - p.setAt).toInt → takes .setPoint) ∧
        (s.outs[o].state = .on → ∀ q, s.outs[o].waiting = some q → 0 ≤ (now - q.setAt).toInt → takes .mergePoint) ∧
        (s.outs[o].state = .on → (∀ q, s.outs[o].waiting = some q → (now - q.setAt).toInt < 0) →
          0 ≤ (now - p.clearAt).toInt → takes .clearPoint))

/-- R109, R111: a forward count of CH that reaches the set point of an ARMED saw's only pulse, and not its clear point,
leaves the saw ON; one that reaches the clear point of an ON saw's only pulse leaves it IDLE with SAW_DONE set on the lug
that holds its ticket. Stated for a count that reaches no point of another output. -/
def Claims.SawsActAtTheirCounts : Prop :=
  ∀ (a b : Bool) (order : CountOrder) (s : State) (i : Fin 16) (p : Pulse), s.resetHeld = false →
    (a, b) = (!s.ch.pairB, s.ch.pairA) → s.line = .running ∨ s.line = .hold →
    let o := sawOut i
    let now := s.ch.position + 1
    (∀ j, j ≠ o → s.outs[j].Quiet now) → s.outs[o].active = some p → s.outs[o].waiting = none →
    (s.outs[o].state = .armed → 0 ≤ (now - p.setAt).toInt → (now - p.clearAt).toInt < 0 →
      ∃ t, exec (.encoderCount .ch a b order) s = .next t ∧ t.outs = s.outs.set o { s.outs[o] with state := .on } ∧
        t.lugs = s.lugs) ∧
    (s.outs[o].state = .on → 0 ≤ (now - p.clearAt).toInt →
      ∃ t, exec (.encoderCount .ch a b order) s = .next t ∧
        t.outs = s.outs.set o { s.outs[o] with state := .idle, active := none } ∧
        ∀ j : Fin 40, t.lugs[j] =
          if j = p.lug ∧ s.lugs[j].ticket = some p.ticket then { s.lugs[j] with sawDone := true } else s.lugs[j])

/-- R109, R110, R111, R113, R15. -/
def Obligations.PointsAreTaken : Prop :=
  Claims.PointsOfASaw ∧ Claims.PointsOfAPusher ∧ Claims.ReachedPointsAreTaken ∧ Claims.SawsActAtTheirCounts

/-- R117, R189: LINE_STOP in RUNNING or HOLD switches every counted output to IDLE with no pulse and every time pulse OFF;
each pulse that had not fired, a saw's or a pusher's, is a missed one, and a saw's marks its record; the lug of every saw
pulse, made or missed, has SAW_DONE set while it holds the pulse's ticket, and no other lug changes. The line is STOPPED,
but for an escalation by MISSED_ACTUATION itself (R194). -/
def Obligations.LineStopEndsEveryPulse : Prop :=
  ∀ (x : Xfer) (s : State), s.Listens → s.line = .running ∨ s.line = .hold →
    ∃ u : State, exec (.lineStop x) s = .next (u.responds x 0x03 .ok []) ∧ RaiseFrame (s.taken x 0x03 []) u ∧
      (∀ o : Fin 24, u.outs[o] = { s.outs[o] with state := .idle, active := none, waiting := none,
                                                  forced := u.outs[o].forced }) ∧
      (∀ p : Fin 3, u.pulses[p].on = false ∧ u.pulses[p].msLeft = 0) ∧
      (s.escalation = false ∨ s.events[eventIdx .missedActuation].severity ≠ .stop → u.line = .stopped) ∧
      ((∀ o : Fin 24, s.outs[o].waiting = none ∧ (s.outs[o].state = .on ∨ s.outs[o].active = none)) →
        u.events = s.events ∧ u.strips = s.strips) ∧
      (∀ (i : Fin 16) (p : Pulse), s.outs[sawOut i].waiting = some p ∨
          s.outs[sawOut i].state = .armed ∧ s.outs[sawOut i].active = some p →
        u.events[eventIdx .missedActuation].flag = true ∧
        ∀ r, findStrip p.ticket u = some r → r.missedCut = true ∧ r.disposition = some .hold) ∧
      (∀ (l : Fin 8) (p : Pulse), s.outs[divOut l].waiting = some p ∨
          s.outs[divOut l].state = .armed ∧ s.outs[divOut l].active = some p →
        u.events[eventIdx .missedActuation].flag = true) ∧
      let reported (j : Fin 40) : Prop := ∃ (i : Fin 16) (p : Pulse), p.lug = j ∧ s.lugs[j].ticket = some p.ticket ∧
        (s.outs[sawOut i].active = some p ∨ s.outs[sawOut i].waiting = some p)
      ∀ j : Fin 40, (reported j → u.lugs[j] = { s.lugs[j] with sawDone := true }) ∧
        (¬ reported j → u.lugs[j] = s.lugs[j])

/-! ### Records by command, the line and its events (02, 04, 06, 10, 11) -/

/-- R38, R76: PURGE and EJECT_HEAD, their checks in order; a purged or ejected record is retired, and an ejection pulses
EJECT and makes the release test. -/
def Claims.PurgeAndEject : Prop :=
  (∀ (x : Xfer) (ticket : BitVec 16) (s : State), s.Listens →
    let c := Instr.purge x ticket
    let t := ticket.toNat
    (findStrip t s = none → exec c s = .next (s.answered x 0x24 (be16 ticket) .notFound [])) ∧
    ∀ r, findStrip t s = some r →
      (r.stage ≠ .onLug → exec c s = .next (s.answered x 0x24 (be16 ticket) .wrongState [])) ∧
      (r.stage = .onLug →
        exec c s = .next ((retire t .purged (s.taken x 0x24 (be16 ticket))).responds x 0x24 .ok []))) ∧
  ∀ (x : Xfer) (s : State), s.Listens →
    (s.line = .stopped ∨ s.line = .faultStop → exec (.ejectHead x) s = .next (s.answered x 0x25 [] .wrongState [])) ∧
    (s.line = .running ∨ s.line = .hold → (∀ r, headStrip s = some r → r.stage ≠ .waiting) →
      exec (.ejectHead x) s = .next (s.answered x 0x25 [] .empty [])) ∧
    ∀ r, s.line = .running ∨ s.line = .hold → headStrip s = some r → r.stage = .waiting →
      let u := s.taken x 0x25 []
      let v := retire r.ticket .ejected
        { u with pulses := u.pulses.set 2 { u.pulses[2] with on := true, msLeft := getPar s .ejectPulseMs } }
      exec (.ejectHead x) s = .next ((releaseTest { v with mismatch := none }).responds x 0x25 .ok [])

/-- R206, R40, R49, R84, R104, R149: TRACK_CLEAR outside STOPPED is refused; in STOPPED every record, queue, lug and drop
watch list is emptied, an evaluation in progress is marked for discard, and the drain and release tests follow. -/
def Claims.TrackClear : Prop :=
  ∀ (x : Xfer) (s : State), s.Listens →
    (s.line ≠ .stopped → exec (.trackClear x) s = .next (s.answered x 0x06 [] .wrongState [])) ∧
    (s.line = .stopped → ∃ v : State, exec (.trackClear x) s = .next ((releaseTest (drainTest v)).responds x 0x06 .ok []) ∧
      v = { s.taken x 0x06 [] with
            strips := [], infeed := [], planQueue := [], moulder := [], holding := none, window := 0, mismatch := none,
            lugs := Vector.replicate 40 { ticket := none, sawDone := false }, lanes := v.lanes, outs := v.outs,
            permitOpen := v.permitOpen, engine := s.engine.map (fun e => { e with discard := true }) } ∧
      (0 < getPar s .infeedHighMark → v.permitOpen = true) ∧
      (∀ l : Fin 8, v.lanes[l] = { s.lanes[l] with watch := [] }) ∧
      ∀ o : Fin 24, v.outs[o] = { s.outs[o] with state := .idle, active := none, waiting := none })

/-- Purging, ejecting, clearing: R38, R76, R206. -/
def Obligations.RecordsAreRetiredByCommand : Prop := Claims.PurgeAndEject ∧ Claims.TrackClear

/-- R188, R189, R190, R122: the tables of LINE_START, LINE_HOLD, LINE_STOP where it does nothing, and FAULT_ACK. -/
def Claims.LineCommands : Prop :=
  ∀ (x : Xfer) (s : State), s.Listens →
    (s.line = .stopped → exec (.lineStart x) s = .next ((releaseTest { s.taken x 0x01 [] with
      line := .running, outs := mapTable (fun o => { o with forced := false }) s.outs,
      pulses := mapTable (fun p => { p with forced := false }) s.pulses }).responds x 0x01 .ok [])) ∧
    (s.line = .hold → exec (.lineStart x) s = .next ((releaseTest { s.taken x 0x01 [] with
      line := .running }).responds x 0x01 .ok [])) ∧
    (s.line = .running → exec (.lineStart x) s = .next (s.answered x 0x01 [] .ok [])) ∧
    (s.line = .faultStop → exec (.lineStart x) s = .next (s.answered x 0x01 [] .wrongState [])) ∧
    (s.line = .running → exec (.lineHold x) s = .next (State.answered x 0x02 [] .ok [] { s with line := .hold })) ∧
    (s.line = .hold → exec (.lineHold x) s = .next (s.answered x 0x02 [] .ok [])) ∧
    (s.line = .stopped ∨ s.line = .faultStop → exec (.lineHold x) s = .next (s.answered x 0x02 [] .wrongState [])) ∧
    (s.line = .stopped → exec (.lineStop x) s = .next (s.answered x 0x03 [] .ok [])) ∧
    (s.line = .faultStop → exec (.lineStop x) s = .next (s.answered x 0x03 [] .wrongState [])) ∧
    (s.line = .faultStop →
      ((∀ k, ¬ (s.events[eventIdx k].flag = true ∧ s.events[eventIdx k].severity = .stop)) →
        exec (.faultAck x) s = .next (State.answered x 0x04 [] .ok [] { s with line := .stopped })) ∧
      ∀ k, s.events[eventIdx k].flag = true → s.events[eventIdx k].severity = .stop →
        exec (.faultAck x) s = .next (s.answered x 0x04 [] .busy [])) ∧
    (s.line ≠ .faultStop → exec (.faultAck x) s = .next (s.answered x 0x04 [] .wrongState []))

/-- R121, R106: SET_OUTPUTS, its checks in order; an output in the set list alone is forced ON, in the clear list alone
OFF, any other keeps its FORCED value, and nothing but FORCED values changes. -/
def Claims.MaintenanceOverride : Prop :=
  ∀ (x : Xfer) (sets clears : List Byte) (s : State), s.Listens → sets.length + clears.length ≤ 31 →
    sets.length ≤ 27 → clears.length ≤ 27 →
    let bytes := sets ++ BitVec.ofNat 8 clears.length :: clears
    let n := BitVec.ofNat 8 sets.length
    let c := Instr.setOutputs x n bytes
    (s.line ≠ .stopped → exec c s = .next (s.answered x 0x70 (n :: bytes) .wrongState [])) ∧
    (s.line = .stopped → (∃ b ∈ sets ++ clears, 27 ≤ b.toNat) →
      exec c s = .next (s.answered x 0x70 (n :: bytes) .badArgument [])) ∧
    (s.line = .stopped → (∀ b ∈ sets ++ clears, b.toNat < 27) → ∃ u : State,
      exec c s = .next (u.answered x 0x70 (n :: bytes) .ok []) ∧ u = { s with outs := u.outs, pulses := u.pulses } ∧
      let forced (k : Nat) (before : Bool) : Bool :=
        let b := BitVec.ofNat 8 k
        if b ∈ sets ∧ b ∉ clears then true else if b ∈ clears ∧ b ∉ sets then false else before
      (∀ o : Fin 24, u.outs[o] = { s.outs[o] with forced := forced o.val s.outs[o].forced }) ∧
      ∀ p : Fin 3, u.pulses[p] = { s.pulses[p] with forced := forced (24 + p.val) s.pulses[p].forced })

/-- The line commands and the maintenance override: R188 to R190, R121. -/
def Obligations.LineCommandsAndOverride : Prop := Claims.LineCommands ∧ Claims.MaintenanceOverride

/-- R193, R194: a raising sets the flag of its kind, and with ESCALATION enabled takes the line where the table of
severities gives it, with LAST_ESCALATION; a raising that does not move the line changes nothing but its flag. One that
moves the line can set the flag of MISSED_ACTUATION besides (R117), and changes no other item of any kind. -/
def Obligations.RaisingAnEvent : Prop :=
  ∀ (k : EventKind) (s : State),
    let u := raise k s
    let item := s.events[eventIdx k]
    let after : Option LineState :=
      if s.escalation = false then none
      else match item.severity, s.line with
        | .hold, .running => some .hold
        | .stop, .running | .stop, .hold | .stop, .stopped => some .faultStop
        | _, _ => none
    RaiseFrame s u ∧ u.events[eventIdx k] = { item with flag := true } ∧
    (∀ j, j ≠ k → j ≠ .missedActuation → u.events[eventIdx j] = s.events[eventIdx j]) ∧
    match after with
    | none => u = { s with events := s.events.set (eventIdx k) { item with flag := true } }
    | some line => u.line = line ∧
      u.lastEscalation = some { kind := k, before := s.line, after := line, time := s.ms } ∧
      u.events[eventIdx .missedActuation] =
        { s.events[eventIdx .missedActuation] with flag := u.events[eventIdx .missedActuation].flag }

/-- R195 to R198: CLEAR_EVENTS, SET_EVENT_ROUTE and SET_ESCALATION, and the attention lines: asserted exactly while a flag
routed there is set and unmasked. -/
def Obligations.EventCommands : Prop :=
  (∀ (x : Xfer) (bytes : List Byte) (s : State), s.Listens → bytes.length ≤ 32 →
    let n := BitVec.ofNat 8 bytes.length
    ((∃ b ∈ bytes, 32 ≤ b.toNat) →
      exec (.clearEvents x n bytes) s = .next (s.answered x 0x61 (n :: bytes) .badArgument [])) ∧
    ((∀ b ∈ bytes, b.toNat < 32) → ∃ u : State,
      exec (.clearEvents x n bytes) s = .next (u.answered x 0x61 (n :: bytes) .ok []) ∧ u = { s with events := u.events } ∧
      ∀ i : Fin 32, u.events[i] = { s.events[i] with flag := s.events[i].flag && !bytes.contains (BitVec.ofNat 8 i.val) })) ∧
  (∀ (x : Xfer) (kind route masked severity : Byte) (s : State), s.Listens →
    let c := Instr.setEventRoute x kind route masked severity
    let args := [kind, route, masked, severity]
    (32 ≤ kind.toNat ∨ 2 ≤ route.toNat ∨ 2 ≤ masked.toNat ∨ 3 ≤ severity.toNat →
      exec c s = .next (s.answered x 0x62 args .badArgument [])) ∧
    ∀ (i : Fin 32) (v : Severity), kind.toNat = i.val → route.toNat < 2 → masked.toNat < 2 →
      severities[severity.toNat]? = some v →
      let item : EventItem := { s.events[i] with
        route := if route = 0 then .attn0 else .attn1, masked := decide (masked = 1), severity := v }
      exec c s = .next (State.answered x 0x62 args .ok [] { s with events := s.events.set i item })) ∧
  (∀ (x : Xfer) (value : Byte) (s : State), s.Listens →
    (value.toNat < 2 → exec (.setEscalation x value) s = .next
      (State.answered x 0x63 [value] .ok [] { s with escalation := decide (value = 0) })) ∧
    (2 ≤ value.toNat → exec (.setEscalation x value) s = .next (s.answered x 0x63 [value] .badArgument []))) ∧
  ∀ (s : State) (r : Route), s.resetHeld = false →
    (attention s r = true ↔ ∃ i : Fin 32, s.events[i].flag = true ∧ s.events[i].masked = false ∧ s.events[i].route = r)

/-! ### Parameters and tables (11) -/

/-- R207, R209, R185, R102, R32, R120: SET_PARAM refuses in the order of its checks, else stores the value clamped, answers
it, lowers what depends on it, and says OK_CLAMPED exactly when anything was clamped or lowered. R30, R72, R78, R147: a
write of an infeed mark evaluates the latch, one of MOULDER_CAPACITY makes the release test, one of MOULDER_TRANSIT_MS the
transit test, one of DROP_CONFIRM_MS expires the oldest entries it leaves behind; any other write changes nothing more.
That the answer carries the value in four bytes is log 10. -/
def Obligations.SetParamStoresTheClampedValue : Prop :=
  ∀ (x : Xfer) (code : Byte) (value : BitVec 32) (s : State), s.Listens →
    let c := Instr.setParam x code value
    let args := code :: be32 value
    (code = 0 ∨ 33 < code.toNat → exec c s = .next (s.answered x 0x10 args .badArgument [])) ∧
    ∀ p, paramOf code = some p →
      let v := if value.toNat < paramLow p then paramLow p else min value.toNat (paramHigh s p)
      let structural := p = .infeedCpm ∨ p = .chainPitch ∨ p = .sawOffset
      let badRate := p = .linkBaud ∧ value.toNat ∉ [19200, 57600, 115200, 250000]
      let sawBlocked := p = .sawOffset ∧ ((∃ j : Fin 40, s.lugs[j].ticket ≠ none) ∨
        ∃ l : Fin 8, s.lanes[l].kind ≠ .unused ∧ s.lanes[l].dropOffset ≤ v)
      (structural ∧ s.line ≠ .stopped → exec c s = .next (s.answered x 0x10 args .wrongState [])) ∧
      (badRate → exec c s = .next (s.answered x 0x10 args .badArgument [])) ∧
      (s.line = .stopped → sawBlocked → exec c s = .next (s.answered x 0x10 args .wrongState [])) ∧
      ((structural → s.line = .stopped) → ¬ badRate → ¬ sawBlocked → ∃ u status,
        exec c s = .next (u.responds x 0x10 status (code :: u32 v)) ∧
        LineFrame { s.taken x 0x10 args with params := u.params } u ∧ getPar u p = v ∧
        (∀ q, q ≠ p → getPar u q =
          if p = .infeedHighMark ∧ q = .infeedLowMark ∨ p = .chainPitch ∧ q ∈ pitchCounts then min (getPar s q) (v - 1)
          else getPar s q) ∧
        (status = .ok ↔ v = value.toNat ∧ ∀ q, q ≠ p → getPar u q = getPar s q) ∧ (status = .ok ∨ status = .okClamped) ∧
        (let w := { s.taken x 0x10 args with params := u.params }
         (p ∉ [.infeedHighMark, .infeedLowMark, .moulderCapacity, .moulderTransitMs, .dropConfirmMs] → u = w) ∧
         (p = .infeedHighMark ∨ p = .infeedLowMark → u = evalPermit w) ∧
         (p = .moulderCapacity → u = releaseTest w) ∧
         (p = .moulderTransitMs → exec .moulderTransitExpiry w = .next u) ∧
         (p = .dropConfirmMs → ∀ l : Fin 8, ∃ gone, s.lanes[l].watch = gone ++ u.lanes[l].watch ∧
           (∀ e ∈ gone, v < (s.ms - e.fireTime).toNat) ∧
           (∀ e, u.lanes[l].watch.head? = some e → (s.ms - e.fireTime).toNat ≤ v) ∧
           (gone ≠ [] → u.events[eventIdx .missedDrop].flag = true))))

/-- R50, R51, R52, R7, R6, R39: the commands that write the grade table, the weights, the saw map, a filter channel, its
GLITCH and the lot: their checks in order, their clamping, and all they change. -/
def Obligations.TablesAreWritten : Prop :=
  (∀ (x : Xfer) (row enabled : Byte) (maxDensity : BitVec 16) (maxSize : Vector Byte 8) (price : Byte) (s : State),
    s.Listens →
    let c := Instr.setGrade x row enabled maxDensity maxSize price
    let args := row :: enabled :: (be16 maxDensity ++ maxSize.toList ++ [price])
    (row = 0 ∨ 6 < row.toNat ∨ 1 < enabled.toNat → exec c s = .next (s.answered x 0x12 args .badArgument [])) ∧
    ∀ g : Fin 6, row.toNat = g.val + 1 → enabled.toNat ≤ 1 →
      (s.engine.isSome → exec c s = .next (s.answered x 0x12 args .busy [])) ∧
      (s.engine = none → ∃ r : GradeRow, r.enabled = decide (enabled = 1) ∧ r.maxDensity = maxDensity.toNat ∧
        r.price = price.toNat ∧ (∀ k : Fin 8, r.maxSize[k] = maxSize[k].toNat) ∧
        exec c s = .next (State.answered x 0x12 args .ok [] { s with grades := s.grades.set g r }))) ∧
  (∀ (x : Xfer) (weights : Vector Byte 8) (s : State), s.Listens → ∃ w : Vector Nat 8,
    (∀ k : Fin 8, w[k] = min 15 weights[k].toNat) ∧ exec (.setWeights x weights) s = .next
      (State.answered x 0x14 weights.toList (if ∃ k : Fin 8, 15 < weights[k].toNat then .okClamped else .ok) []
        { s with weights := w })) ∧
  (∀ (x : Xfer) (bytes : List Byte) (s : State), s.Listens → bytes.length % 2 = 0 → bytes.length ≤ 32 →
    let n := BitVec.ofNat 8 (bytes.length / 2)
    let carried := positionsOf bytes
    let clamped := carried.map (fun p => max 50 (min 4000 p))
    let c := Instr.setSawMap x n bytes
    (s.line ≠ .stopped ∨ s.strips ≠ [] → exec c s = .next (s.answered x 0x15 (n :: bytes) .wrongState [])) ∧
    (s.line = .stopped → s.strips = [] → ¬ clamped.Pairwise (· < ·) →
      exec c s = .next (s.answered x 0x15 (n :: bytes) .badArgument [])) ∧
    (s.line = .stopped → s.strips = [] → clamped.Pairwise (· < ·) →
      exec c s = .next (State.answered x 0x15 (n :: bytes) (if clamped = carried then .ok else .okClamped) []
        { s with sawMap := clamped }))) ∧
  (∀ (x : Xfer) (channel mode : Byte) (threshold jamMs : BitVec 16) (s : State), s.Listens →
    let c := Instr.setFilter x channel mode threshold jamMs
    let args := channel :: mode :: (be16 threshold ++ be16 jamMs)
    (6 ≤ channel.toNat ∨ 3 ≤ mode.toNat → exec c s = .next (s.answered x 0x18 args .badArgument [])) ∧
    ∀ (i : Fin 6) (m : FilterMode), channel.toNat = i.val → filterModes[mode.toNat]? = some m →
      let v := max 100 (min 60000 jamMs.toNat)
      let ch := s.channels[i]
      let written : Channel := { ch with
        mode := m, threshold := threshold.toNat, counter := 0, jam := ch.jam.map (fun j => { j with limitMs := v }) }
      exec c s = .next (State.answered x 0x18 args (if ch.jam ≠ none ∧ v ≠ jamMs.toNat then .okClamped else .ok) []
        { s with channels := s.channels.set i written })) ∧
  ∀ (x : Xfer) (s : State), s.Listens →
    (∀ channel : Byte, 6 ≤ channel.toNat →
      exec (.clearGlitch x channel) s = .next (s.answered x 0x1B [channel] .badArgument [])) ∧
    (∀ (channel : Byte) (i : Fin 6), channel.toNat = i.val → exec (.clearGlitch x channel) s = .next
      (State.answered x 0x1B [channel] .ok []
        { s with channels := s.channels.set i { s.channels[i] with glitch := false } })) ∧
    ∀ (lot : BitVec 16) (species : Byte), exec (.setLot x lot species) s = .next
      (State.answered x 0x19 (be16 lot ++ [species]) (if 15 < species.toNat then .okClamped else .ok) []
        { s with lot := lot.toNat, species := min 15 species.toNat })

/-- R20, R123, R36, R37, R50, R83, R103, R148, R171, R186, R199, R208: every reading command answers OK with its payload,
or refuses an operand out of range or a place that holds nothing, and changes nothing but the Command Port. -/
def Obligations.ReadingChangesNothing : Prop :=
  ∀ (x : Xfer) (s : State), s.Listens →
    exec (.readIo x) s = .next (s.answered x 0x71 [] .ok (ioPayload s)) ∧
    exec (.readEvents x) s = .next (s.answered x 0x60 [] .ok (eventsPayload s)) ∧
    exec (.portStatus x) s = .next (s.answered x 0x52 [] .ok (portPayload s)) ∧
    (∀ t : BitVec 16, exec (.readStrip x t) s = .next (match findStrip t.toNat s with
      | some r => s.answered x 0x20 (be16 t) .ok (stripPayload s r)
      | none => s.answered x 0x20 (be16 t) .notFound [])) ∧
    ∀ b : Byte,
      (∀ p, paramOf b = some p → exec (.getParam x b) s = .next (s.answered x 0x11 [b] .ok
        (b :: (u32 (getPar s p) ++ u32 (paramLow p) ++ u32 (paramHigh s p))))) ∧
      (b = 0 ∨ 33 < b.toNat → exec (.getParam x b) s = .next (s.answered x 0x11 [b] .badArgument [])) ∧
      (∀ g : Fin 6, b.toNat = g.val + 1 → exec (.getGrade x b) s = .next (s.answered x 0x13 [b] .ok (gradePayload s g))) ∧
      (b = 0 ∨ 6 < b.toNat → exec (.getGrade x b) s = .next (s.answered x 0x13 [b] .badArgument [])) ∧
      (∀ p, places[b.toNat]? = some p → exec (.listQueue x b) s = .next (s.answered x 0x21 [b] .ok (listPayload s p))) ∧
      (4 ≤ b.toNat → exec (.listQueue x b) s = .next (s.answered x 0x21 [b] .badArgument [])) ∧
      (∀ j : Fin 40, b.toNat = j.val → exec (.readLug x b) s = .next (s.answered x 0x22 [b] .ok (lugPayload s j))) ∧
      (40 ≤ b.toNat → exec (.readLug x b) s = .next (s.answered x 0x22 [b] .badArgument [])) ∧
      (∀ m : Fin 4, b.toNat = m.val → exec (.readTool x b) s = .next (s.answered x 0x31 [b] .ok (toolPayload s m))) ∧
      (4 ≤ b.toNat → exec (.readTool x b) s = .next (s.answered x 0x31 [b] .badArgument [])) ∧
      (∀ a : Fin 4, b.toNat = a.val + 1 →
        exec (.readStation x b) s = .next (s.answered x 0x73 [b] .ok (stationPayload s a))) ∧
      (b = 0 ∨ 4 < b.toNat → exec (.readStation x b) s = .next (s.answered x 0x73 [b] .badArgument [])) ∧
      (8 ≤ b.toNat → exec (.getLane x b) s = .next (s.answered x 0x17 [b] .badArgument []) ∧
        exec (.readBundle x b) s = .next (s.answered x 0x40 [b] .badArgument []) ∧
        exec (.readLabel x b) s = .next (s.answered x 0x44 [b] .badArgument [])) ∧
      ∀ l : Fin 8, b.toNat = l.val →
        exec (.getLane x b) s = .next (s.answered x 0x17 [b] .ok (lanePayload s l)) ∧
        exec (.readBundle x b) s = .next (match s.lanes[l].bundle with
          | some k => s.answered x 0x40 [b] .ok (bundlePayload s.lanes[l].state k)
          | none => s.answered x 0x40 [b] .empty []) ∧
        exec (.readLabel x b) s = .next (match s.labels.find? (fun k => k.lane == l) with
          | some k => s.answered x 0x44 [b] .ok (labelPayload s k)
          | none => s.answered x 0x44 [b] .empty [])

/-! ### Lanes and bundles (07) -/

/-- R131, R132: the five conditions of a BUNDLE lane and the conditions of the bins. -/
def Claims.Acceptance : Prop :=
  ∀ (l : Lane) (r : Strip), laneAccepts l r = true ↔ l.state = .opened ∧
    match l.kind with
    | .unused => False
    | .holdBin => True
    | .rejectBin => r.disposition = some .trimOut ∨ r.disposition = some .rejected
    | .bundle => ∃ b, l.bundle = some b ∧
      let kept := r.kept.getD 0
      let area := kept * r.width.getD 0
      r.disposition = some (.graded b.grade) ∧ r.missedCut = false ∧ l.minK ≤ kept ∧ kept ≤ l.maxK ∧
      (b.count = 0 ∨ b.lot = some r.lot ∧ b.width = r.width) ∧
      (b.shortCopy ≤ kept ∨ (b.short + area) * 100 ≤ b.mixCopy * (b.coverage + area))

/-- R129, R130: an intended lane lies at the offset or ahead and accepts the strip; a strip on HOLD or with a missed cut
goes to the lowest-numbered OPEN hold bin that counts; a GRADED one whose first match accepts goes there, and else to its
ALTERNATE if that matches and accepts. -/
def Claims.Routing : Prop :=
  ∀ (o : Nat) (r : Strip) (s : State),
    let isBin (kind : LaneKind) (l : Fin 8) : Prop :=
      o ≤ s.lanes[l].dropOffset ∧ s.lanes[l].kind = kind ∧ s.lanes[l].state = .opened
    let fits (g : Grade) (l : Fin 8) : Prop := o ≤ s.lanes[l].dropOffset ∧ s.lanes[l].kind = .bundle ∧
      s.lanes[l].grade = g ∧ s.lanes[l].minK ≤ r.kept.getD 0 ∧ r.kept.getD 0 ≤ s.lanes[l].maxK
    let lowest (p : Fin 8 → Prop) (l : Fin 8) : Prop := p l ∧ ∀ k < l, ¬ p k
    (∀ l, intendedLane o r s = some l → o ≤ s.lanes[l].dropOffset ∧ laneAccepts s.lanes[l] r = true) ∧
    (r.missedCut = true ∨ r.disposition = some .hold →
      ∀ l, intendedLane o r s = some l ↔ lowest (isBin .holdBin) l) ∧
    (r.missedCut = false → r.disposition = some .trimOut ∨ r.disposition = some .rejected →
      ∀ l, intendedLane o r s = some l ↔
        lowest (isBin .rejectBin) l ∨ (∀ k, ¬ isBin .rejectBin k) ∧ lowest (isBin .holdBin) l) ∧
    ∀ g, r.missedCut = false → r.disposition = some (.graded g) →
      ((∀ k, ¬ fits g k) → ∀ l, intendedLane o r s = some l ↔ lowest (isBin .holdBin) l) ∧
      ∀ first, lowest (fits g) first →
        (laneAccepts s.lanes[first] r = true → intendedLane o r s = some first) ∧
        (laneAccepts s.lanes[first] r = false → ∀ alt, s.lanes[first].alternate = some alt →
          fits g alt → laneAccepts s.lanes[alt] r = true → intendedLane o r s = some alt) ∧
        (laneAccepts s.lanes[first] r = false →
          (∀ alt, s.lanes[first].alternate = some alt → ¬ (fits g alt ∧ laneAccepts s.lanes[alt] r = true)) →
          ∀ l, intendedLane o r s = some l ↔ lowest (isBin .holdBin) l)

/-- R129 to R132. -/
def Obligations.StripsAreRouted : Prop := Claims.Acceptance ∧ Claims.Routing

/-- R135, R136, R137, R141: a commit to a BUNDLE lane adds the strip to the bundle's accounts, retires the record, watches
for the drop, and closes the bundle at its target or its count. -/
def Claims.BundleCommits : Prop :=
  ∀ (l : Fin 8) (r : Strip) (s : State) (b : Bundle), s.lanes[l].kind = .bundle → s.lanes[l].bundle = some b →
    let u := commitStrip l r s
    let area := r.kept.getD 0 * r.width.getD 0
    let full := b.targetCopy * 100 ≤ b.coverage + area
    let many := s.lanes[l].maxStrips ≤ b.count + 1
    let watch := s.lanes[l].watch
    LineFrame s u ∧ findStrip r.ticket u = none ∧
    u.lanes[l].watch = (if 4 ≤ watch.length then watch.tail else watch) ++
      [{ fireTime := s.ms, bundle := some b.number }] ∧
    u.lanes[l].state = (if full ∨ many then .closed else s.lanes[l].state) ∧
    ∃ c, u.lanes[l].bundle = some c ∧ c.number = b.number ∧ c.grade = b.grade ∧ c.count = b.count + 1 ∧
      c.coverage = b.coverage + area ∧
      c.short = (if r.kept.getD 0 < b.shortCopy then b.short + area else b.short) ∧
      (b.count = 0 → c.lot = some r.lot ∧ c.species = some r.species ∧ c.width = r.width) ∧
      (b.count ≠ 0 → c.lot = b.lot ∧ c.species = b.species ∧ c.width = b.width) ∧
      (∀ i : Fin 16, c.histogram[i] = b.histogram[i] + if r.saw = some i then 1 else 0) ∧
      c.closeReason = if full then some .target else if many then some .count else b.closeReason

/-- R135, R141: a commit to a bin adds 1 to BIN_COUNT, saturating at 65,535, retires the record and watches for the drop with
an entry that names no bundle, a fifth entry displacing the oldest with MISSED_DROP; no closure test is made, and no other
lane changes. -/
def Claims.BinCommits : Prop :=
  ∀ (l : Fin 8) (r : Strip) (s : State), s.lanes[l].kind = .holdBin ∨ s.lanes[l].kind = .rejectBin →
    let u := commitStrip l r s
    let lane := s.lanes[l]
    LineFrame s u ∧ findStrip r.ticket u = none ∧ (∀ k, k ≠ l → u.lanes[k] = s.lanes[k]) ∧
    (∃ bundle, u.lanes[l] = { lane with
        binCount := min 65535 (lane.binCount + 1), bundle := bundle,
        watch := (if 4 ≤ lane.watch.length then lane.watch.tail else lane.watch) ++
          [{ fireTime := s.ms, bundle := none }] } ∧
      (lane.bundle = none → bundle = none ∧ u.labels = s.labels)) ∧
    (4 ≤ lane.watch.length → u.events[eventIdx .missedDrop].flag = true) ∧
    (lane.watch.length < 4 → u.events = s.events)

/-- R135 to R137, R141. -/
def Obligations.CommitsAreCounted : Prop := Claims.BundleCommits ∧ Claims.BinCommits

/-- R128: a fresh bundle takes the first number from NEXT_BUNDLE that no live bundle holds; it is empty, with the lane's
grade and copies of TARGET, MIX_PCT and SHORT_MM, and the lane is OPEN. -/
def Claims.FreshBundle : Prop :=
  ∀ (l : Fin 8) (s : State), 1 ≤ s.nextBundle → s.nextBundle ≤ 65535 →
    let live (n : Nat) : Prop := ∃ k : Fin 8, ∃ b, s.lanes[k].bundle = some b ∧ b.number = n
    let lane := s.lanes[l]
    ∃ i n, (∀ j < i, live (nextNumber^[j] s.nextBundle)) ∧ n = nextNumber^[i] s.nextBundle ∧ ¬ live n ∧
      1 ≤ n ∧ n ≤ 65535 ∧
      let fresh : Bundle :=
        { number := n, grade := lane.grade, lot := none, species := none, width := none, count := 0, coverage := 0,
          short := 0, histogram := Vector.replicate 16 0, targetCopy := lane.target, mixCopy := lane.mixPct,
          shortCopy := lane.shortMm, doubtful := false, closeReason := none, labelDone := false, cleared := false }
      openBundle l s = { s with nextBundle := if n = 65535 then 1 else n + 1,
                                lanes := s.lanes.set l { lane with bundle := some fresh, state := .opened } }

/-- R139, R150, R152: the closing steps of a bundle: CLOSE_REASON, CLOSED, BUNDLE_CLOSED, and a label at the tail of the
label queue with the bundle's values. -/
def Claims.ClosingSteps : Prop :=
  ∀ (l : Fin 8) (why : CloseReason) (s : State) (b : Bundle), s.lanes[l].bundle = some b →
    let u := closeBundle l why s
    LineFrame s u ∧
    u.lanes = s.lanes.set l { s.lanes[l] with state := .closed, bundle := some { b with closeReason := some why } } ∧
    u.events[eventIdx .bundleClosed].flag = true ∧ u.labels.length = s.labels.length + 1 ∧
    ∃ label, u.labels.getLast? = some label ∧ (label.state = .queued ∨ label.state = .printing) ∧ label =
      { lane := l, number := b.number, lot := b.lot.getD 0, species := b.species.getD 0, grade := b.grade,
        width := b.width.getD 0, count := b.count, coverage := b.coverage / 1000, doubtful := b.doubtful,
        closeReason := why, state := label.state, tries := 0,
        lengths := (indices 16).filterMap (fun i => if b.histogram[i] = 0 then none
          else some ((s.sawMap[i.val]?).getD 0 - getPar s .fenceTrim, b.histogram[i])) }

/-- R138, R144, R146: FORCE_CLOSE and CONFIRM_CLEAR, their checks in order; a bundle that is cleared and labelled is
retired, a fresh one opening while ENABLED is set. -/
def Claims.BundleCommands : Prop :=
  ∀ (x : Xfer) (lane : Byte) (s : State), s.Listens →
    (8 ≤ lane.toNat → exec (.forceClose x lane) s = .next (s.answered x 0x41 [lane] .badArgument []) ∧
      exec (.confirmClear x lane) s = .next (s.answered x 0x43 [lane] .badArgument [])) ∧
    ∀ l : Fin 8, lane.toNat = l.val →
      (s.lanes[l].kind ≠ .bundle ∨ s.lanes[l].state ≠ .opened →
        exec (.forceClose x lane) s = .next (s.answered x 0x41 [lane] .wrongState [])) ∧
      (s.lanes[l].state ≠ .closed → exec (.confirmClear x lane) s = .next (s.answered x 0x43 [lane] .wrongState [])) ∧
      ∀ b, s.lanes[l].bundle = some b →
        (s.lanes[l].kind = .bundle → s.lanes[l].state = .opened → exec (.forceClose x lane) s = .next
          (if b.count = 0 then s.answered x 0x41 [lane] .empty []
           else (closeBundle l .forced (s.taken x 0x41 [lane])).responds x 0x41 .ok [])) ∧
        (s.lanes[l].state = .closed → exec (.confirmClear x lane) s = .next (State.answered x 0x43 [lane] .ok []
          (if b.labelDone = false then
            { s with lanes := s.lanes.set l { s.lanes[l] with bundle := some { b with cleared := true } } }
           else if s.lanes[l].enabled = false then
            { s with lanes := s.lanes.set l { s.lanes[l] with bundle := none, state := .disabled } }
           else openBundle l { s with lanes := s.lanes.set l { s.lanes[l] with bundle := none } })))

/-- R143: the oldest entry of a drop watch list, its age above DROP_CONFIRM_MS, is removed with MISSED_DROP, and its bundle,
if the lane still holds it, is DOUBTFUL, as is its label once it is CLOSED (R152). -/
def Claims.DropWatch : Prop :=
  ∀ (l : Fin 8) (s : State), s.resetHeld = false →
    (s.lanes[l].watch = [] → exec (.dropWatchExpiry l) s = .next s) ∧
    ∀ w rest, s.lanes[l].watch = w :: rest →
      ((s.ms - w.fireTime).toNat ≤ getPar s .dropConfirmMs → exec (.dropWatchExpiry l) s = .next s) ∧
      (getPar s .dropConfirmMs < (s.ms - w.fireTime).toNat → ∃ u, exec (.dropWatchExpiry l) s = .next u ∧ LineFrame s u ∧
        u.lanes[l].watch = rest ∧ (∀ k, k ≠ l → u.lanes[k] = s.lanes[k]) ∧ u.events[eventIdx .missedDrop].flag = true ∧
        (∀ b, s.lanes[l].bundle = some b →
          u.lanes[l].bundle = some { b with doubtful := b.doubtful || decide (w.bundle = some b.number) }) ∧
        (∀ b, s.lanes[l].bundle = some b → w.bundle = some b.number → s.lanes[l].state = .closed →
          ∀ label ∈ u.labels, label.lane = l → label.doubtful = true))

/-- R145, R146: LABEL_DONE handed over is set on the lane's bundle; a bundle already CLEARED is retired by it, a fresh one
opening while ENABLED is set and the lane becoming DISABLED otherwise. -/
def Claims.LabelDoneIsHandedOver : Prop :=
  ∀ (l : Fin 8) (s : State),
    (s.lanes[l].bundle = none → handLabelDone l s = s) ∧
    ∀ b, s.lanes[l].bundle = some b →
      (b.cleared = false → handLabelDone l s =
        { s with lanes := s.lanes.set l { s.lanes[l] with bundle := some { b with labelDone := true } } }) ∧
      (b.cleared = true → s.lanes[l].enabled = false → handLabelDone l s =
        { s with lanes := s.lanes.set l { s.lanes[l] with bundle := none, state := .disabled } }) ∧
      (b.cleared = true → s.lanes[l].enabled = true → handLabelDone l s =
        openBundle l { s with lanes := s.lanes.set l { s.lanes[l] with bundle := none } })

/-- The life of a bundle: R128, R138, R139, R143 to R146. -/
def Obligations.BundlesOpenCloseAndRetire : Prop :=
  Claims.FreshBundle ∧ Claims.ClosingSteps ∧ Claims.BundleCommands ∧ Claims.DropWatch ∧ Claims.LabelDoneIsHandedOver

/-- R125: SET_LANE: its checks in order, its clamping, the ten fields and BIN_COUNT. -/
def Claims.SetLane : Prop :=
  ∀ (x : Xfer) (lane kind drop grade : Byte) (minK maxK : BitVec 16) (alternate : Byte) (target : BitVec 16)
    (maxStrips : Byte) (shortMm : BitVec 16) (mixPct : Byte) (s : State), s.Listens →
    let c := Instr.setLane x lane kind drop grade minK maxK alternate target maxStrips shortMm mixPct
    let args := lane :: kind :: drop :: grade ::
      (be16 minK ++ be16 maxK ++ [alternate] ++ be16 target ++ [maxStrips] ++ be16 shortMm ++ [mixPct])
    (8 ≤ lane.toNat ∨ 4 ≤ kind.toNat ∨ (alternate ≠ 255 ∧ (8 ≤ alternate.toNat ∨ alternate = lane)) →
      exec c s = .next (s.answered x 0x16 args .badArgument [])) ∧
    ∀ (l : Fin 8) (k : LaneKind) (alt : Option (Fin 8)), lane.toNat = l.val → laneKinds[kind.toNat]? = some k →
      (alternate = 255 ∧ alt = none ∨ ∃ m : Fin 8, alternate.toNat = m.val ∧ m ≠ l ∧ alt = some m) →
      let low := getPar s .sawOffset + 1
      let d := if drop.toNat < low then low else min drop.toNat 38
      let lo := min minK.toNat 4000
      let hi := max lo (min maxK.toNat 4000)
      let g := max 1 (min grade.toNat 6)
      let same := d = drop.toNat ∧ lo = minK.toNat ∧ hi = maxK.toNat ∧ g = grade.toNat ∧ 100 ≤ target.toNat ∧
        1 ≤ maxStrips.toNat ∧ shortMm.toNat ≤ 4000 ∧ mixPct.toNat ≤ 100
      let written : Lane := { s.lanes[l] with
        kind := k, dropOffset := d, grade := Fin.ofNat 6 (g - 1), minK := lo, maxK := hi, alternate := alt,
        target := max 100 target.toNat, maxStrips := max 1 maxStrips.toNat, shortMm := min shortMm.toNat 4000,
        mixPct := min mixPct.toNat 100, binCount := 0 }
      (s.lanes[l].state ≠ .disabled ∨ d ≠ s.lanes[l].dropOffset ∧ s.line ≠ .stopped →
        exec c s = .next (s.answered x 0x16 args .wrongState [])) ∧
      (s.lanes[l].state = .disabled → (d = s.lanes[l].dropOffset ∨ s.line = .stopped) →
        exec c s = .next (State.answered x 0x16 args (if same then .ok else .okClamped) []
          { s with lanes := s.lanes.set l written }))

/-- R126, R127: LANE_ENABLE, by the lane as it stands. -/
def Claims.LaneEnable : Prop :=
  ∀ (x : Xfer) (lane value : Byte) (s : State), s.Listens →
    let c := Instr.laneEnable x lane value
    let args := [lane, value]
    (8 ≤ lane.toNat ∨ 2 ≤ value.toNat → exec c s = .next (s.answered x 0x42 args .badArgument [])) ∧
    ∀ l : Fin 8, lane.toNat = l.val →
      let r := s.lanes[l]
      let put (q : Lane) : State := { s with lanes := s.lanes.set l q }
      (value = 0 →
        (r.kind = .unused → exec c s = .next (s.answered x 0x42 args .wrongState [])) ∧
        (r.kind = .bundle → r.state = .disabled →
          exec c s = .next ((openBundle l (put { r with enabled := true })).answered x 0x42 args .ok [])) ∧
        (r.kind = .holdBin ∨ r.kind = .rejectBin → r.state = .disabled →
          exec c s = .next ((put { r with enabled := true, state := .opened }).answered x 0x42 args .ok [])) ∧
        (r.kind ≠ .unused → r.state ≠ .disabled →
          exec c s = .next ((put { r with enabled := true }).answered x 0x42 args .ok []))) ∧
      (value = 1 →
        (r.state ≠ .opened → exec c s = .next ((put { r with enabled := false }).answered x 0x42 args .ok [])) ∧
        (r.state = .opened → (∀ b, r.bundle = some b → b.count = 0) → exec c s = .next
          ((put { r with enabled := false, state := .disabled, bundle := none }).answered x 0x42 args .ok [])) ∧
        ∀ b, r.state = .opened → r.bundle = some b → b.count ≠ 0 →
          exec c s = .next ((closeBundle l .forced { s.taken x 0x42 args with
            lanes := s.lanes.set l { r with enabled := false } }).responds x 0x42 .ok []))

/-- R125 to R127. -/
def Obligations.LanesAreSetAndEnabled : Prop := Claims.SetLane ∧ Claims.LaneEnable

/-! ### Labels and the Dispatch Port (08) -/

/-- R155: what the printer makes of the compressed entries is the characters they were made from, the entries are no more
than the characters, and every RUN command carries 3 to 32. -/
def Claims.RunCompressor : Prop :=
  ∀ chars : List Byte, expandRuns (compress chars) = chars ∧ (compress chars).length ≤ chars.length ∧
    ∀ e ∈ compress chars, e.command = true → 0x43 ≤ e.byte.toNat ∧ e.byte.toNat ≤ 0x60

/-- R154: a label of 1 to 16 pairs makes a stream of at most 169 entries, from START_LABEL to END_LABEL. -/
def Claims.StreamLength : Prop :=
  ∀ (b : Label) (doubtful : Bool), b.lengths.length ≤ 16 →
    (streamOf b doubtful).length ≤ 169 ∧ (streamOf b doubtful).head? = some { command := true, byte := 0x01 } ∧
    (streamOf b doubtful).getLast? = some { command := true, byte := 0x02 }

/-- R154, R155. -/
def Obligations.LabelStreams : Prop := Claims.RunCompressor ∧ Claims.StreamLength

/-- R153, R156, R159: in STREAM with CURRENT absent and the FIFO empty, the oldest QUEUED label is taken up, and the FIFO
takes the first 32 entries of its stream; in any other case the composer test does nothing. -/
def Claims.Composer : Prop :=
  ∀ s : State,
    (s.port.mode ≠ .stream ∨ s.composing ≠ none ∨ (∀ b ∈ s.labels, b.state ≠ .queued) → composerTest s = s) ∧
    ∀ older b younger, s.port.mode = .stream → s.composing = none → s.port.fifo = [] → s.port.handshake = .idle →
      s.labels = older ++ b :: younger → b.state = .queued → (∀ q ∈ older, q.state ≠ .queued ∧ q.lane ≠ b.lane) →
      (∀ q ∈ younger, q.lane ≠ b.lane) →
      let u := composerTest s
      u.composing = some b.lane ∧ u.labels = older ++ { b with state := .printing } :: younger ∧
      u.port.fifo = (streamOf b b.doubtful).take 32 ∧ u.composed = min 32 (streamOf b b.doubtful).length ∧
      u.port.handshake = (if s.port.pbusy || s.port.pfault then .readyWait else .strobe) ∧
      u = { s with composing := u.composing, labels := u.labels, composed := u.composed, doubtLatch := u.doubtLatch,
                   port := u.port }

/-- R165, R166: LABEL_RETRY and LABEL_DISCARD, their checks in order and their effects. -/
def Claims.LabelCommands : Prop :=
  ∀ (x : Xfer) (lane : Byte) (s : State), s.Listens →
    (8 ≤ lane.toNat → exec (.labelRetry x lane) s = .next (s.answered x 0x45 [lane] .badArgument []) ∧
      exec (.labelDiscard x lane) s = .next (s.answered x 0x46 [lane] .badArgument [])) ∧
    ∀ l : Fin 8, lane.toNat = l.val →
      (s.labels.find? (fun b => b.lane == l) = none →
        exec (.labelRetry x lane) s = .next (s.answered x 0x45 [lane] .empty []) ∧
        exec (.labelDiscard x lane) s = .next (s.answered x 0x46 [lane] .empty [])) ∧
      ∀ b, s.labels.find? (fun b => b.lane == l) = some b →
        (b.state ≠ .failed → exec (.labelRetry x lane) s = .next (s.answered x 0x45 [lane] .wrongState [])) ∧
        (b.state = .failed → exec (.labelRetry x lane) s = .next ((composerTest { s.taken x 0x45 [lane] with
          labels := s.labels.map (fun q => if q.lane = l then { q with state := .queued, tries := 0 } else q) }).responds
            x 0x45 .ok [])) ∧
        (b.state = .printing → exec (.labelDiscard x lane) s = .next (s.answered x 0x46 [lane] .busy [])) ∧
        (b.state ≠ .printing → exec (.labelDiscard x lane) s = .next ((handLabelDone l
          { s with labels := s.labels.filter (fun q => q.lane != l) }).answered x 0x46 [lane] .ok []))

/-- R167, R168: PORT_MODE by the present mode, and PORT_WRITE with the number of entries accepted. -/
def Claims.PortCommands : Prop :=
  (∀ (x : Xfer) (mode : Byte) (s : State), s.Listens →
    let c := Instr.portMode x mode
    let flushed : Port := { s.port with fifo := [], handshake := .idle, pstb := false, strobeLeft := 0, timer := none,
                                        held := false, ackSeen := false, fallSeen := false }
    let left : State := match s.composing with
      | none => s
      | some l => { s with composing := none, composed := 0, doubtLatch := none,
                           labels := s.labels.map (fun q => if q.lane = l then { q with state := .queued } else q) }
    (3 ≤ mode.toNat → exec c s = .next (s.answered x 0x50 [mode] .badArgument [])) ∧
    ∀ m, portModes[mode.toNat]? = some m →
      (m = s.port.mode → exec c s = .next (s.answered x 0x50 [mode] .ok [])) ∧
      (s.port.mode = .off → m = .stream → exec c s = .next (s.answered x 0x50 [mode] .wrongState [])) ∧
      (s.port.mode = .off → m = .direct →
        exec c s = .next (State.answered x 0x50 [mode] .ok [] { s with port := { s.port with mode := .direct } })) ∧
      (s.port.mode = .direct → m = .off →
        exec c s = .next (State.answered x 0x50 [mode] .ok [] { s with port := { flushed with mode := .off } })) ∧
      (s.port.mode = .direct → m = .stream → s.port.fifo ≠ [] →
        exec c s = .next (s.answered x 0x50 [mode] .busy [])) ∧
      (s.port.mode = .direct → m = .stream → s.port.fifo = [] → exec c s = .next ((composerTest
        { s.taken x 0x50 [mode] with port := { s.port with mode := .stream } }).responds x 0x50 .ok [])) ∧
      (s.port.mode = .stream → m ≠ .stream →
        exec c s = .next (State.answered x 0x50 [mode] .ok [] { left with port := { flushed with mode := m } }))) ∧
  ∀ (x : Xfer) (bytes : List Byte) (s : State), s.Listens → bytes.length % 2 = 0 → bytes.length ≤ 32 →
    let n := BitVec.ofNat 8 (bytes.length / 2)
    let c := Instr.portWrite x n bytes
    (s.port.mode ≠ .direct → exec c s = .next (s.answered x 0x51 (n :: bytes) .wrongState [])) ∧
    (s.port.mode = .direct → entriesOf bytes = none → exec c s = .next (s.answered x 0x51 (n :: bytes) .badArgument [])) ∧
    ∀ es, s.port.mode = .direct → entriesOf bytes = some es →
      let accepted := min es.length (32 - s.port.fifo.length)
      exec c s = .next ((startHandshake { s with
        port := { s.port with fifo := s.port.fifo ++ es.take accepted } }).answered x 0x51 (n :: bytes) .ok
          [BitVec.ofNat 8 accepted])

/-- R153, R156, R165 to R168. -/
def Obligations.LabelsAndPortByCommand : Prop := Claims.Composer ∧ Claims.LabelCommands ∧ Claims.PortCommands

/-- R159: the strobe test of READY_WAIT drives the head entry and starts the strobe and the timer, once PBUSY is low and
PFAULT clear; R161: a byte that completes leaves the FIFO, in DIRECT with FIFO_LOW at the threshold, in STREAM with the
next entry of the stream or the end of the label (R157), and the handshake goes on with the new head. -/
def Claims.Strobes : Prop :=
  (∀ (s : State) (e : Entry) (rest : List Entry), s.port.handshake = .readyWait → s.port.fifo = e :: rest →
    strobeTest s = if s.port.pbusy = true ∨ s.port.pfault = true then s else
      { s with port := { s.port with pd := e.byte, ptag := e.command, pstb := true, ackSeen := false, fallSeen := false,
                                     timer := some (getPar s .handshakeMs), handshake := .strobe,
                                     strobeLeft := getPar s .strobeUs } }) ∧
  ∀ (s : State) (e : Entry) (rest : List Entry), s.port.fifo = e :: rest →
    let u := { s with port := { s.port with timer := none, held := false, fifo := rest, handshake := .idle } }
    (s.port.mode = .direct → completeByte s =
      startHandshake (if rest.length = getPar s .fifoThreshold then raise .fifoLow u else u)) ∧
    ∀ l, s.port.mode = .stream → s.composing = some l →
      (e ≠ { command := true, byte := 0x02 } → completeByte s = startHandshake (fillOne u)) ∧
      (e = { command := true, byte := 0x02 } → completeByte s = startHandshake (composerTest (handLabelDone l
        { u with labels := s.labels.filter (fun q => q.lane != l), composing := none, composed := 0,
                 doubtLatch := none })))

/-- R160: the table of PBUSY and of the end of the strobe. A level PBUSY already has is no change, and a strobe with time
left does not end (log 2). -/
def Claims.Handshake : Prop :=
  ∀ s : State, s.resetHeld = false →
    (∀ high, s.port.pbusy = high → exec (.pbusyChange high) s = .next s) ∧
    (∀ high, s.port.pbusy = !high →
      let u := { s with port := { s.port with pbusy := high } }
      exec (.pbusyChange high) s = .next (match s.port.handshake, high with
        | .strobe, true => { u with port := { u.port with ackSeen := true } }
        | .strobe, false => { u with port := { u.port with fallSeen := s.port.fallSeen || s.port.ackSeen } }
        | .ackWait, true => { u with port := { u.port with ackSeen := true, handshake := .doneWait } }
        | .doneWait, false => completeByte u
        | .readyWait, _ => strobeTest u
        | _, _ => u)) ∧
    (s.port.handshake = .strobe → s.port.strobeLeft = 0 →
      let u := { s with port := { s.port with pstb := false } }
      exec .strobeEnd s = .next (if s.port.fallSeen then completeByte u
        else { u with port := { u.port with handshake := if s.port.ackSeen then .doneWait else .ackWait } })) ∧
    (s.port.handshake ≠ .strobe ∨ s.port.strobeLeft ≠ 0 → exec .strobeEnd s = .next s)

/-- R162, R163, R164: PFAULT stops a running timer (STOPPED, its remaining ms not kept: log 35) and raises PRINTER_FAULT,
and its clearing starts the timer again in full; a timeout flushes the FIFO and raises PORT_TIMEOUT, and in STREAM gives
the label's try back or fails it. A change to the level that stands, and a timeout that is not due, change nothing (log
2). -/
def Claims.FaultsAndTimeouts : Prop :=
  ∀ s : State, s.resetHeld = false →
    (∀ level, s.port.pfault = level → exec (.pfaultChange level) s = .next s) ∧
    (s.port.pfault = false →
      let u := { s with port := { s.port with pfault := true } }
      exec (.pfaultChange true) s = .next (raise .printerFault (if s.port.timer = none then u
        else { u with port := { u.port with timer := none, held := true } }))) ∧
    (s.port.pfault = true →
      let u := { s with port := { s.port with pfault := false } }
      exec (.pfaultChange false) s = .next (strobeTest (if s.port.held = false then u
        else { u with port := { u.port with timer := some (getPar s .handshakeMs), held := false } }))) ∧
    (s.port.timer ≠ some 0 → exec .handshakeTimeout s = .next s) ∧
    (s.port.timer = some 0 →
      let u := raise .portTimeout { s with port := { s.port with
        fifo := [], handshake := .idle, pstb := false, strobeLeft := 0, timer := none, held := false, ackSeen := false,
        fallSeen := false } }
      let idle := { u with composing := none, composed := 0, doubtLatch := none }
      (s.port.mode ≠ .stream → exec .handshakeTimeout s = .next u) ∧
      ∀ l b, s.port.mode = .stream → s.composing = some l → s.labels.find? (fun q => q.lane == l) = some b →
        let back (f : Label → Label) : List Label := s.labels.map (fun q => if q.lane = l then f q else q)
        exec .handshakeTimeout s = .next (composerTest
          (if b.tries < getPar s .labelRetries then
            { idle with labels := back (fun q => { q with tries := q.tries + 1, state := .queued }) }
           else raise .labelFailed { idle with labels := back (fun q => { q with state := .failed }) })))

/-- R159 to R164. -/
def Obligations.TheByteHandshake : Prop := Claims.Strobes ∧ Claims.Handshake ∧ Claims.FaultsAndTimeouts

/-! ### The Station Link (09) -/

/-- R175, R173: a poll goes to the first station in service after POLL_POINTER, with the answer it is owed; LDIR is asserted
and LTX carries the POLL while it is sent, and the window opens at its end, unless the poll was abandoned (R184). -/
def Claims.PollsAreSentInTurn : Prop :=
  (∀ s : State, s.transaction = .idle → s.pollPointer ≤ 4 →
    ((∀ a : Fin 4, s.stations[a].state = .disabled) → beginPoll s = s) ∧
    ∀ a : Fin 4, s.stations[a].state ≠ .disabled →
      (∀ b : Fin 4, (b.val + 4 - s.pollPointer % 4) % 4 < (a.val + 4 - s.pollPointer % 4) % 4 →
        s.stations[b].state = .disabled) →
      beginPoll s = { s with
        pollPointer := a.val + 1,
        transaction := .sending a (getPar s .linkBaud) (pollFrame a s.stations[a].pendingAnswer)
          s.stations[a].pendingAnswer.isSome false }) ∧
  (∀ s : State, s.transaction ≠ .idle → beginPoll s = s) ∧
  ∀ s : State, s.resetHeld = false →
    (∀ a baud frame carried, s.transaction = .sending a baud frame carried false → exec .pollSent s = .next
      { s with transaction := .waiting a carried [], replyTimer := some (getPar s .linkReplyMs) }) ∧
    (∀ a baud frame carried, s.transaction = .sending a baud frame carried true →
      exec .pollSent s = .next (beginPoll { s with transaction := .idle })) ∧
    (∀ a baud frame carried abandoned, s.transaction = .sending a baud frame carried abandoned →
      ldir s = true ∧ ltx s = .sending baud (frame.flatMap (fun b => false ::
        [b.getLsbD 0, b.getLsbD 1, b.getLsbD 2, b.getLsbD 3, b.getLsbD 4, b.getLsbD 5, b.getLsbD 6, b.getLsbD 7, true]))) ∧
    ((∀ a baud frame carried abandoned, s.transaction ≠ .sending a baud frame carried abandoned) →
      ldir s = false ∧ ltx s = .idle ∧ exec .pollSent s = .next s)

/-- R176, R173: the characters of a reply are collected in the window; a good IDLE reply ends it at its last byte; until
then, and once the reply is bad, nothing but the characters collected changes; outside a window they are discarded. -/
def Claims.RepliesAreReceived : Prop :=
  (∀ (s : State) (a : Fin 4) (carried : Bool) (arrival : Arrival), s.Hears a carried arrival →
    exec (.idleReply arrival) s = .next (beginPoll (s.heard a carried))) ∧
  ∀ (s : State) (arrival : Arrival) (cs : List Character), s.resetHeld = false → arrival.wire = some cs →
    ((∀ a carried got, s.transaction ≠ .waiting a carried got) → exec (.idleReply arrival) s = .next s) ∧
    ∀ (a : Fin 4) (carried : Bool) (got : List Character), s.transaction = .waiting a carried got →
      (readReply a got ≠ .incomplete → exec (.idleReply arrival) s = .next s) ∧
      (readReply a got = .incomplete →
        (readReply a (got ++ cs) = .good .idle → exec (.idleReply arrival) s = .next (beginPoll (s.heard a carried))) ∧
        ((∀ body, readReply a (got ++ cs) ≠ .good body) →
          exec (.idleReply arrival) s = .next { s with transaction := .waiting a carried (got ++ cs) }))

/-- R177: a window that ends without a good reply is a miss: MISSES saturates at 15, an ONLINE station at the limit goes
OFFLINE with STATION_OFFLINE, the answer it is owed stays, and the next poll is begun; before its end nothing ends it. -/
def Claims.MissesEndTheWindow : Prop :=
  ∀ s : State, s.resetHeld = false →
    (s.replyTimer ≠ some 0 → exec .replyTimerExpiry s = .next s) ∧
    ∀ a carried received, s.transaction = .waiting a carried received → s.replyTimer = some 0 →
      let t := s.stations[a]
      let n := min 15 (t.misses + 1)
      let offline := t.state = .online ∧ getPar s .linkMissLimit ≤ n
      let u := { s with transaction := .idle, replyTimer := none, stations := s.stations.set a
                          { t with misses := n, state := if offline then .offline else t.state } }
      exec .replyTimerExpiry s = .next (beginPoll (if offline then raise .stationOffline u else u))

/-- R173, R175 to R177. -/
def Obligations.StationsArePolledInTurn : Prop :=
  Claims.PollsAreSentInTurn ∧ Claims.RepliesAreReceived ∧ Claims.MissesEndTheWindow

/-- R178, R176: a request in a good reply: a repeat is answered with the last answer, a kind the role does not permit with
NOT_PERMITTED, an unknown kind with UNKNOWN; any other is executed, and its answer is owed. -/
def Claims.RequestsAreHandled : Prop :=
  ∀ (s : State) (a : Fin 4) (carried : Bool) (reply : Reply), s.Hears a carried reply.toArrival →
    let h := s.heard a carried
    let repeated : State := { h with stations := h.stations.set a
                                       { h.stations[a] with pendingAnswer := h.stations[a].lastAnswer } }
    let role := s.stations[a].role
    let answer (kind : Byte) (result : Result) (data : List Byte) : Answer :=
      { kind := kind, reqId := reply.reqId, result := result, data := data }
    (∀ (ticket : BitVec 16) (value lane : Byte) (args : List Byte), args.length ≤ 148 →
      ∀ q ∈ ([(.queryAt reply, 1, [.scanner, .grader], queryAt a h),
              (.queryTicket reply ticket, 2, [.scanner, .grader, .stacker], queryTicket ticket.toNat h),
              (.scanReport reply args, 3, [.scanner], scanReport args a h),
              (.gradeOverride reply ticket value, 4, [.grader], gradeOverride ticket.toNat value h),
              (.dropSeen reply lane, 5, [.stacker], dropSeen lane h),
              (.bundleCleared reply lane, 6, [.stacker], bundleCleared lane h)] :
              List (Instr × Byte × List Role × Executed)),
        (s.stations[a].lastReqId = some reply.reqId → exec q.1 s = .next (beginPoll repeated)) ∧
        (s.stations[a].lastReqId ≠ some reply.reqId → role ∉ q.2.2.1 →
          exec q.1 s = .next (beginPoll (h.owes a (answer q.2.1 .notPermitted [])))) ∧
        (s.stations[a].lastReqId ≠ some reply.reqId → role ∈ q.2.2.1 →
          exec q.1 s = .next (beginPoll (q.2.2.2.1.owes a (answer q.2.1 q.2.2.2.2.1 q.2.2.2.2.2))))) ∧
    ∀ (kind : Byte) (args : List Byte), args.length ≤ 148 → kind = 0 ∨ 6 < kind.toNat →
      exec (.unknownRequest reply kind args) s = .next (beginPoll
        (if s.stations[a].lastReqId = some reply.reqId then repeated else h.owes a (answer kind .unknown [])))

/-- R179, R180, R63, R142, R144: what the requests execute, and their results. -/
def Claims.RequestResults : Prop :=
  ∀ (a : Fin 4) (s : State),
    queryAt a s = (match lookup s s.stations[a].stationPos with
      | some r => (s, .found, lookupData s r)
      | none => (s, .none, [])) ∧
    (∀ t, queryTicket t s = match findStrip t s with
      | some r => (s, .found, ticketData s r)
      | none => (s, .notFound, [])) ∧
    (∀ t value, (manualGradeOf value = none → gradeOverride t value s = (s, .badValue, [])) ∧
      (manualGradeOf value ≠ none → findStrip t s = none → gradeOverride t value s = (s, .notFound, [])) ∧
      ∀ v r, manualGradeOf value = some v → findStrip t s = some r →
        gradeOverride t value s = (storeManual t v s, .taken, [])) ∧
    ∀ lane : Byte,
      (8 ≤ lane.toNat → dropSeen lane s = (s, .badValue, []) ∧ bundleCleared lane s = (s, .badValue, [])) ∧
      ∀ l : Fin 8, lane.toNat = l.val →
        (s.lanes[l].watch = [] → dropSeen lane s = (raise .extraDrop s, .extra, [])) ∧
        (∀ w rest, s.lanes[l].watch = w :: rest → dropSeen lane s =
          ({ s with lanes := s.lanes.set l { s.lanes[l] with watch := rest } }, .taken, [])) ∧
        (s.lanes[l].state ≠ .closed → bundleCleared lane s = (s, .wrongState, [])) ∧
        ∀ b, s.lanes[l].state = .closed → s.lanes[l].bundle = some b →
          (bundleCleared lane s).2 = (.taken, []) ∧
          (b.labelDone = false → (bundleCleared lane s).1 =
            { s with lanes := s.lanes.set l { s.lanes[l] with bundle := some { b with cleared := true } } }) ∧
          (b.labelDone = true → s.lanes[l].enabled = false → (bundleCleared lane s).1 =
            { s with lanes := s.lanes.set l { s.lanes[l] with bundle := none, state := .disabled } }) ∧
          (b.labelDone = true → s.lanes[l].enabled = true → (bundleCleared lane s).1 =
            openBundle l { s with lanes := s.lanes.set l { s.lanes[l] with bundle := none } })

/-- R178 to R182. -/
def Obligations.StationRequests : Prop := Claims.RequestsAreHandled ∧ Claims.RequestResults

/-- R174, R183, R184, R45, R75: SET_STATION and STATION_ENABLE: checks, clamping, service and withdrawal: a PENDING record
whose report came from the station loses its report and its place in the plan queue, and takes the default plan when it
is WAITING. -/
def Obligations.StationCommands : Prop :=
  (∀ (x : Xfer) (address role : Byte) (pos : BitVec 16) (s : State), s.Listens →
    let c := Instr.setStation x address role pos
    let args := address :: role :: be16 pos
    (address = 0 ∨ 4 < address.toNat ∨ 3 ≤ role.toNat → exec c s = .next (s.answered x 0x1A args .badArgument [])) ∧
    ∀ (a : Fin 4) (r : Role), address.toNat = a.val + 1 → roles[role.toNat]? = some r →
      (s.stations[a].state ≠ .disabled → exec c s = .next (s.answered x 0x1A args .wrongState [])) ∧
      (s.stations[a].state = .disabled →
        exec c s = .next (State.answered x 0x1A args (if 3000 < pos.toNat then .okClamped else .ok) []
          { s with stations := s.stations.set a { s.stations[a] with role := r, stationPos := min 3000 pos.toNat } }))) ∧
  ∀ (x : Xfer) (address value : Byte) (s : State), s.Listens →
    let c := Instr.stationEnable x address value
    let args := [address, value]
    (address = 0 ∨ 4 < address.toNat ∨ 2 ≤ value.toNat → exec c s = .next (s.answered x 0x72 args .badArgument [])) ∧
    ∀ a : Fin 4, address.toNat = a.val + 1 →
      (value = 0 → s.stations[a].state ≠ .disabled → exec c s = .next (s.answered x 0x72 args .ok [])) ∧
      (value = 0 → s.stations[a].state = .disabled →
        let t : Station := { s.stations[a] with
          state := .online, misses := 0, pendingAnswer := none, lastReqId := none, lastAnswer := none }
        exec c s = .next ((beginPoll { s with stations := s.stations.set a t }).answered x 0x72 args .ok [])) ∧
      (value = 1 → s.stations[a].state = .disabled → exec c s = .next (s.answered x 0x72 args .ok [])) ∧
      (value = 1 → s.stations[a].state ≠ .disabled → ∃ u v : State,
        exec c s = .next ((releaseTest v).responds x 0x72 .ok []) ∧
        u = { s.taken x 0x72 args with
              stations := s.stations.set a { s.stations[a] with state := .disabled, pendingAnswer := none } } ∧
        v = { (match s.transaction with
              | .sending b baud frame carried _ => if b = a then
                  { u with transaction := .sending b baud frame carried true } else u
              | .waiting b _ _ => if b = a then beginPoll { u with transaction := .idle, replyTimer := none } else u
              | .idle => u) with
              strips := v.strips, planQueue := v.planQueue } ∧
        (∀ r ∈ v.strips, r.plan = .pending → r.reportFrom ≠ some a) ∧
        v.planQueue = s.planQueue.filter (fun n =>
          s.strips.all (fun r => !(r.ticket == n && r.plan == .pending && r.reportFrom == some a))) ∧
        (∀ n r, findStrip n s = some r → r.plan = .pending → r.reportFrom = some a →
          let bare : Strip := { r with thickness := none, defects := none, reportFrom := none, plan := .none }
          findStrip n v = some (if r.stage = .waiting then writePlan .default
            (defaultPlan s.sawMap (getPar s .fenceTrim) (getPar s .farMargin) (getPar s .minKept) r.length r.manualGrade)
            bare else bare)) ∧
        ∀ n, (∀ r ∈ s.strips, r.ticket = n → ¬ (r.plan = .pending ∧ r.reportFrom = some a)) →
          findStrip n v = findStrip n s)

/-! ### Invariants -/

/-- Every invariant below holds of the machine right after reset. -/
def Obligations.TheInvariantsHoldAtReset : Prop :=
  State.reset.Bounded ∧ State.reset.InRange ∧ State.reset.OutputsAgree ∧ State.reset.SpeedSound ∧
  State.reset.ToolsSound ∧ State.reset.RingSound ∧ State.reset.WindowSound ∧ State.reset.Accounts ∧
  State.reset.Tracked ∧ State.reset.LabelsSound

/-- R25, R141, R16, R82 and 08 section 8.3, R207, R185: no step takes the infeed queue, the moulder queue, a drop watch list,
the FIFO or the speed history beyond its capacity, nor a parameter out of its range. (The plan queue and the label queue:
the two statements after it.) -/
def Obligations.EveryStepKeepsCapacitiesAndRanges : Prop :=
  ∀ s t : State, step s = .next t → (s.InRange → t.InRange) ∧ (s.InRange → s.Bounded → t.Bounded)

/-- 00 section 2.3, R21 to R25, R46 to R49: every step keeps each live record in the one place of its stage and the plan queue
in agreement with the records; so the Strip Table never holds more than 64 records nor the plan queue more than 16. -/
def Obligations.EveryStepKeepsTheTracking : Prop :=
  (∀ s t : State, s.Tracked → step s = .next t → t.Tracked) ∧
  ∀ s : State, s.Tracked → s.strips.length ≤ 64 ∧ s.planQueue.length ≤ 16

/-- R150, R151, R153, R157: every step keeps the label queue in agreement with the lanes; so it never holds more than 8
labels. -/
def Obligations.EveryStepKeepsTheLabels : Prop :=
  (∀ s t : State, s.LabelsSound → step s = .next t → t.LabelsSound) ∧
  ∀ s : State, s.LabelsSound → s.labels.length ≤ 8

/-- R106, R192: with RESET released, in RUNNING and HOLD a saw or pusher is driven while its STATE is ON and GATE, KICK or
EJECT while it runs, in STOPPED each by its FORCED value, in FAULT_STOP none; LINE_OK is asserted but in FAULT_STOP. -/
def Claims.DrivenLevels : Prop :=
  ∀ s : State, s.resetHeld = false →
    (s.line = .running ∨ s.line = .hold →
      (∀ o : Fin 24, outLevel s o = true ↔ s.outs[o].state = .on) ∧
      ∀ p : TimePulse, pulseLevel s p = s.pulses[pulseIdx p].on) ∧
    (s.line = .stopped →
      (∀ o : Fin 24, outLevel s o = s.outs[o].forced) ∧ ∀ p : TimePulse, pulseLevel s p = s.pulses[pulseIdx p].forced) ∧
    (s.line = .faultStop → (∀ o : Fin 24, outLevel s o = false) ∧ ∀ p : TimePulse, pulseLevel s p = false) ∧
    (lineOk s = true ↔ s.line ≠ .faultStop)

/-- R106 and the sentence of R106 on R117, R118 and R122: in every state a step reaches, no output is ARMED or ON and no time
pulse runs in STOPPED or FAULT_STOP, and no FORCED value is ON but in STOPPED; and every output is driven by the line
state. -/
def Obligations.EveryStepKeepsOutputsWithTheLine : Prop :=
  (∀ s t : State, s.OutputsAgree → step s = .next t → t.OutputsAgree) ∧ Claims.DrivenLevels

/-- R86, R96 and 05 section 5.1: every step keeps the lug at offset 39 empty, SAW_DONE clear on every empty lug, and WINDOW
0 while HOLDING is empty. -/
def Obligations.EveryStepKeepsTheRing : Prop :=
  ∀ s t : State, step s = .next t → (s.RingSound → t.RingSound) ∧ (s.WindowSound → t.WindowSound)

/-- R66 and 04 section 4.1, R16, R17: every step keeps at most one tool set mounted, with the wear class of its USED, and
SPEED 0 on a short history and in reverse. -/
def Obligations.EveryStepKeepsToolsAndSpeed : Prop :=
  ∀ s t : State, step s = .next t → (s.ToolsSound → t.ToolsSound) ∧ (s.SpeedSound → t.SpeedSound)

/-- R136: in every bundle COUNT is the sum of the HISTOGRAM and SHORT_MM2 × 100 ≤ MIX_COPY × COVERAGE_MM2, and every GRADED
record holds a SAW (R131), in every state a step reaches. -/
def Obligations.EveryStepKeepsTheAccounts : Prop :=
  ∀ s t : State, s.Accounts → step s = .next t → t.Accounts
end

