-- ==== Sys2Proof/Laws/Commands.lean ====
section
/-! SUPPORT. What the transaction of a host command does, said once: a command the port listens to runs on the state its
transaction leaves, and its answer is put in PENDING (R201, R202). -/

namespace Sys2Proof.Machine

open Sys2Proof

/-- A frame reaches RX whole: its LENGTH counts the bytes after it, and at most 33 of them are arguments (R201, R210). -/
theorem rxOf_commandFrame (seq code : Byte) (args : List Byte) (h : args.length ≤ Config.maxArgs) :
    rxOf (commandFrame seq code args) = commandFrame seq code args := by
  have h33 : args.length ≤ 33 := h
  have hl : (BitVec.ofNat 8 (args.length + 3)).toNat = args.length + 3 := by
    rw [BitVec.toNat_ofNat]; omega
  simp only [commandFrame, List.cons_append, rxOf, hl]
  apply List.take_of_length_le
  simp only [List.length_cons, List.length_append, List.length_nil]
  omega

/-- The transaction of a frame whose argument bytes agree with its command (R201, R202). -/
theorem hostFrame_listens (x : Xfer) (code : Byte) (args : List Byte) (body : State → State) (s : State)
    (hs : s.Listens) (hl : args.length ≤ Config.maxArgs) (ha : argsAgree code args = true) :
    hostFrame x code args body s = .next (body (s.taken x code args)) := by
  have ht : takesFrame s = true := by simp [takesFrame, hs.1, hs.2]
  have hn : ¬ Config.maxArgs < args.length := by omega
  simp [hostFrame, ht, hn, ha, afterTransfer, endTransfer, State.taken, State.ended, rxOf_commandFrame x.seq code args hl]

/-- The transaction of a command: it runs on the state its transaction leaves, and is answered (R202). -/
theorem hostCommand_listens (x : Xfer) (code : Byte) (args : List Byte) (run : State → Answered) (s : State)
    (hs : s.Listens) (hl : args.length ≤ Config.maxArgs) (ha : argsAgree code args = true) :
    hostCommand x code args run s =
      .next ((run (s.taken x code args)).1.responds x code (run (s.taken x code args)).2.1
        (run (s.taken x code args)).2.2) := by
  rw [hostCommand, hostFrame_listens x code args _ s hs hl ha]
  rfl

/-- A command refused leaves everything but the Command Port as it was (R202, R211). -/
theorem taken_responds (x : Xfer) (code : Byte) (args : List Byte) (status : Status) (payload : List Byte) (s : State) :
    (s.taken x code args).responds x code status payload = s.answered x code args status payload := rfl

/-! ### Operands in and out of range (R210) -/

theorem finOf_ge {n : Nat} {b : Byte} (h : n ≤ b.toNat) : finOf n b = none := by
  simp only [finOf]; rw [dif_neg (by omega)]

theorem finOf_eq {n : Nat} {b : Byte} {i : Fin n} (h : b.toNat = i.val) : finOf n b = some i := by
  have := i.isLt
  simp only [finOf]; rw [dif_pos (by omega)]; congr 1; exact Fin.ext h

theorem finFrom1_eq {n : Nat} {b : Byte} {i : Fin n} (h : b.toNat = i.val + 1) : finFrom1 n b = some i := by
  have hb : b ≠ 0 := by rintro rfl; simp at h
  rw [finFrom1, if_neg hb]
  apply finOf_eq
  rw [BitVec.toNat_sub]; simp; omega

theorem finFrom1_bad {n : Nat} {b : Byte} (h : b = 0 ∨ n < b.toNat) : finFrom1 n b = none := by
  unfold finFrom1
  split
  · rfl
  · rename_i hb
    have hb' : b.toNat ≠ 0 := fun h0 => hb (BitVec.eq_of_toNat_eq (by simpa using h0))
    apply finOf_ge
    rw [BitVec.toNat_sub]; simp
    rcases h with h | h
    · exact absurd h hb
    · omega

theorem enumOf_bad {α : Type} {values : List α} {b : Byte} (h : values.length ≤ b.toNat) : enumOf values b = none :=
  List.getElem?_eq_none h

theorem paramOf_bad {b : Byte} (h : b = 0 ∨ 33 < b.toNat) : paramOf b = none := by
  unfold paramOf
  split
  · rfl
  · rcases h with h | h
    · contradiction
    · apply List.getElem?_eq_none; simp [paramList]; omega

theorem paramCode_of {b : Byte} {p : Param} (h : paramOf b = some p) : BitVec.ofNat 8 (paramCode p) = b := by
  revert h; revert p; revert b; decide

end Sys2Proof.Machine
end

