-- ==== Sys2Proof/Laws/Tables.lean ====
section
/-! SUPPORT. The small lemmas of the tables: an entry after a change of one entry or of every entry, the list of indices,
the order of simultaneous pieces. -/

namespace Sys2Proof

@[simp] theorem modifyAt_same {α : Type} {n : Nat} (v : Vector α n) (i : Fin n) (f : α → α) :
    (modifyAt v i f)[i.val] = f v[i.val] := by
  simp [modifyAt]

theorem modifyAt_other {α : Type} {n : Nat} (v : Vector α n) (i j : Fin n) (f : α → α) (h : j ≠ i) :
    (modifyAt v i f)[j] = v[j] := by
  have : i.val ≠ j.val := fun e => h (Fin.ext e.symm)
  simp [modifyAt, this]

theorem modifyAt_get {α : Type} {n : Nat} (v : Vector α n) (i j : Fin n) (f : α → α) :
    (modifyAt v i f)[j] = if j = i then f v[j] else v[j] := by
  by_cases h : j = i
  · subst h; simp
  · simp [modifyAt_other v i j f h, h]

@[simp] theorem mapTable_get {α β : Type} {n : Nat} (v : Vector α n) (f : α → β) (i : Fin n) :
    (mapTable f v)[i.val] = f v[i.val] := by
  simp [mapTable]

@[simp] theorem mem_indices {n : Nat} (i : Fin n) : i ∈ indices n := by
  induction n with
  | zero => exact i.elim0
  | succ n ih =>
    refine Fin.lastCases ?_ (fun j => ?_) i
    · simp [indices]
    · simp [indices, ih]

theorem indices_nodup (n : Nat) : (indices n).Nodup := by
  induction n with
  | zero => simp [indices]
  | succ n ih =>
    simp only [indices]
    refine List.Nodup.append (ih.map (Fin.castSucc_injective n)) (by simp) ?_
    intro a ha hb
    simp only [List.mem_map] at ha
    simp only [List.mem_singleton] at hb
    obtain ⟨b, _, rfl⟩ := ha
    exact absurd (congrArg Fin.val hb) (by simp [Fin.last]; omega)

/-- Every piece is in the order. -/
@[simp] theorem mem_fullOrder {n : Nat} (given : List (Fin n)) (i : Fin n) : i ∈ fullOrder n given := by
  by_cases h : i ∈ given <;> simp [fullOrder, h]

theorem eraseDups_nodup {α : Type} [DecidableEq α] (xs : List α) : xs.eraseDups.Nodup := by
  induction h : xs.length using Nat.strong_induction_on generalizing xs with
  | _ n ih =>
    cases xs with
    | nil => simp
    | cons a as =>
      rw [List.eraseDups_cons, List.nodup_cons]
      refine ⟨by simp, ih _ ?_ _ rfl⟩
      have := List.length_filter_le (fun b => !b == a) as
      simp only [List.length_cons] at h
      omega

/-- No piece is in the order twice. -/
theorem fullOrder_nodup {n : Nat} (given : List (Fin n)) : (fullOrder n given).Nodup := by
  unfold fullOrder
  refine List.Nodup.append (eraseDups_nodup given) ((indices_nodup n).filter _) ?_
  intro a ha hb
  simp at ha hb
  exact hb ha

end Sys2Proof
end

