-- ==== Sys2Proof/Laws/State.lean ====
section
/-! SUPPORT. For each named update of the state, one lemma for each field it leaves as it is. -/

namespace Sys2Proof.Machine

open Sys2Proof

set_option Elab.async false

variable (s : State)

section putPar
variable (p : Param) (v : Nat)
@[simp] theorem putPar_ms : (putPar p v s).ms = s.ms := rfl
@[simp] theorem putPar_us : (putPar p v s).us = s.us := rfl
@[simp] theorem putPar_usPhase : (putPar p v s).usPhase = s.usPhase := rfl
@[simp] theorem putPar_resetHeld : (putPar p v s).resetHeld = s.resetHeld := rfl
@[simp] theorem putPar_channels : (putPar p v s).channels = s.channels := rfl
@[simp] theorem putPar_inf : (putPar p v s).inf = s.inf := rfl
@[simp] theorem putPar_ch : (putPar p v s).ch = s.ch := rfl
@[simp] theorem putPar_history : (putPar p v s).history = s.history := rfl
@[simp] theorem putPar_speed : (putPar p v s).speed = s.speed := rfl
@[simp] theorem putPar_stall : (putPar p v s).stall = s.stall := rfl
@[simp] theorem putPar_strips : (putPar p v s).strips = s.strips := rfl
@[simp] theorem putPar_nextTicket : (putPar p v s).nextTicket = s.nextTicket := rfl
@[simp] theorem putPar_lot : (putPar p v s).lot = s.lot := rfl
@[simp] theorem putPar_species : (putPar p v s).species = s.species := rfl
@[simp] theorem putPar_infeed : (putPar p v s).infeed = s.infeed := rfl
@[simp] theorem putPar_permitOpen : (putPar p v s).permitOpen = s.permitOpen := rfl
@[simp] theorem putPar_planQueue : (putPar p v s).planQueue = s.planQueue := rfl
@[simp] theorem putPar_engine : (putPar p v s).engine = s.engine := rfl
@[simp] theorem putPar_grades : (putPar p v s).grades = s.grades := rfl
@[simp] theorem putPar_weights : (putPar p v s).weights = s.weights := rfl
@[simp] theorem putPar_sawMap : (putPar p v s).sawMap = s.sawMap := rfl
@[simp] theorem putPar_tools : (putPar p v s).tools = s.tools := rfl
@[simp] theorem putPar_pendingChange : (putPar p v s).pendingChange = s.pendingChange := rfl
@[simp] theorem putPar_moulder : (putPar p v s).moulder = s.moulder := rfl
@[simp] theorem putPar_gapTimer : (putPar p v s).gapTimer = s.gapTimer := rfl
@[simp] theorem putPar_mismatch : (putPar p v s).mismatch = s.mismatch := rfl
@[simp] theorem putPar_head : (putPar p v s).head = s.head := rfl
@[simp] theorem putPar_lugs : (putPar p v s).lugs = s.lugs := rfl
@[simp] theorem putPar_holding : (putPar p v s).holding = s.holding := rfl
@[simp] theorem putPar_window : (putPar p v s).window = s.window := rfl
@[simp] theorem putPar_pitchRef : (putPar p v s).pitchRef = s.pitchRef := rfl
@[simp] theorem putPar_lastPitch : (putPar p v s).lastPitch = s.lastPitch := rfl
@[simp] theorem putPar_outs : (putPar p v s).outs = s.outs := rfl
@[simp] theorem putPar_pulses : (putPar p v s).pulses = s.pulses := rfl
@[simp] theorem putPar_lanes : (putPar p v s).lanes = s.lanes := rfl
@[simp] theorem putPar_nextBundle : (putPar p v s).nextBundle = s.nextBundle := rfl
@[simp] theorem putPar_labels : (putPar p v s).labels = s.labels := rfl
@[simp] theorem putPar_composing : (putPar p v s).composing = s.composing := rfl
@[simp] theorem putPar_composed : (putPar p v s).composed = s.composed := rfl
@[simp] theorem putPar_doubtLatch : (putPar p v s).doubtLatch = s.doubtLatch := rfl
@[simp] theorem putPar_port : (putPar p v s).port = s.port := rfl
@[simp] theorem putPar_stations : (putPar p v s).stations = s.stations := rfl
@[simp] theorem putPar_pollPointer : (putPar p v s).pollPointer = s.pollPointer := rfl
@[simp] theorem putPar_transaction : (putPar p v s).transaction = s.transaction := rfl
@[simp] theorem putPar_replyTimer : (putPar p v s).replyTimer = s.replyTimer := rfl
@[simp] theorem putPar_line : (putPar p v s).line = s.line := rfl
@[simp] theorem putPar_lastEscalation : (putPar p v s).lastEscalation = s.lastEscalation := rfl
@[simp] theorem putPar_events : (putPar p v s).events = s.events := rfl
@[simp] theorem putPar_escalation : (putPar p v s).escalation = s.escalation := rfl
@[simp] theorem putPar_cmd : (putPar p v s).cmd = s.cmd := rfl
@[simp] theorem putPar_freeIndex : (putPar p v s).freeIndex = s.freeIndex := rfl
@[simp] theorem putPar_pending : (putPar p v s).pending = s.pending := rfl
end putPar

section updateStrip
variable (t : Nat) (f : Strip → Strip)
@[simp] theorem updateStrip_ms : (updateStrip t f s).ms = s.ms := rfl
@[simp] theorem updateStrip_us : (updateStrip t f s).us = s.us := rfl
@[simp] theorem updateStrip_usPhase : (updateStrip t f s).usPhase = s.usPhase := rfl
@[simp] theorem updateStrip_resetHeld : (updateStrip t f s).resetHeld = s.resetHeld := rfl
@[simp] theorem updateStrip_channels : (updateStrip t f s).channels = s.channels := rfl
@[simp] theorem updateStrip_inf : (updateStrip t f s).inf = s.inf := rfl
@[simp] theorem updateStrip_ch : (updateStrip t f s).ch = s.ch := rfl
@[simp] theorem updateStrip_history : (updateStrip t f s).history = s.history := rfl
@[simp] theorem updateStrip_speed : (updateStrip t f s).speed = s.speed := rfl
@[simp] theorem updateStrip_stall : (updateStrip t f s).stall = s.stall := rfl
@[simp] theorem updateStrip_nextTicket : (updateStrip t f s).nextTicket = s.nextTicket := rfl
@[simp] theorem updateStrip_lot : (updateStrip t f s).lot = s.lot := rfl
@[simp] theorem updateStrip_species : (updateStrip t f s).species = s.species := rfl
@[simp] theorem updateStrip_infeed : (updateStrip t f s).infeed = s.infeed := rfl
@[simp] theorem updateStrip_permitOpen : (updateStrip t f s).permitOpen = s.permitOpen := rfl
@[simp] theorem updateStrip_planQueue : (updateStrip t f s).planQueue = s.planQueue := rfl
@[simp] theorem updateStrip_engine : (updateStrip t f s).engine = s.engine := rfl
@[simp] theorem updateStrip_grades : (updateStrip t f s).grades = s.grades := rfl
@[simp] theorem updateStrip_weights : (updateStrip t f s).weights = s.weights := rfl
@[simp] theorem updateStrip_sawMap : (updateStrip t f s).sawMap = s.sawMap := rfl
@[simp] theorem updateStrip_tools : (updateStrip t f s).tools = s.tools := rfl
@[simp] theorem updateStrip_pendingChange : (updateStrip t f s).pendingChange = s.pendingChange := rfl
@[simp] theorem updateStrip_moulder : (updateStrip t f s).moulder = s.moulder := rfl
@[simp] theorem updateStrip_gapTimer : (updateStrip t f s).gapTimer = s.gapTimer := rfl
@[simp] theorem updateStrip_mismatch : (updateStrip t f s).mismatch = s.mismatch := rfl
@[simp] theorem updateStrip_head : (updateStrip t f s).head = s.head := rfl
@[simp] theorem updateStrip_lugs : (updateStrip t f s).lugs = s.lugs := rfl
@[simp] theorem updateStrip_holding : (updateStrip t f s).holding = s.holding := rfl
@[simp] theorem updateStrip_window : (updateStrip t f s).window = s.window := rfl
@[simp] theorem updateStrip_pitchRef : (updateStrip t f s).pitchRef = s.pitchRef := rfl
@[simp] theorem updateStrip_lastPitch : (updateStrip t f s).lastPitch = s.lastPitch := rfl
@[simp] theorem updateStrip_outs : (updateStrip t f s).outs = s.outs := rfl
@[simp] theorem updateStrip_pulses : (updateStrip t f s).pulses = s.pulses := rfl
@[simp] theorem updateStrip_lanes : (updateStrip t f s).lanes = s.lanes := rfl
@[simp] theorem updateStrip_nextBundle : (updateStrip t f s).nextBundle = s.nextBundle := rfl
@[simp] theorem updateStrip_labels : (updateStrip t f s).labels = s.labels := rfl
@[simp] theorem updateStrip_composing : (updateStrip t f s).composing = s.composing := rfl
@[simp] theorem updateStrip_composed : (updateStrip t f s).composed = s.composed := rfl
@[simp] theorem updateStrip_doubtLatch : (updateStrip t f s).doubtLatch = s.doubtLatch := rfl
@[simp] theorem updateStrip_port : (updateStrip t f s).port = s.port := rfl
@[simp] theorem updateStrip_stations : (updateStrip t f s).stations = s.stations := rfl
@[simp] theorem updateStrip_pollPointer : (updateStrip t f s).pollPointer = s.pollPointer := rfl
@[simp] theorem updateStrip_transaction : (updateStrip t f s).transaction = s.transaction := rfl
@[simp] theorem updateStrip_replyTimer : (updateStrip t f s).replyTimer = s.replyTimer := rfl
@[simp] theorem updateStrip_line : (updateStrip t f s).line = s.line := rfl
@[simp] theorem updateStrip_lastEscalation : (updateStrip t f s).lastEscalation = s.lastEscalation := rfl
@[simp] theorem updateStrip_events : (updateStrip t f s).events = s.events := rfl
@[simp] theorem updateStrip_escalation : (updateStrip t f s).escalation = s.escalation := rfl
@[simp] theorem updateStrip_params : (updateStrip t f s).params = s.params := rfl
@[simp] theorem updateStrip_cmd : (updateStrip t f s).cmd = s.cmd := rfl
@[simp] theorem updateStrip_freeIndex : (updateStrip t f s).freeIndex = s.freeIndex := rfl
@[simp] theorem updateStrip_pending : (updateStrip t f s).pending = s.pending := rfl
end updateStrip

section updateOut
variable (o : Fin 24) (f : CountedOut → CountedOut)
@[simp] theorem updateOut_ms : (updateOut o f s).ms = s.ms := rfl
@[simp] theorem updateOut_us : (updateOut o f s).us = s.us := rfl
@[simp] theorem updateOut_usPhase : (updateOut o f s).usPhase = s.usPhase := rfl
@[simp] theorem updateOut_resetHeld : (updateOut o f s).resetHeld = s.resetHeld := rfl
@[simp] theorem updateOut_channels : (updateOut o f s).channels = s.channels := rfl
@[simp] theorem updateOut_inf : (updateOut o f s).inf = s.inf := rfl
@[simp] theorem updateOut_ch : (updateOut o f s).ch = s.ch := rfl
@[simp] theorem updateOut_history : (updateOut o f s).history = s.history := rfl
@[simp] theorem updateOut_speed : (updateOut o f s).speed = s.speed := rfl
@[simp] theorem updateOut_stall : (updateOut o f s).stall = s.stall := rfl
@[simp] theorem updateOut_strips : (updateOut o f s).strips = s.strips := rfl
@[simp] theorem updateOut_nextTicket : (updateOut o f s).nextTicket = s.nextTicket := rfl
@[simp] theorem updateOut_lot : (updateOut o f s).lot = s.lot := rfl
@[simp] theorem updateOut_species : (updateOut o f s).species = s.species := rfl
@[simp] theorem updateOut_infeed : (updateOut o f s).infeed = s.infeed := rfl
@[simp] theorem updateOut_permitOpen : (updateOut o f s).permitOpen = s.permitOpen := rfl
@[simp] theorem updateOut_planQueue : (updateOut o f s).planQueue = s.planQueue := rfl
@[simp] theorem updateOut_engine : (updateOut o f s).engine = s.engine := rfl
@[simp] theorem updateOut_grades : (updateOut o f s).grades = s.grades := rfl
@[simp] theorem updateOut_weights : (updateOut o f s).weights = s.weights := rfl
@[simp] theorem updateOut_sawMap : (updateOut o f s).sawMap = s.sawMap := rfl
@[simp] theorem updateOut_tools : (updateOut o f s).tools = s.tools := rfl
@[simp] theorem updateOut_pendingChange : (updateOut o f s).pendingChange = s.pendingChange := rfl
@[simp] theorem updateOut_moulder : (updateOut o f s).moulder = s.moulder := rfl
@[simp] theorem updateOut_gapTimer : (updateOut o f s).gapTimer = s.gapTimer := rfl
@[simp] theorem updateOut_mismatch : (updateOut o f s).mismatch = s.mismatch := rfl
@[simp] theorem updateOut_head : (updateOut o f s).head = s.head := rfl
@[simp] theorem updateOut_lugs : (updateOut o f s).lugs = s.lugs := rfl
@[simp] theorem updateOut_holding : (updateOut o f s).holding = s.holding := rfl
@[simp] theorem updateOut_window : (updateOut o f s).window = s.window := rfl
@[simp] theorem updateOut_pitchRef : (updateOut o f s).pitchRef = s.pitchRef := rfl
@[simp] theorem updateOut_lastPitch : (updateOut o f s).lastPitch = s.lastPitch := rfl
@[simp] theorem updateOut_pulses : (updateOut o f s).pulses = s.pulses := rfl
@[simp] theorem updateOut_lanes : (updateOut o f s).lanes = s.lanes := rfl
@[simp] theorem updateOut_nextBundle : (updateOut o f s).nextBundle = s.nextBundle := rfl
@[simp] theorem updateOut_labels : (updateOut o f s).labels = s.labels := rfl
@[simp] theorem updateOut_composing : (updateOut o f s).composing = s.composing := rfl
@[simp] theorem updateOut_composed : (updateOut o f s).composed = s.composed := rfl
@[simp] theorem updateOut_doubtLatch : (updateOut o f s).doubtLatch = s.doubtLatch := rfl
@[simp] theorem updateOut_port : (updateOut o f s).port = s.port := rfl
@[simp] theorem updateOut_stations : (updateOut o f s).stations = s.stations := rfl
@[simp] theorem updateOut_pollPointer : (updateOut o f s).pollPointer = s.pollPointer := rfl
@[simp] theorem updateOut_transaction : (updateOut o f s).transaction = s.transaction := rfl
@[simp] theorem updateOut_replyTimer : (updateOut o f s).replyTimer = s.replyTimer := rfl
@[simp] theorem updateOut_line : (updateOut o f s).line = s.line := rfl
@[simp] theorem updateOut_lastEscalation : (updateOut o f s).lastEscalation = s.lastEscalation := rfl
@[simp] theorem updateOut_events : (updateOut o f s).events = s.events := rfl
@[simp] theorem updateOut_escalation : (updateOut o f s).escalation = s.escalation := rfl
@[simp] theorem updateOut_params : (updateOut o f s).params = s.params := rfl
@[simp] theorem updateOut_cmd : (updateOut o f s).cmd = s.cmd := rfl
@[simp] theorem updateOut_freeIndex : (updateOut o f s).freeIndex = s.freeIndex := rfl
@[simp] theorem updateOut_pending : (updateOut o f s).pending = s.pending := rfl
end updateOut

section updateLane
variable (l : Fin 8) (f : Lane → Lane)
@[simp] theorem updateLane_ms : (updateLane l f s).ms = s.ms := rfl
@[simp] theorem updateLane_us : (updateLane l f s).us = s.us := rfl
@[simp] theorem updateLane_usPhase : (updateLane l f s).usPhase = s.usPhase := rfl
@[simp] theorem updateLane_resetHeld : (updateLane l f s).resetHeld = s.resetHeld := rfl
@[simp] theorem updateLane_channels : (updateLane l f s).channels = s.channels := rfl
@[simp] theorem updateLane_inf : (updateLane l f s).inf = s.inf := rfl
@[simp] theorem updateLane_ch : (updateLane l f s).ch = s.ch := rfl
@[simp] theorem updateLane_history : (updateLane l f s).history = s.history := rfl
@[simp] theorem updateLane_speed : (updateLane l f s).speed = s.speed := rfl
@[simp] theorem updateLane_stall : (updateLane l f s).stall = s.stall := rfl
@[simp] theorem updateLane_strips : (updateLane l f s).strips = s.strips := rfl
@[simp] theorem updateLane_nextTicket : (updateLane l f s).nextTicket = s.nextTicket := rfl
@[simp] theorem updateLane_lot : (updateLane l f s).lot = s.lot := rfl
@[simp] theorem updateLane_species : (updateLane l f s).species = s.species := rfl
@[simp] theorem updateLane_infeed : (updateLane l f s).infeed = s.infeed := rfl
@[simp] theorem updateLane_permitOpen : (updateLane l f s).permitOpen = s.permitOpen := rfl
@[simp] theorem updateLane_planQueue : (updateLane l f s).planQueue = s.planQueue := rfl
@[simp] theorem updateLane_engine : (updateLane l f s).engine = s.engine := rfl
@[simp] theorem updateLane_grades : (updateLane l f s).grades = s.grades := rfl
@[simp] theorem updateLane_weights : (updateLane l f s).weights = s.weights := rfl
@[simp] theorem updateLane_sawMap : (updateLane l f s).sawMap = s.sawMap := rfl
@[simp] theorem updateLane_tools : (updateLane l f s).tools = s.tools := rfl
@[simp] theorem updateLane_pendingChange : (updateLane l f s).pendingChange = s.pendingChange := rfl
@[simp] theorem updateLane_moulder : (updateLane l f s).moulder = s.moulder := rfl
@[simp] theorem updateLane_gapTimer : (updateLane l f s).gapTimer = s.gapTimer := rfl
@[simp] theorem updateLane_mismatch : (updateLane l f s).mismatch = s.mismatch := rfl
@[simp] theorem updateLane_head : (updateLane l f s).head = s.head := rfl
@[simp] theorem updateLane_lugs : (updateLane l f s).lugs = s.lugs := rfl
@[simp] theorem updateLane_holding : (updateLane l f s).holding = s.holding := rfl
@[simp] theorem updateLane_window : (updateLane l f s).window = s.window := rfl
@[simp] theorem updateLane_pitchRef : (updateLane l f s).pitchRef = s.pitchRef := rfl
@[simp] theorem updateLane_lastPitch : (updateLane l f s).lastPitch = s.lastPitch := rfl
@[simp] theorem updateLane_outs : (updateLane l f s).outs = s.outs := rfl
@[simp] theorem updateLane_pulses : (updateLane l f s).pulses = s.pulses := rfl
@[simp] theorem updateLane_nextBundle : (updateLane l f s).nextBundle = s.nextBundle := rfl
@[simp] theorem updateLane_labels : (updateLane l f s).labels = s.labels := rfl
@[simp] theorem updateLane_composing : (updateLane l f s).composing = s.composing := rfl
@[simp] theorem updateLane_composed : (updateLane l f s).composed = s.composed := rfl
@[simp] theorem updateLane_doubtLatch : (updateLane l f s).doubtLatch = s.doubtLatch := rfl
@[simp] theorem updateLane_port : (updateLane l f s).port = s.port := rfl
@[simp] theorem updateLane_stations : (updateLane l f s).stations = s.stations := rfl
@[simp] theorem updateLane_pollPointer : (updateLane l f s).pollPointer = s.pollPointer := rfl
@[simp] theorem updateLane_transaction : (updateLane l f s).transaction = s.transaction := rfl
@[simp] theorem updateLane_replyTimer : (updateLane l f s).replyTimer = s.replyTimer := rfl
@[simp] theorem updateLane_line : (updateLane l f s).line = s.line := rfl
@[simp] theorem updateLane_lastEscalation : (updateLane l f s).lastEscalation = s.lastEscalation := rfl
@[simp] theorem updateLane_events : (updateLane l f s).events = s.events := rfl
@[simp] theorem updateLane_escalation : (updateLane l f s).escalation = s.escalation := rfl
@[simp] theorem updateLane_params : (updateLane l f s).params = s.params := rfl
@[simp] theorem updateLane_cmd : (updateLane l f s).cmd = s.cmd := rfl
@[simp] theorem updateLane_freeIndex : (updateLane l f s).freeIndex = s.freeIndex := rfl
@[simp] theorem updateLane_pending : (updateLane l f s).pending = s.pending := rfl
end updateLane

section updateBundle
variable (l : Fin 8) (f : Bundle → Bundle)
@[simp] theorem updateBundle_ms : (updateBundle l f s).ms = s.ms := rfl
@[simp] theorem updateBundle_us : (updateBundle l f s).us = s.us := rfl
@[simp] theorem updateBundle_usPhase : (updateBundle l f s).usPhase = s.usPhase := rfl
@[simp] theorem updateBundle_resetHeld : (updateBundle l f s).resetHeld = s.resetHeld := rfl
@[simp] theorem updateBundle_channels : (updateBundle l f s).channels = s.channels := rfl
@[simp] theorem updateBundle_inf : (updateBundle l f s).inf = s.inf := rfl
@[simp] theorem updateBundle_ch : (updateBundle l f s).ch = s.ch := rfl
@[simp] theorem updateBundle_history : (updateBundle l f s).history = s.history := rfl
@[simp] theorem updateBundle_speed : (updateBundle l f s).speed = s.speed := rfl
@[simp] theorem updateBundle_stall : (updateBundle l f s).stall = s.stall := rfl
@[simp] theorem updateBundle_strips : (updateBundle l f s).strips = s.strips := rfl
@[simp] theorem updateBundle_nextTicket : (updateBundle l f s).nextTicket = s.nextTicket := rfl
@[simp] theorem updateBundle_lot : (updateBundle l f s).lot = s.lot := rfl
@[simp] theorem updateBundle_species : (updateBundle l f s).species = s.species := rfl
@[simp] theorem updateBundle_infeed : (updateBundle l f s).infeed = s.infeed := rfl
@[simp] theorem updateBundle_permitOpen : (updateBundle l f s).permitOpen = s.permitOpen := rfl
@[simp] theorem updateBundle_planQueue : (updateBundle l f s).planQueue = s.planQueue := rfl
@[simp] theorem updateBundle_engine : (updateBundle l f s).engine = s.engine := rfl
@[simp] theorem updateBundle_grades : (updateBundle l f s).grades = s.grades := rfl
@[simp] theorem updateBundle_weights : (updateBundle l f s).weights = s.weights := rfl
@[simp] theorem updateBundle_sawMap : (updateBundle l f s).sawMap = s.sawMap := rfl
@[simp] theorem updateBundle_tools : (updateBundle l f s).tools = s.tools := rfl
@[simp] theorem updateBundle_pendingChange : (updateBundle l f s).pendingChange = s.pendingChange := rfl
@[simp] theorem updateBundle_moulder : (updateBundle l f s).moulder = s.moulder := rfl
@[simp] theorem updateBundle_gapTimer : (updateBundle l f s).gapTimer = s.gapTimer := rfl
@[simp] theorem updateBundle_mismatch : (updateBundle l f s).mismatch = s.mismatch := rfl
@[simp] theorem updateBundle_head : (updateBundle l f s).head = s.head := rfl
@[simp] theorem updateBundle_lugs : (updateBundle l f s).lugs = s.lugs := rfl
@[simp] theorem updateBundle_holding : (updateBundle l f s).holding = s.holding := rfl
@[simp] theorem updateBundle_window : (updateBundle l f s).window = s.window := rfl
@[simp] theorem updateBundle_pitchRef : (updateBundle l f s).pitchRef = s.pitchRef := rfl
@[simp] theorem updateBundle_lastPitch : (updateBundle l f s).lastPitch = s.lastPitch := rfl
@[simp] theorem updateBundle_outs : (updateBundle l f s).outs = s.outs := rfl
@[simp] theorem updateBundle_pulses : (updateBundle l f s).pulses = s.pulses := rfl
@[simp] theorem updateBundle_nextBundle : (updateBundle l f s).nextBundle = s.nextBundle := rfl
@[simp] theorem updateBundle_labels : (updateBundle l f s).labels = s.labels := rfl
@[simp] theorem updateBundle_composing : (updateBundle l f s).composing = s.composing := rfl
@[simp] theorem updateBundle_composed : (updateBundle l f s).composed = s.composed := rfl
@[simp] theorem updateBundle_doubtLatch : (updateBundle l f s).doubtLatch = s.doubtLatch := rfl
@[simp] theorem updateBundle_port : (updateBundle l f s).port = s.port := rfl
@[simp] theorem updateBundle_stations : (updateBundle l f s).stations = s.stations := rfl
@[simp] theorem updateBundle_pollPointer : (updateBundle l f s).pollPointer = s.pollPointer := rfl
@[simp] theorem updateBundle_transaction : (updateBundle l f s).transaction = s.transaction := rfl
@[simp] theorem updateBundle_replyTimer : (updateBundle l f s).replyTimer = s.replyTimer := rfl
@[simp] theorem updateBundle_line : (updateBundle l f s).line = s.line := rfl
@[simp] theorem updateBundle_lastEscalation : (updateBundle l f s).lastEscalation = s.lastEscalation := rfl
@[simp] theorem updateBundle_events : (updateBundle l f s).events = s.events := rfl
@[simp] theorem updateBundle_escalation : (updateBundle l f s).escalation = s.escalation := rfl
@[simp] theorem updateBundle_params : (updateBundle l f s).params = s.params := rfl
@[simp] theorem updateBundle_cmd : (updateBundle l f s).cmd = s.cmd := rfl
@[simp] theorem updateBundle_freeIndex : (updateBundle l f s).freeIndex = s.freeIndex := rfl
@[simp] theorem updateBundle_pending : (updateBundle l f s).pending = s.pending := rfl
end updateBundle

section updateStation
variable (a : Fin 4) (f : Station → Station)
@[simp] theorem updateStation_ms : (updateStation a f s).ms = s.ms := rfl
@[simp] theorem updateStation_us : (updateStation a f s).us = s.us := rfl
@[simp] theorem updateStation_usPhase : (updateStation a f s).usPhase = s.usPhase := rfl
@[simp] theorem updateStation_resetHeld : (updateStation a f s).resetHeld = s.resetHeld := rfl
@[simp] theorem updateStation_channels : (updateStation a f s).channels = s.channels := rfl
@[simp] theorem updateStation_inf : (updateStation a f s).inf = s.inf := rfl
@[simp] theorem updateStation_ch : (updateStation a f s).ch = s.ch := rfl
@[simp] theorem updateStation_history : (updateStation a f s).history = s.history := rfl
@[simp] theorem updateStation_speed : (updateStation a f s).speed = s.speed := rfl
@[simp] theorem updateStation_stall : (updateStation a f s).stall = s.stall := rfl
@[simp] theorem updateStation_strips : (updateStation a f s).strips = s.strips := rfl
@[simp] theorem updateStation_nextTicket : (updateStation a f s).nextTicket = s.nextTicket := rfl
@[simp] theorem updateStation_lot : (updateStation a f s).lot = s.lot := rfl
@[simp] theorem updateStation_species : (updateStation a f s).species = s.species := rfl
@[simp] theorem updateStation_infeed : (updateStation a f s).infeed = s.infeed := rfl
@[simp] theorem updateStation_permitOpen : (updateStation a f s).permitOpen = s.permitOpen := rfl
@[simp] theorem updateStation_planQueue : (updateStation a f s).planQueue = s.planQueue := rfl
@[simp] theorem updateStation_engine : (updateStation a f s).engine = s.engine := rfl
@[simp] theorem updateStation_grades : (updateStation a f s).grades = s.grades := rfl
@[simp] theorem updateStation_weights : (updateStation a f s).weights = s.weights := rfl
@[simp] theorem updateStation_sawMap : (updateStation a f s).sawMap = s.sawMap := rfl
@[simp] theorem updateStation_tools : (updateStation a f s).tools = s.tools := rfl
@[simp] theorem updateStation_pendingChange : (updateStation a f s).pendingChange = s.pendingChange := rfl
@[simp] theorem updateStation_moulder : (updateStation a f s).moulder = s.moulder := rfl
@[simp] theorem updateStation_gapTimer : (updateStation a f s).gapTimer = s.gapTimer := rfl
@[simp] theorem updateStation_mismatch : (updateStation a f s).mismatch = s.mismatch := rfl
@[simp] theorem updateStation_head : (updateStation a f s).head = s.head := rfl
@[simp] theorem updateStation_lugs : (updateStation a f s).lugs = s.lugs := rfl
@[simp] theorem updateStation_holding : (updateStation a f s).holding = s.holding := rfl
@[simp] theorem updateStation_window : (updateStation a f s).window = s.window := rfl
@[simp] theorem updateStation_pitchRef : (updateStation a f s).pitchRef = s.pitchRef := rfl
@[simp] theorem updateStation_lastPitch : (updateStation a f s).lastPitch = s.lastPitch := rfl
@[simp] theorem updateStation_outs : (updateStation a f s).outs = s.outs := rfl
@[simp] theorem updateStation_pulses : (updateStation a f s).pulses = s.pulses := rfl
@[simp] theorem updateStation_lanes : (updateStation a f s).lanes = s.lanes := rfl
@[simp] theorem updateStation_nextBundle : (updateStation a f s).nextBundle = s.nextBundle := rfl
@[simp] theorem updateStation_labels : (updateStation a f s).labels = s.labels := rfl
@[simp] theorem updateStation_composing : (updateStation a f s).composing = s.composing := rfl
@[simp] theorem updateStation_composed : (updateStation a f s).composed = s.composed := rfl
@[simp] theorem updateStation_doubtLatch : (updateStation a f s).doubtLatch = s.doubtLatch := rfl
@[simp] theorem updateStation_port : (updateStation a f s).port = s.port := rfl
@[simp] theorem updateStation_pollPointer : (updateStation a f s).pollPointer = s.pollPointer := rfl
@[simp] theorem updateStation_transaction : (updateStation a f s).transaction = s.transaction := rfl
@[simp] theorem updateStation_replyTimer : (updateStation a f s).replyTimer = s.replyTimer := rfl
@[simp] theorem updateStation_line : (updateStation a f s).line = s.line := rfl
@[simp] theorem updateStation_lastEscalation : (updateStation a f s).lastEscalation = s.lastEscalation := rfl
@[simp] theorem updateStation_events : (updateStation a f s).events = s.events := rfl
@[simp] theorem updateStation_escalation : (updateStation a f s).escalation = s.escalation := rfl
@[simp] theorem updateStation_params : (updateStation a f s).params = s.params := rfl
@[simp] theorem updateStation_cmd : (updateStation a f s).cmd = s.cmd := rfl
@[simp] theorem updateStation_freeIndex : (updateStation a f s).freeIndex = s.freeIndex := rfl
@[simp] theorem updateStation_pending : (updateStation a f s).pending = s.pending := rfl
end updateStation

section updateChannel
variable (i : Fin 6) (f : Channel → Channel)
@[simp] theorem updateChannel_ms : (updateChannel i f s).ms = s.ms := rfl
@[simp] theorem updateChannel_us : (updateChannel i f s).us = s.us := rfl
@[simp] theorem updateChannel_usPhase : (updateChannel i f s).usPhase = s.usPhase := rfl
@[simp] theorem updateChannel_resetHeld : (updateChannel i f s).resetHeld = s.resetHeld := rfl
@[simp] theorem updateChannel_inf : (updateChannel i f s).inf = s.inf := rfl
@[simp] theorem updateChannel_ch : (updateChannel i f s).ch = s.ch := rfl
@[simp] theorem updateChannel_history : (updateChannel i f s).history = s.history := rfl
@[simp] theorem updateChannel_speed : (updateChannel i f s).speed = s.speed := rfl
@[simp] theorem updateChannel_stall : (updateChannel i f s).stall = s.stall := rfl
@[simp] theorem updateChannel_strips : (updateChannel i f s).strips = s.strips := rfl
@[simp] theorem updateChannel_nextTicket : (updateChannel i f s).nextTicket = s.nextTicket := rfl
@[simp] theorem updateChannel_lot : (updateChannel i f s).lot = s.lot := rfl
@[simp] theorem updateChannel_species : (updateChannel i f s).species = s.species := rfl
@[simp] theorem updateChannel_infeed : (updateChannel i f s).infeed = s.infeed := rfl
@[simp] theorem updateChannel_permitOpen : (updateChannel i f s).permitOpen = s.permitOpen := rfl
@[simp] theorem updateChannel_planQueue : (updateChannel i f s).planQueue = s.planQueue := rfl
@[simp] theorem updateChannel_engine : (updateChannel i f s).engine = s.engine := rfl
@[simp] theorem updateChannel_grades : (updateChannel i f s).grades = s.grades := rfl
@[simp] theorem updateChannel_weights : (updateChannel i f s).weights = s.weights := rfl
@[simp] theorem updateChannel_sawMap : (updateChannel i f s).sawMap = s.sawMap := rfl
@[simp] theorem updateChannel_tools : (updateChannel i f s).tools = s.tools := rfl
@[simp] theorem updateChannel_pendingChange : (updateChannel i f s).pendingChange = s.pendingChange := rfl
@[simp] theorem updateChannel_moulder : (updateChannel i f s).moulder = s.moulder := rfl
@[simp] theorem updateChannel_gapTimer : (updateChannel i f s).gapTimer = s.gapTimer := rfl
@[simp] theorem updateChannel_mismatch : (updateChannel i f s).mismatch = s.mismatch := rfl
@[simp] theorem updateChannel_head : (updateChannel i f s).head = s.head := rfl
@[simp] theorem updateChannel_lugs : (updateChannel i f s).lugs = s.lugs := rfl
@[simp] theorem updateChannel_holding : (updateChannel i f s).holding = s.holding := rfl
@[simp] theorem updateChannel_window : (updateChannel i f s).window = s.window := rfl
@[simp] theorem updateChannel_pitchRef : (updateChannel i f s).pitchRef = s.pitchRef := rfl
@[simp] theorem updateChannel_lastPitch : (updateChannel i f s).lastPitch = s.lastPitch := rfl
@[simp] theorem updateChannel_outs : (updateChannel i f s).outs = s.outs := rfl
@[simp] theorem updateChannel_pulses : (updateChannel i f s).pulses = s.pulses := rfl
@[simp] theorem updateChannel_lanes : (updateChannel i f s).lanes = s.lanes := rfl
@[simp] theorem updateChannel_nextBundle : (updateChannel i f s).nextBundle = s.nextBundle := rfl
@[simp] theorem updateChannel_labels : (updateChannel i f s).labels = s.labels := rfl
@[simp] theorem updateChannel_composing : (updateChannel i f s).composing = s.composing := rfl
@[simp] theorem updateChannel_composed : (updateChannel i f s).composed = s.composed := rfl
@[simp] theorem updateChannel_doubtLatch : (updateChannel i f s).doubtLatch = s.doubtLatch := rfl
@[simp] theorem updateChannel_port : (updateChannel i f s).port = s.port := rfl
@[simp] theorem updateChannel_stations : (updateChannel i f s).stations = s.stations := rfl
@[simp] theorem updateChannel_pollPointer : (updateChannel i f s).pollPointer = s.pollPointer := rfl
@[simp] theorem updateChannel_transaction : (updateChannel i f s).transaction = s.transaction := rfl
@[simp] theorem updateChannel_replyTimer : (updateChannel i f s).replyTimer = s.replyTimer := rfl
@[simp] theorem updateChannel_line : (updateChannel i f s).line = s.line := rfl
@[simp] theorem updateChannel_lastEscalation : (updateChannel i f s).lastEscalation = s.lastEscalation := rfl
@[simp] theorem updateChannel_events : (updateChannel i f s).events = s.events := rfl
@[simp] theorem updateChannel_escalation : (updateChannel i f s).escalation = s.escalation := rfl
@[simp] theorem updateChannel_params : (updateChannel i f s).params = s.params := rfl
@[simp] theorem updateChannel_cmd : (updateChannel i f s).cmd = s.cmd := rfl
@[simp] theorem updateChannel_freeIndex : (updateChannel i f s).freeIndex = s.freeIndex := rfl
@[simp] theorem updateChannel_pending : (updateChannel i f s).pending = s.pending := rfl
end updateChannel

section startPulse
variable (p : TimePulse) (q : Param)
@[simp] theorem startPulse_ms : (startPulse p q s).ms = s.ms := rfl
@[simp] theorem startPulse_us : (startPulse p q s).us = s.us := rfl
@[simp] theorem startPulse_usPhase : (startPulse p q s).usPhase = s.usPhase := rfl
@[simp] theorem startPulse_resetHeld : (startPulse p q s).resetHeld = s.resetHeld := rfl
@[simp] theorem startPulse_channels : (startPulse p q s).channels = s.channels := rfl
@[simp] theorem startPulse_inf : (startPulse p q s).inf = s.inf := rfl
@[simp] theorem startPulse_ch : (startPulse p q s).ch = s.ch := rfl
@[simp] theorem startPulse_history : (startPulse p q s).history = s.history := rfl
@[simp] theorem startPulse_speed : (startPulse p q s).speed = s.speed := rfl
@[simp] theorem startPulse_stall : (startPulse p q s).stall = s.stall := rfl
@[simp] theorem startPulse_strips : (startPulse p q s).strips = s.strips := rfl
@[simp] theorem startPulse_nextTicket : (startPulse p q s).nextTicket = s.nextTicket := rfl
@[simp] theorem startPulse_lot : (startPulse p q s).lot = s.lot := rfl
@[simp] theorem startPulse_species : (startPulse p q s).species = s.species := rfl
@[simp] theorem startPulse_infeed : (startPulse p q s).infeed = s.infeed := rfl
@[simp] theorem startPulse_permitOpen : (startPulse p q s).permitOpen = s.permitOpen := rfl
@[simp] theorem startPulse_planQueue : (startPulse p q s).planQueue = s.planQueue := rfl
@[simp] theorem startPulse_engine : (startPulse p q s).engine = s.engine := rfl
@[simp] theorem startPulse_grades : (startPulse p q s).grades = s.grades := rfl
@[simp] theorem startPulse_weights : (startPulse p q s).weights = s.weights := rfl
@[simp] theorem startPulse_sawMap : (startPulse p q s).sawMap = s.sawMap := rfl
@[simp] theorem startPulse_tools : (startPulse p q s).tools = s.tools := rfl
@[simp] theorem startPulse_pendingChange : (startPulse p q s).pendingChange = s.pendingChange := rfl
@[simp] theorem startPulse_moulder : (startPulse p q s).moulder = s.moulder := rfl
@[simp] theorem startPulse_gapTimer : (startPulse p q s).gapTimer = s.gapTimer := rfl
@[simp] theorem startPulse_mismatch : (startPulse p q s).mismatch = s.mismatch := rfl
@[simp] theorem startPulse_head : (startPulse p q s).head = s.head := rfl
@[simp] theorem startPulse_lugs : (startPulse p q s).lugs = s.lugs := rfl
@[simp] theorem startPulse_holding : (startPulse p q s).holding = s.holding := rfl
@[simp] theorem startPulse_window : (startPulse p q s).window = s.window := rfl
@[simp] theorem startPulse_pitchRef : (startPulse p q s).pitchRef = s.pitchRef := rfl
@[simp] theorem startPulse_lastPitch : (startPulse p q s).lastPitch = s.lastPitch := rfl
@[simp] theorem startPulse_outs : (startPulse p q s).outs = s.outs := rfl
@[simp] theorem startPulse_lanes : (startPulse p q s).lanes = s.lanes := rfl
@[simp] theorem startPulse_nextBundle : (startPulse p q s).nextBundle = s.nextBundle := rfl
@[simp] theorem startPulse_labels : (startPulse p q s).labels = s.labels := rfl
@[simp] theorem startPulse_composing : (startPulse p q s).composing = s.composing := rfl
@[simp] theorem startPulse_composed : (startPulse p q s).composed = s.composed := rfl
@[simp] theorem startPulse_doubtLatch : (startPulse p q s).doubtLatch = s.doubtLatch := rfl
@[simp] theorem startPulse_port : (startPulse p q s).port = s.port := rfl
@[simp] theorem startPulse_stations : (startPulse p q s).stations = s.stations := rfl
@[simp] theorem startPulse_pollPointer : (startPulse p q s).pollPointer = s.pollPointer := rfl
@[simp] theorem startPulse_transaction : (startPulse p q s).transaction = s.transaction := rfl
@[simp] theorem startPulse_replyTimer : (startPulse p q s).replyTimer = s.replyTimer := rfl
@[simp] theorem startPulse_line : (startPulse p q s).line = s.line := rfl
@[simp] theorem startPulse_lastEscalation : (startPulse p q s).lastEscalation = s.lastEscalation := rfl
@[simp] theorem startPulse_events : (startPulse p q s).events = s.events := rfl
@[simp] theorem startPulse_escalation : (startPulse p q s).escalation = s.escalation := rfl
@[simp] theorem startPulse_params : (startPulse p q s).params = s.params := rfl
@[simp] theorem startPulse_cmd : (startPulse p q s).cmd = s.cmd := rfl
@[simp] theorem startPulse_freeIndex : (startPulse p q s).freeIndex = s.freeIndex := rfl
@[simp] theorem startPulse_pending : (startPulse p q s).pending = s.pending := rfl
end startPulse

section setFlag
variable (k : EventKind)
@[simp] theorem setFlag_ms : (setFlag k s).ms = s.ms := rfl
@[simp] theorem setFlag_us : (setFlag k s).us = s.us := rfl
@[simp] theorem setFlag_usPhase : (setFlag k s).usPhase = s.usPhase := rfl
@[simp] theorem setFlag_resetHeld : (setFlag k s).resetHeld = s.resetHeld := rfl
@[simp] theorem setFlag_channels : (setFlag k s).channels = s.channels := rfl
@[simp] theorem setFlag_inf : (setFlag k s).inf = s.inf := rfl
@[simp] theorem setFlag_ch : (setFlag k s).ch = s.ch := rfl
@[simp] theorem setFlag_history : (setFlag k s).history = s.history := rfl
@[simp] theorem setFlag_speed : (setFlag k s).speed = s.speed := rfl
@[simp] theorem setFlag_stall : (setFlag k s).stall = s.stall := rfl
@[simp] theorem setFlag_strips : (setFlag k s).strips = s.strips := rfl
@[simp] theorem setFlag_nextTicket : (setFlag k s).nextTicket = s.nextTicket := rfl
@[simp] theorem setFlag_lot : (setFlag k s).lot = s.lot := rfl
@[simp] theorem setFlag_species : (setFlag k s).species = s.species := rfl
@[simp] theorem setFlag_infeed : (setFlag k s).infeed = s.infeed := rfl
@[simp] theorem setFlag_permitOpen : (setFlag k s).permitOpen = s.permitOpen := rfl
@[simp] theorem setFlag_planQueue : (setFlag k s).planQueue = s.planQueue := rfl
@[simp] theorem setFlag_engine : (setFlag k s).engine = s.engine := rfl
@[simp] theorem setFlag_grades : (setFlag k s).grades = s.grades := rfl
@[simp] theorem setFlag_weights : (setFlag k s).weights = s.weights := rfl
@[simp] theorem setFlag_sawMap : (setFlag k s).sawMap = s.sawMap := rfl
@[simp] theorem setFlag_tools : (setFlag k s).tools = s.tools := rfl
@[simp] theorem setFlag_pendingChange : (setFlag k s).pendingChange = s.pendingChange := rfl
@[simp] theorem setFlag_moulder : (setFlag k s).moulder = s.moulder := rfl
@[simp] theorem setFlag_gapTimer : (setFlag k s).gapTimer = s.gapTimer := rfl
@[simp] theorem setFlag_mismatch : (setFlag k s).mismatch = s.mismatch := rfl
@[simp] theorem setFlag_head : (setFlag k s).head = s.head := rfl
@[simp] theorem setFlag_lugs : (setFlag k s).lugs = s.lugs := rfl
@[simp] theorem setFlag_holding : (setFlag k s).holding = s.holding := rfl
@[simp] theorem setFlag_window : (setFlag k s).window = s.window := rfl
@[simp] theorem setFlag_pitchRef : (setFlag k s).pitchRef = s.pitchRef := rfl
@[simp] theorem setFlag_lastPitch : (setFlag k s).lastPitch = s.lastPitch := rfl
@[simp] theorem setFlag_outs : (setFlag k s).outs = s.outs := rfl
@[simp] theorem setFlag_pulses : (setFlag k s).pulses = s.pulses := rfl
@[simp] theorem setFlag_lanes : (setFlag k s).lanes = s.lanes := rfl
@[simp] theorem setFlag_nextBundle : (setFlag k s).nextBundle = s.nextBundle := rfl
@[simp] theorem setFlag_labels : (setFlag k s).labels = s.labels := rfl
@[simp] theorem setFlag_composing : (setFlag k s).composing = s.composing := rfl
@[simp] theorem setFlag_composed : (setFlag k s).composed = s.composed := rfl
@[simp] theorem setFlag_doubtLatch : (setFlag k s).doubtLatch = s.doubtLatch := rfl
@[simp] theorem setFlag_port : (setFlag k s).port = s.port := rfl
@[simp] theorem setFlag_stations : (setFlag k s).stations = s.stations := rfl
@[simp] theorem setFlag_pollPointer : (setFlag k s).pollPointer = s.pollPointer := rfl
@[simp] theorem setFlag_transaction : (setFlag k s).transaction = s.transaction := rfl
@[simp] theorem setFlag_replyTimer : (setFlag k s).replyTimer = s.replyTimer := rfl
@[simp] theorem setFlag_line : (setFlag k s).line = s.line := rfl
@[simp] theorem setFlag_lastEscalation : (setFlag k s).lastEscalation = s.lastEscalation := rfl
@[simp] theorem setFlag_escalation : (setFlag k s).escalation = s.escalation := rfl
@[simp] theorem setFlag_params : (setFlag k s).params = s.params := rfl
@[simp] theorem setFlag_cmd : (setFlag k s).cmd = s.cmd := rfl
@[simp] theorem setFlag_freeIndex : (setFlag k s).freeIndex = s.freeIndex := rfl
@[simp] theorem setFlag_pending : (setFlag k s).pending = s.pending := rfl
end setFlag

section setSawDone
variable (j : Fin 40) (t : Nat)
@[simp] theorem setSawDone_ms : (setSawDone j t s).ms = s.ms := rfl
@[simp] theorem setSawDone_us : (setSawDone j t s).us = s.us := rfl
@[simp] theorem setSawDone_usPhase : (setSawDone j t s).usPhase = s.usPhase := rfl
@[simp] theorem setSawDone_resetHeld : (setSawDone j t s).resetHeld = s.resetHeld := rfl
@[simp] theorem setSawDone_channels : (setSawDone j t s).channels = s.channels := rfl
@[simp] theorem setSawDone_inf : (setSawDone j t s).inf = s.inf := rfl
@[simp] theorem setSawDone_ch : (setSawDone j t s).ch = s.ch := rfl
@[simp] theorem setSawDone_history : (setSawDone j t s).history = s.history := rfl
@[simp] theorem setSawDone_speed : (setSawDone j t s).speed = s.speed := rfl
@[simp] theorem setSawDone_stall : (setSawDone j t s).stall = s.stall := rfl
@[simp] theorem setSawDone_strips : (setSawDone j t s).strips = s.strips := rfl
@[simp] theorem setSawDone_nextTicket : (setSawDone j t s).nextTicket = s.nextTicket := rfl
@[simp] theorem setSawDone_lot : (setSawDone j t s).lot = s.lot := rfl
@[simp] theorem setSawDone_species : (setSawDone j t s).species = s.species := rfl
@[simp] theorem setSawDone_infeed : (setSawDone j t s).infeed = s.infeed := rfl
@[simp] theorem setSawDone_permitOpen : (setSawDone j t s).permitOpen = s.permitOpen := rfl
@[simp] theorem setSawDone_planQueue : (setSawDone j t s).planQueue = s.planQueue := rfl
@[simp] theorem setSawDone_engine : (setSawDone j t s).engine = s.engine := rfl
@[simp] theorem setSawDone_grades : (setSawDone j t s).grades = s.grades := rfl
@[simp] theorem setSawDone_weights : (setSawDone j t s).weights = s.weights := rfl
@[simp] theorem setSawDone_sawMap : (setSawDone j t s).sawMap = s.sawMap := rfl
@[simp] theorem setSawDone_tools : (setSawDone j t s).tools = s.tools := rfl
@[simp] theorem setSawDone_pendingChange : (setSawDone j t s).pendingChange = s.pendingChange := rfl
@[simp] theorem setSawDone_moulder : (setSawDone j t s).moulder = s.moulder := rfl
@[simp] theorem setSawDone_gapTimer : (setSawDone j t s).gapTimer = s.gapTimer := rfl
@[simp] theorem setSawDone_mismatch : (setSawDone j t s).mismatch = s.mismatch := rfl
@[simp] theorem setSawDone_head : (setSawDone j t s).head = s.head := rfl
@[simp] theorem setSawDone_holding : (setSawDone j t s).holding = s.holding := rfl
@[simp] theorem setSawDone_window : (setSawDone j t s).window = s.window := rfl
@[simp] theorem setSawDone_pitchRef : (setSawDone j t s).pitchRef = s.pitchRef := rfl
@[simp] theorem setSawDone_lastPitch : (setSawDone j t s).lastPitch = s.lastPitch := rfl
@[simp] theorem setSawDone_outs : (setSawDone j t s).outs = s.outs := rfl
@[simp] theorem setSawDone_pulses : (setSawDone j t s).pulses = s.pulses := rfl
@[simp] theorem setSawDone_lanes : (setSawDone j t s).lanes = s.lanes := rfl
@[simp] theorem setSawDone_nextBundle : (setSawDone j t s).nextBundle = s.nextBundle := rfl
@[simp] theorem setSawDone_labels : (setSawDone j t s).labels = s.labels := rfl
@[simp] theorem setSawDone_composing : (setSawDone j t s).composing = s.composing := rfl
@[simp] theorem setSawDone_composed : (setSawDone j t s).composed = s.composed := rfl
@[simp] theorem setSawDone_doubtLatch : (setSawDone j t s).doubtLatch = s.doubtLatch := rfl
@[simp] theorem setSawDone_port : (setSawDone j t s).port = s.port := rfl
@[simp] theorem setSawDone_stations : (setSawDone j t s).stations = s.stations := rfl
@[simp] theorem setSawDone_pollPointer : (setSawDone j t s).pollPointer = s.pollPointer := rfl
@[simp] theorem setSawDone_transaction : (setSawDone j t s).transaction = s.transaction := rfl
@[simp] theorem setSawDone_replyTimer : (setSawDone j t s).replyTimer = s.replyTimer := rfl
@[simp] theorem setSawDone_line : (setSawDone j t s).line = s.line := rfl
@[simp] theorem setSawDone_lastEscalation : (setSawDone j t s).lastEscalation = s.lastEscalation := rfl
@[simp] theorem setSawDone_events : (setSawDone j t s).events = s.events := rfl
@[simp] theorem setSawDone_escalation : (setSawDone j t s).escalation = s.escalation := rfl
@[simp] theorem setSawDone_params : (setSawDone j t s).params = s.params := rfl
@[simp] theorem setSawDone_cmd : (setSawDone j t s).cmd = s.cmd := rfl
@[simp] theorem setSawDone_freeIndex : (setSawDone j t s).freeIndex = s.freeIndex := rfl
@[simp] theorem setSawDone_pending : (setSawDone j t s).pending = s.pending := rfl
end setSawDone

section updateLabel
variable (l : Fin 8) (f : Label → Label)
@[simp] theorem updateLabel_ms : (updateLabel l f s).ms = s.ms := rfl
@[simp] theorem updateLabel_us : (updateLabel l f s).us = s.us := rfl
@[simp] theorem updateLabel_usPhase : (updateLabel l f s).usPhase = s.usPhase := rfl
@[simp] theorem updateLabel_resetHeld : (updateLabel l f s).resetHeld = s.resetHeld := rfl
@[simp] theorem updateLabel_channels : (updateLabel l f s).channels = s.channels := rfl
@[simp] theorem updateLabel_inf : (updateLabel l f s).inf = s.inf := rfl
@[simp] theorem updateLabel_ch : (updateLabel l f s).ch = s.ch := rfl
@[simp] theorem updateLabel_history : (updateLabel l f s).history = s.history := rfl
@[simp] theorem updateLabel_speed : (updateLabel l f s).speed = s.speed := rfl
@[simp] theorem updateLabel_stall : (updateLabel l f s).stall = s.stall := rfl
@[simp] theorem updateLabel_strips : (updateLabel l f s).strips = s.strips := rfl
@[simp] theorem updateLabel_nextTicket : (updateLabel l f s).nextTicket = s.nextTicket := rfl
@[simp] theorem updateLabel_lot : (updateLabel l f s).lot = s.lot := rfl
@[simp] theorem updateLabel_species : (updateLabel l f s).species = s.species := rfl
@[simp] theorem updateLabel_infeed : (updateLabel l f s).infeed = s.infeed := rfl
@[simp] theorem updateLabel_permitOpen : (updateLabel l f s).permitOpen = s.permitOpen := rfl
@[simp] theorem updateLabel_planQueue : (updateLabel l f s).planQueue = s.planQueue := rfl
@[simp] theorem updateLabel_engine : (updateLabel l f s).engine = s.engine := rfl
@[simp] theorem updateLabel_grades : (updateLabel l f s).grades = s.grades := rfl
@[simp] theorem updateLabel_weights : (updateLabel l f s).weights = s.weights := rfl
@[simp] theorem updateLabel_sawMap : (updateLabel l f s).sawMap = s.sawMap := rfl
@[simp] theorem updateLabel_tools : (updateLabel l f s).tools = s.tools := rfl
@[simp] theorem updateLabel_pendingChange : (updateLabel l f s).pendingChange = s.pendingChange := rfl
@[simp] theorem updateLabel_moulder : (updateLabel l f s).moulder = s.moulder := rfl
@[simp] theorem updateLabel_gapTimer : (updateLabel l f s).gapTimer = s.gapTimer := rfl
@[simp] theorem updateLabel_mismatch : (updateLabel l f s).mismatch = s.mismatch := rfl
@[simp] theorem updateLabel_head : (updateLabel l f s).head = s.head := rfl
@[simp] theorem updateLabel_lugs : (updateLabel l f s).lugs = s.lugs := rfl
@[simp] theorem updateLabel_holding : (updateLabel l f s).holding = s.holding := rfl
@[simp] theorem updateLabel_window : (updateLabel l f s).window = s.window := rfl
@[simp] theorem updateLabel_pitchRef : (updateLabel l f s).pitchRef = s.pitchRef := rfl
@[simp] theorem updateLabel_lastPitch : (updateLabel l f s).lastPitch = s.lastPitch := rfl
@[simp] theorem updateLabel_outs : (updateLabel l f s).outs = s.outs := rfl
@[simp] theorem updateLabel_pulses : (updateLabel l f s).pulses = s.pulses := rfl
@[simp] theorem updateLabel_lanes : (updateLabel l f s).lanes = s.lanes := rfl
@[simp] theorem updateLabel_nextBundle : (updateLabel l f s).nextBundle = s.nextBundle := rfl
@[simp] theorem updateLabel_composing : (updateLabel l f s).composing = s.composing := rfl
@[simp] theorem updateLabel_composed : (updateLabel l f s).composed = s.composed := rfl
@[simp] theorem updateLabel_doubtLatch : (updateLabel l f s).doubtLatch = s.doubtLatch := rfl
@[simp] theorem updateLabel_port : (updateLabel l f s).port = s.port := rfl
@[simp] theorem updateLabel_stations : (updateLabel l f s).stations = s.stations := rfl
@[simp] theorem updateLabel_pollPointer : (updateLabel l f s).pollPointer = s.pollPointer := rfl
@[simp] theorem updateLabel_transaction : (updateLabel l f s).transaction = s.transaction := rfl
@[simp] theorem updateLabel_replyTimer : (updateLabel l f s).replyTimer = s.replyTimer := rfl
@[simp] theorem updateLabel_line : (updateLabel l f s).line = s.line := rfl
@[simp] theorem updateLabel_lastEscalation : (updateLabel l f s).lastEscalation = s.lastEscalation := rfl
@[simp] theorem updateLabel_events : (updateLabel l f s).events = s.events := rfl
@[simp] theorem updateLabel_escalation : (updateLabel l f s).escalation = s.escalation := rfl
@[simp] theorem updateLabel_params : (updateLabel l f s).params = s.params := rfl
@[simp] theorem updateLabel_cmd : (updateLabel l f s).cmd = s.cmd := rfl
@[simp] theorem updateLabel_freeIndex : (updateLabel l f s).freeIndex = s.freeIndex := rfl
@[simp] theorem updateLabel_pending : (updateLabel l f s).pending = s.pending := rfl
end updateLabel

section removeLabel
variable (l : Fin 8)
@[simp] theorem removeLabel_ms : (removeLabel l s).ms = s.ms := rfl
@[simp] theorem removeLabel_us : (removeLabel l s).us = s.us := rfl
@[simp] theorem removeLabel_usPhase : (removeLabel l s).usPhase = s.usPhase := rfl
@[simp] theorem removeLabel_resetHeld : (removeLabel l s).resetHeld = s.resetHeld := rfl
@[simp] theorem removeLabel_channels : (removeLabel l s).channels = s.channels := rfl
@[simp] theorem removeLabel_inf : (removeLabel l s).inf = s.inf := rfl
@[simp] theorem removeLabel_ch : (removeLabel l s).ch = s.ch := rfl
@[simp] theorem removeLabel_history : (removeLabel l s).history = s.history := rfl
@[simp] theorem removeLabel_speed : (removeLabel l s).speed = s.speed := rfl
@[simp] theorem removeLabel_stall : (removeLabel l s).stall = s.stall := rfl
@[simp] theorem removeLabel_strips : (removeLabel l s).strips = s.strips := rfl
@[simp] theorem removeLabel_nextTicket : (removeLabel l s).nextTicket = s.nextTicket := rfl
@[simp] theorem removeLabel_lot : (removeLabel l s).lot = s.lot := rfl
@[simp] theorem removeLabel_species : (removeLabel l s).species = s.species := rfl
@[simp] theorem removeLabel_infeed : (removeLabel l s).infeed = s.infeed := rfl
@[simp] theorem removeLabel_permitOpen : (removeLabel l s).permitOpen = s.permitOpen := rfl
@[simp] theorem removeLabel_planQueue : (removeLabel l s).planQueue = s.planQueue := rfl
@[simp] theorem removeLabel_engine : (removeLabel l s).engine = s.engine := rfl
@[simp] theorem removeLabel_grades : (removeLabel l s).grades = s.grades := rfl
@[simp] theorem removeLabel_weights : (removeLabel l s).weights = s.weights := rfl
@[simp] theorem removeLabel_sawMap : (removeLabel l s).sawMap = s.sawMap := rfl
@[simp] theorem removeLabel_tools : (removeLabel l s).tools = s.tools := rfl
@[simp] theorem removeLabel_pendingChange : (removeLabel l s).pendingChange = s.pendingChange := rfl
@[simp] theorem removeLabel_moulder : (removeLabel l s).moulder = s.moulder := rfl
@[simp] theorem removeLabel_gapTimer : (removeLabel l s).gapTimer = s.gapTimer := rfl
@[simp] theorem removeLabel_mismatch : (removeLabel l s).mismatch = s.mismatch := rfl
@[simp] theorem removeLabel_head : (removeLabel l s).head = s.head := rfl
@[simp] theorem removeLabel_lugs : (removeLabel l s).lugs = s.lugs := rfl
@[simp] theorem removeLabel_holding : (removeLabel l s).holding = s.holding := rfl
@[simp] theorem removeLabel_window : (removeLabel l s).window = s.window := rfl
@[simp] theorem removeLabel_pitchRef : (removeLabel l s).pitchRef = s.pitchRef := rfl
@[simp] theorem removeLabel_lastPitch : (removeLabel l s).lastPitch = s.lastPitch := rfl
@[simp] theorem removeLabel_outs : (removeLabel l s).outs = s.outs := rfl
@[simp] theorem removeLabel_pulses : (removeLabel l s).pulses = s.pulses := rfl
@[simp] theorem removeLabel_lanes : (removeLabel l s).lanes = s.lanes := rfl
@[simp] theorem removeLabel_nextBundle : (removeLabel l s).nextBundle = s.nextBundle := rfl
@[simp] theorem removeLabel_composing : (removeLabel l s).composing = s.composing := rfl
@[simp] theorem removeLabel_composed : (removeLabel l s).composed = s.composed := rfl
@[simp] theorem removeLabel_doubtLatch : (removeLabel l s).doubtLatch = s.doubtLatch := rfl
@[simp] theorem removeLabel_port : (removeLabel l s).port = s.port := rfl
@[simp] theorem removeLabel_stations : (removeLabel l s).stations = s.stations := rfl
@[simp] theorem removeLabel_pollPointer : (removeLabel l s).pollPointer = s.pollPointer := rfl
@[simp] theorem removeLabel_transaction : (removeLabel l s).transaction = s.transaction := rfl
@[simp] theorem removeLabel_replyTimer : (removeLabel l s).replyTimer = s.replyTimer := rfl
@[simp] theorem removeLabel_line : (removeLabel l s).line = s.line := rfl
@[simp] theorem removeLabel_lastEscalation : (removeLabel l s).lastEscalation = s.lastEscalation := rfl
@[simp] theorem removeLabel_events : (removeLabel l s).events = s.events := rfl
@[simp] theorem removeLabel_escalation : (removeLabel l s).escalation = s.escalation := rfl
@[simp] theorem removeLabel_params : (removeLabel l s).params = s.params := rfl
@[simp] theorem removeLabel_cmd : (removeLabel l s).cmd = s.cmd := rfl
@[simp] theorem removeLabel_freeIndex : (removeLabel l s).freeIndex = s.freeIndex := rfl
@[simp] theorem removeLabel_pending : (removeLabel l s).pending = s.pending := rfl
end removeLabel

section dropCurrent
@[simp] theorem dropCurrent_ms : (dropCurrent s).ms = s.ms := rfl
@[simp] theorem dropCurrent_us : (dropCurrent s).us = s.us := rfl
@[simp] theorem dropCurrent_usPhase : (dropCurrent s).usPhase = s.usPhase := rfl
@[simp] theorem dropCurrent_resetHeld : (dropCurrent s).resetHeld = s.resetHeld := rfl
@[simp] theorem dropCurrent_channels : (dropCurrent s).channels = s.channels := rfl
@[simp] theorem dropCurrent_inf : (dropCurrent s).inf = s.inf := rfl
@[simp] theorem dropCurrent_ch : (dropCurrent s).ch = s.ch := rfl
@[simp] theorem dropCurrent_history : (dropCurrent s).history = s.history := rfl
@[simp] theorem dropCurrent_speed : (dropCurrent s).speed = s.speed := rfl
@[simp] theorem dropCurrent_stall : (dropCurrent s).stall = s.stall := rfl
@[simp] theorem dropCurrent_strips : (dropCurrent s).strips = s.strips := rfl
@[simp] theorem dropCurrent_nextTicket : (dropCurrent s).nextTicket = s.nextTicket := rfl
@[simp] theorem dropCurrent_lot : (dropCurrent s).lot = s.lot := rfl
@[simp] theorem dropCurrent_species : (dropCurrent s).species = s.species := rfl
@[simp] theorem dropCurrent_infeed : (dropCurrent s).infeed = s.infeed := rfl
@[simp] theorem dropCurrent_permitOpen : (dropCurrent s).permitOpen = s.permitOpen := rfl
@[simp] theorem dropCurrent_planQueue : (dropCurrent s).planQueue = s.planQueue := rfl
@[simp] theorem dropCurrent_engine : (dropCurrent s).engine = s.engine := rfl
@[simp] theorem dropCurrent_grades : (dropCurrent s).grades = s.grades := rfl
@[simp] theorem dropCurrent_weights : (dropCurrent s).weights = s.weights := rfl
@[simp] theorem dropCurrent_sawMap : (dropCurrent s).sawMap = s.sawMap := rfl
@[simp] theorem dropCurrent_tools : (dropCurrent s).tools = s.tools := rfl
@[simp] theorem dropCurrent_pendingChange : (dropCurrent s).pendingChange = s.pendingChange := rfl
@[simp] theorem dropCurrent_moulder : (dropCurrent s).moulder = s.moulder := rfl
@[simp] theorem dropCurrent_gapTimer : (dropCurrent s).gapTimer = s.gapTimer := rfl
@[simp] theorem dropCurrent_mismatch : (dropCurrent s).mismatch = s.mismatch := rfl
@[simp] theorem dropCurrent_head : (dropCurrent s).head = s.head := rfl
@[simp] theorem dropCurrent_lugs : (dropCurrent s).lugs = s.lugs := rfl
@[simp] theorem dropCurrent_holding : (dropCurrent s).holding = s.holding := rfl
@[simp] theorem dropCurrent_window : (dropCurrent s).window = s.window := rfl
@[simp] theorem dropCurrent_pitchRef : (dropCurrent s).pitchRef = s.pitchRef := rfl
@[simp] theorem dropCurrent_lastPitch : (dropCurrent s).lastPitch = s.lastPitch := rfl
@[simp] theorem dropCurrent_outs : (dropCurrent s).outs = s.outs := rfl
@[simp] theorem dropCurrent_pulses : (dropCurrent s).pulses = s.pulses := rfl
@[simp] theorem dropCurrent_lanes : (dropCurrent s).lanes = s.lanes := rfl
@[simp] theorem dropCurrent_nextBundle : (dropCurrent s).nextBundle = s.nextBundle := rfl
@[simp] theorem dropCurrent_labels : (dropCurrent s).labels = s.labels := rfl
@[simp] theorem dropCurrent_port : (dropCurrent s).port = s.port := rfl
@[simp] theorem dropCurrent_stations : (dropCurrent s).stations = s.stations := rfl
@[simp] theorem dropCurrent_pollPointer : (dropCurrent s).pollPointer = s.pollPointer := rfl
@[simp] theorem dropCurrent_transaction : (dropCurrent s).transaction = s.transaction := rfl
@[simp] theorem dropCurrent_replyTimer : (dropCurrent s).replyTimer = s.replyTimer := rfl
@[simp] theorem dropCurrent_line : (dropCurrent s).line = s.line := rfl
@[simp] theorem dropCurrent_lastEscalation : (dropCurrent s).lastEscalation = s.lastEscalation := rfl
@[simp] theorem dropCurrent_events : (dropCurrent s).events = s.events := rfl
@[simp] theorem dropCurrent_escalation : (dropCurrent s).escalation = s.escalation := rfl
@[simp] theorem dropCurrent_params : (dropCurrent s).params = s.params := rfl
@[simp] theorem dropCurrent_cmd : (dropCurrent s).cmd = s.cmd := rfl
@[simp] theorem dropCurrent_freeIndex : (dropCurrent s).freeIndex = s.freeIndex := rfl
@[simp] theorem dropCurrent_pending : (dropCurrent s).pending = s.pending := rfl
end dropCurrent

section flushPort
@[simp] theorem flushPort_ms : (flushPort s).ms = s.ms := rfl
@[simp] theorem flushPort_us : (flushPort s).us = s.us := rfl
@[simp] theorem flushPort_usPhase : (flushPort s).usPhase = s.usPhase := rfl
@[simp] theorem flushPort_resetHeld : (flushPort s).resetHeld = s.resetHeld := rfl
@[simp] theorem flushPort_channels : (flushPort s).channels = s.channels := rfl
@[simp] theorem flushPort_inf : (flushPort s).inf = s.inf := rfl
@[simp] theorem flushPort_ch : (flushPort s).ch = s.ch := rfl
@[simp] theorem flushPort_history : (flushPort s).history = s.history := rfl
@[simp] theorem flushPort_speed : (flushPort s).speed = s.speed := rfl
@[simp] theorem flushPort_stall : (flushPort s).stall = s.stall := rfl
@[simp] theorem flushPort_strips : (flushPort s).strips = s.strips := rfl
@[simp] theorem flushPort_nextTicket : (flushPort s).nextTicket = s.nextTicket := rfl
@[simp] theorem flushPort_lot : (flushPort s).lot = s.lot := rfl
@[simp] theorem flushPort_species : (flushPort s).species = s.species := rfl
@[simp] theorem flushPort_infeed : (flushPort s).infeed = s.infeed := rfl
@[simp] theorem flushPort_permitOpen : (flushPort s).permitOpen = s.permitOpen := rfl
@[simp] theorem flushPort_planQueue : (flushPort s).planQueue = s.planQueue := rfl
@[simp] theorem flushPort_engine : (flushPort s).engine = s.engine := rfl
@[simp] theorem flushPort_grades : (flushPort s).grades = s.grades := rfl
@[simp] theorem flushPort_weights : (flushPort s).weights = s.weights := rfl
@[simp] theorem flushPort_sawMap : (flushPort s).sawMap = s.sawMap := rfl
@[simp] theorem flushPort_tools : (flushPort s).tools = s.tools := rfl
@[simp] theorem flushPort_pendingChange : (flushPort s).pendingChange = s.pendingChange := rfl
@[simp] theorem flushPort_moulder : (flushPort s).moulder = s.moulder := rfl
@[simp] theorem flushPort_gapTimer : (flushPort s).gapTimer = s.gapTimer := rfl
@[simp] theorem flushPort_mismatch : (flushPort s).mismatch = s.mismatch := rfl
@[simp] theorem flushPort_head : (flushPort s).head = s.head := rfl
@[simp] theorem flushPort_lugs : (flushPort s).lugs = s.lugs := rfl
@[simp] theorem flushPort_holding : (flushPort s).holding = s.holding := rfl
@[simp] theorem flushPort_window : (flushPort s).window = s.window := rfl
@[simp] theorem flushPort_pitchRef : (flushPort s).pitchRef = s.pitchRef := rfl
@[simp] theorem flushPort_lastPitch : (flushPort s).lastPitch = s.lastPitch := rfl
@[simp] theorem flushPort_outs : (flushPort s).outs = s.outs := rfl
@[simp] theorem flushPort_pulses : (flushPort s).pulses = s.pulses := rfl
@[simp] theorem flushPort_lanes : (flushPort s).lanes = s.lanes := rfl
@[simp] theorem flushPort_nextBundle : (flushPort s).nextBundle = s.nextBundle := rfl
@[simp] theorem flushPort_labels : (flushPort s).labels = s.labels := rfl
@[simp] theorem flushPort_composing : (flushPort s).composing = s.composing := rfl
@[simp] theorem flushPort_composed : (flushPort s).composed = s.composed := rfl
@[simp] theorem flushPort_doubtLatch : (flushPort s).doubtLatch = s.doubtLatch := rfl
@[simp] theorem flushPort_stations : (flushPort s).stations = s.stations := rfl
@[simp] theorem flushPort_pollPointer : (flushPort s).pollPointer = s.pollPointer := rfl
@[simp] theorem flushPort_transaction : (flushPort s).transaction = s.transaction := rfl
@[simp] theorem flushPort_replyTimer : (flushPort s).replyTimer = s.replyTimer := rfl
@[simp] theorem flushPort_line : (flushPort s).line = s.line := rfl
@[simp] theorem flushPort_lastEscalation : (flushPort s).lastEscalation = s.lastEscalation := rfl
@[simp] theorem flushPort_events : (flushPort s).events = s.events := rfl
@[simp] theorem flushPort_escalation : (flushPort s).escalation = s.escalation := rfl
@[simp] theorem flushPort_params : (flushPort s).params = s.params := rfl
@[simp] theorem flushPort_cmd : (flushPort s).cmd = s.cmd := rfl
@[simp] theorem flushPort_freeIndex : (flushPort s).freeIndex = s.freeIndex := rfl
@[simp] theorem flushPort_pending : (flushPort s).pending = s.pending := rfl
end flushPort

section respond
variable (q c : Byte) (v : Status) (y : List Byte)
@[simp] theorem respond_ms : (respond q c v y s).ms = s.ms := rfl
@[simp] theorem respond_us : (respond q c v y s).us = s.us := rfl
@[simp] theorem respond_usPhase : (respond q c v y s).usPhase = s.usPhase := rfl
@[simp] theorem respond_resetHeld : (respond q c v y s).resetHeld = s.resetHeld := rfl
@[simp] theorem respond_channels : (respond q c v y s).channels = s.channels := rfl
@[simp] theorem respond_inf : (respond q c v y s).inf = s.inf := rfl
@[simp] theorem respond_ch : (respond q c v y s).ch = s.ch := rfl
@[simp] theorem respond_history : (respond q c v y s).history = s.history := rfl
@[simp] theorem respond_speed : (respond q c v y s).speed = s.speed := rfl
@[simp] theorem respond_stall : (respond q c v y s).stall = s.stall := rfl
@[simp] theorem respond_strips : (respond q c v y s).strips = s.strips := rfl
@[simp] theorem respond_nextTicket : (respond q c v y s).nextTicket = s.nextTicket := rfl
@[simp] theorem respond_lot : (respond q c v y s).lot = s.lot := rfl
@[simp] theorem respond_species : (respond q c v y s).species = s.species := rfl
@[simp] theorem respond_infeed : (respond q c v y s).infeed = s.infeed := rfl
@[simp] theorem respond_permitOpen : (respond q c v y s).permitOpen = s.permitOpen := rfl
@[simp] theorem respond_planQueue : (respond q c v y s).planQueue = s.planQueue := rfl
@[simp] theorem respond_engine : (respond q c v y s).engine = s.engine := rfl
@[simp] theorem respond_grades : (respond q c v y s).grades = s.grades := rfl
@[simp] theorem respond_weights : (respond q c v y s).weights = s.weights := rfl
@[simp] theorem respond_sawMap : (respond q c v y s).sawMap = s.sawMap := rfl
@[simp] theorem respond_tools : (respond q c v y s).tools = s.tools := rfl
@[simp] theorem respond_pendingChange : (respond q c v y s).pendingChange = s.pendingChange := rfl
@[simp] theorem respond_moulder : (respond q c v y s).moulder = s.moulder := rfl
@[simp] theorem respond_gapTimer : (respond q c v y s).gapTimer = s.gapTimer := rfl
@[simp] theorem respond_mismatch : (respond q c v y s).mismatch = s.mismatch := rfl
@[simp] theorem respond_head : (respond q c v y s).head = s.head := rfl
@[simp] theorem respond_lugs : (respond q c v y s).lugs = s.lugs := rfl
@[simp] theorem respond_holding : (respond q c v y s).holding = s.holding := rfl
@[simp] theorem respond_window : (respond q c v y s).window = s.window := rfl
@[simp] theorem respond_pitchRef : (respond q c v y s).pitchRef = s.pitchRef := rfl
@[simp] theorem respond_lastPitch : (respond q c v y s).lastPitch = s.lastPitch := rfl
@[simp] theorem respond_outs : (respond q c v y s).outs = s.outs := rfl
@[simp] theorem respond_pulses : (respond q c v y s).pulses = s.pulses := rfl
@[simp] theorem respond_lanes : (respond q c v y s).lanes = s.lanes := rfl
@[simp] theorem respond_nextBundle : (respond q c v y s).nextBundle = s.nextBundle := rfl
@[simp] theorem respond_labels : (respond q c v y s).labels = s.labels := rfl
@[simp] theorem respond_composing : (respond q c v y s).composing = s.composing := rfl
@[simp] theorem respond_composed : (respond q c v y s).composed = s.composed := rfl
@[simp] theorem respond_doubtLatch : (respond q c v y s).doubtLatch = s.doubtLatch := rfl
@[simp] theorem respond_port : (respond q c v y s).port = s.port := rfl
@[simp] theorem respond_stations : (respond q c v y s).stations = s.stations := rfl
@[simp] theorem respond_pollPointer : (respond q c v y s).pollPointer = s.pollPointer := rfl
@[simp] theorem respond_transaction : (respond q c v y s).transaction = s.transaction := rfl
@[simp] theorem respond_replyTimer : (respond q c v y s).replyTimer = s.replyTimer := rfl
@[simp] theorem respond_line : (respond q c v y s).line = s.line := rfl
@[simp] theorem respond_lastEscalation : (respond q c v y s).lastEscalation = s.lastEscalation := rfl
@[simp] theorem respond_events : (respond q c v y s).events = s.events := rfl
@[simp] theorem respond_escalation : (respond q c v y s).escalation = s.escalation := rfl
@[simp] theorem respond_params : (respond q c v y s).params = s.params := rfl
@[simp] theorem respond_freeIndex : (respond q c v y s).freeIndex = s.freeIndex := rfl
@[simp] theorem respond_pending : (respond q c v y s).pending = s.pending := rfl
end respond

section endTransfer
variable (r : List Byte) (n : Nat)
@[simp] theorem endTransfer_ms : (endTransfer r n s).ms = s.ms := rfl
@[simp] theorem endTransfer_us : (endTransfer r n s).us = s.us := rfl
@[simp] theorem endTransfer_usPhase : (endTransfer r n s).usPhase = s.usPhase := rfl
@[simp] theorem endTransfer_resetHeld : (endTransfer r n s).resetHeld = s.resetHeld := rfl
@[simp] theorem endTransfer_channels : (endTransfer r n s).channels = s.channels := rfl
@[simp] theorem endTransfer_inf : (endTransfer r n s).inf = s.inf := rfl
@[simp] theorem endTransfer_ch : (endTransfer r n s).ch = s.ch := rfl
@[simp] theorem endTransfer_history : (endTransfer r n s).history = s.history := rfl
@[simp] theorem endTransfer_speed : (endTransfer r n s).speed = s.speed := rfl
@[simp] theorem endTransfer_stall : (endTransfer r n s).stall = s.stall := rfl
@[simp] theorem endTransfer_strips : (endTransfer r n s).strips = s.strips := rfl
@[simp] theorem endTransfer_nextTicket : (endTransfer r n s).nextTicket = s.nextTicket := rfl
@[simp] theorem endTransfer_lot : (endTransfer r n s).lot = s.lot := rfl
@[simp] theorem endTransfer_species : (endTransfer r n s).species = s.species := rfl
@[simp] theorem endTransfer_infeed : (endTransfer r n s).infeed = s.infeed := rfl
@[simp] theorem endTransfer_permitOpen : (endTransfer r n s).permitOpen = s.permitOpen := rfl
@[simp] theorem endTransfer_planQueue : (endTransfer r n s).planQueue = s.planQueue := rfl
@[simp] theorem endTransfer_engine : (endTransfer r n s).engine = s.engine := rfl
@[simp] theorem endTransfer_grades : (endTransfer r n s).grades = s.grades := rfl
@[simp] theorem endTransfer_weights : (endTransfer r n s).weights = s.weights := rfl
@[simp] theorem endTransfer_sawMap : (endTransfer r n s).sawMap = s.sawMap := rfl
@[simp] theorem endTransfer_tools : (endTransfer r n s).tools = s.tools := rfl
@[simp] theorem endTransfer_pendingChange : (endTransfer r n s).pendingChange = s.pendingChange := rfl
@[simp] theorem endTransfer_moulder : (endTransfer r n s).moulder = s.moulder := rfl
@[simp] theorem endTransfer_gapTimer : (endTransfer r n s).gapTimer = s.gapTimer := rfl
@[simp] theorem endTransfer_mismatch : (endTransfer r n s).mismatch = s.mismatch := rfl
@[simp] theorem endTransfer_head : (endTransfer r n s).head = s.head := rfl
@[simp] theorem endTransfer_lugs : (endTransfer r n s).lugs = s.lugs := rfl
@[simp] theorem endTransfer_holding : (endTransfer r n s).holding = s.holding := rfl
@[simp] theorem endTransfer_window : (endTransfer r n s).window = s.window := rfl
@[simp] theorem endTransfer_pitchRef : (endTransfer r n s).pitchRef = s.pitchRef := rfl
@[simp] theorem endTransfer_lastPitch : (endTransfer r n s).lastPitch = s.lastPitch := rfl
@[simp] theorem endTransfer_outs : (endTransfer r n s).outs = s.outs := rfl
@[simp] theorem endTransfer_pulses : (endTransfer r n s).pulses = s.pulses := rfl
@[simp] theorem endTransfer_lanes : (endTransfer r n s).lanes = s.lanes := rfl
@[simp] theorem endTransfer_nextBundle : (endTransfer r n s).nextBundle = s.nextBundle := rfl
@[simp] theorem endTransfer_labels : (endTransfer r n s).labels = s.labels := rfl
@[simp] theorem endTransfer_composing : (endTransfer r n s).composing = s.composing := rfl
@[simp] theorem endTransfer_composed : (endTransfer r n s).composed = s.composed := rfl
@[simp] theorem endTransfer_doubtLatch : (endTransfer r n s).doubtLatch = s.doubtLatch := rfl
@[simp] theorem endTransfer_port : (endTransfer r n s).port = s.port := rfl
@[simp] theorem endTransfer_stations : (endTransfer r n s).stations = s.stations := rfl
@[simp] theorem endTransfer_pollPointer : (endTransfer r n s).pollPointer = s.pollPointer := rfl
@[simp] theorem endTransfer_transaction : (endTransfer r n s).transaction = s.transaction := rfl
@[simp] theorem endTransfer_replyTimer : (endTransfer r n s).replyTimer = s.replyTimer := rfl
@[simp] theorem endTransfer_line : (endTransfer r n s).line = s.line := rfl
@[simp] theorem endTransfer_lastEscalation : (endTransfer r n s).lastEscalation = s.lastEscalation := rfl
@[simp] theorem endTransfer_events : (endTransfer r n s).events = s.events := rfl
@[simp] theorem endTransfer_escalation : (endTransfer r n s).escalation = s.escalation := rfl
@[simp] theorem endTransfer_params : (endTransfer r n s).params = s.params := rfl
@[simp] theorem endTransfer_freeIndex : (endTransfer r n s).freeIndex = s.freeIndex := rfl
@[simp] theorem endTransfer_pending : (endTransfer r n s).pending = s.pending := rfl
end endTransfer

end Sys2Proof.Machine
end

