-- ==== Sys2Proof/Laws/Frames.lean ====
section
/-! SUPPORT. What the operations can touch: one frame lemma for each operation of Machine/, over the frames `RaiseFrame`
and `LineFrame` of Safety.lean. -/

namespace Sys2Proof.Machine

open Sys2Proof

set_option Elab.async false

/-! ### The two frames -/

variable {s t u : State}

theorem RaiseFrame.refl (s : State) : RaiseFrame s s := rfl

theorem RaiseFrame.trans (h : RaiseFrame s t) (g : RaiseFrame t u) : RaiseFrame s u := by
  unfold RaiseFrame at *
  rw [g, h]

/-- `trans` with the later part first, which fixes the state between. -/
theorem RaiseFrame.after (g : RaiseFrame t u) (h : RaiseFrame s t) : RaiseFrame s u := h.trans g

theorem RaiseFrame.foldl {α : Type} {f : State → α → State} (h : ∀ s a, RaiseFrame s (f s a)) (xs : List α) (s : State) :
    RaiseFrame s (xs.foldl f s) := by
  induction xs generalizing s with
  | nil => exact .refl s
  | cons a as ih => exact (h s a).trans (ih _)

theorem LineFrame.refl (s : State) : LineFrame s s := rfl

theorem LineFrame.trans (h : LineFrame s t) (g : LineFrame t u) : LineFrame s u := by
  unfold LineFrame at *
  rw [g, h]

/-- `trans` with the later part first, which fixes the state between. -/
theorem LineFrame.after (g : LineFrame t u) (h : LineFrame s t) : LineFrame s u := h.trans g

theorem LineFrame.foldl {α : Type} {f : State → α → State} (h : ∀ s a, LineFrame s (f s a)) (xs : List α) (s : State) :
    LineFrame s (xs.foldl f s) := by
  induction xs generalizing s with
  | nil => exact .refl s
  | cons a as ih => exact (h s a).trans (ih _)

theorem RaiseFrame.line (h : RaiseFrame s t) : LineFrame s t := by
  unfold LineFrame RaiseFrame at *
  rw [h]

/-! ### The plain updates -/

theorem updateOut_frame (o : Fin 24) (f : CountedOut → CountedOut) (s : State) : RaiseFrame s (updateOut o f s) := rfl

theorem stopPulses_frame (s : State) : RaiseFrame s (stopPulses s) := rfl

theorem releaseForced_frame (s : State) : RaiseFrame s (releaseForced s) := rfl

theorem updateStrip_frame (t : Nat) (f : Strip → Strip) (s : State) : LineFrame s (updateStrip t f s) := rfl

theorem freeSlot_frame (t : Nat) (s : State) : LineFrame s (freeSlot t s) := rfl

theorem leaveMoulder_frame (t : Nat) (s : State) : LineFrame s (leaveMoulder t s) := rfl

theorem clearLugsOf_frame (t : Nat) (s : State) : LineFrame s (clearLugsOf t s) := rfl

theorem withdrawPulses_frame (t : Nat) (s : State) : LineFrame s (withdrawPulses t s) := rfl

/-! ### Raising an event -/

theorem raiseQuiet_frame (k : EventKind) (s : State) : RaiseFrame s (raiseQuiet k s) := by
  unfold raiseQuiet
  dsimp only
  split <;> rfl

theorem markMissedCut_frame (p : Pulse) (s : State) : RaiseFrame s (markMissedCut p s) := rfl

theorem missPulse_frame {r : EventKind → State → State} (hr : ∀ k s, RaiseFrame s (r k s)) (o : Fin 24) (p : Pulse)
    (s : State) : RaiseFrame s (missPulse r o p s) := by
  unfold missPulse
  split
  · exact (markMissedCut_frame p s).trans (hr _ _)
  · exact hr _ _

theorem stopActive_frame (o : Fin 24) (c : CountedOut) (s : State) : RaiseFrame s (stopActive o c s) := by
  unfold stopActive
  split
  · rfl
  · split
    · split <;> rfl
    · exact missPulse_frame raiseQuiet_frame o _ s

theorem stopOut_frame (s : State) (o : Fin 24) : RaiseFrame s (stopOut s o) := by
  have h : RaiseFrame s (stopActive o s.outs[o] (updateOut o idleOut s)) :=
    RaiseFrame.after (stopActive_frame _ _ _) rfl
  unfold stopOut
  dsimp only
  split
  · exact h
  · exact h.trans (missPulse_frame raiseQuiet_frame o _ _)

theorem enterLine_frame (after : LineState) (s : State) : RaiseFrame s (enterLine after s) := by
  have h : RaiseFrame s (stopPulses ((indices 24).foldl stopOut { s with line := after })) :=
    RaiseFrame.after (stopPulses_frame _) (RaiseFrame.after (RaiseFrame.foldl stopOut_frame _ _) rfl)
  unfold enterLine
  dsimp only
  split <;> split
  · exact RaiseFrame.after (releaseForced_frame _) h
  · rfl
  · exact h
  · rfl

theorem raise_frame (k : EventKind) (s : State) : RaiseFrame s (raise k s) := by
  unfold raise
  dsimp only
  split
  · rfl
  · exact RaiseFrame.after (enterLine_frame _ _) rfl

theorem raise_line (k : EventKind) (s : State) : LineFrame s (raise k s) := (raise_frame k s).line

/-! ### Records, bundles, labels, the port -/

theorem evalPermit_frame (s : State) : LineFrame s (evalPermit s) := by
  unfold evalPermit
  split
  · rfl
  · split <;> rfl

theorem doubtMeasuring_frame (s : State) : LineFrame s (doubtMeasuring s) := by
  unfold doubtMeasuring
  split <;> rfl

theorem dropPlan_frame (t : Nat) (s : State) : LineFrame s (dropPlan t s) := by
  unfold dropPlan
  split <;> rfl

theorem leaveInfeed_frame (t : Nat) (s : State) : LineFrame s (leaveInfeed t s) := by
  unfold leaveInfeed
  split
  · exact LineFrame.after (evalPermit_frame _) rfl
  · rfl

theorem leaveHolding_frame (t : Nat) (s : State) : LineFrame s (leaveHolding t s) := by
  unfold leaveHolding
  split <;> rfl

theorem retireCore_frame (t : Nat) (s : State) : LineFrame s (retireCore t s) := by
  refine LineFrame.after (withdrawPulses_frame _ _) (LineFrame.after (clearLugsOf_frame _ _) ?_)
  refine LineFrame.after (leaveHolding_frame _ _) (LineFrame.after (leaveMoulder_frame _ _) ?_)
  exact LineFrame.after (leaveInfeed_frame _ _) (LineFrame.after (freeSlot_frame _ _) (dropPlan_frame _ _))

theorem openBundle_frame (l : Fin 8) (s : State) : LineFrame s (openBundle l s) := rfl

theorem retireBundle_frame (l : Fin 8) (s : State) : LineFrame s (retireBundle l s) := by
  unfold retireBundle
  dsimp only
  split <;> rfl

theorem bundleTest_frame (l : Fin 8) (s : State) : LineFrame s (bundleTest l s) := by
  unfold bundleTest
  split
  · split
    · exact retireBundle_frame l s
    · rfl
  · rfl

theorem handLabelDone_frame (l : Fin 8) (s : State) : LineFrame s (handLabelDone l s) :=
  LineFrame.after (bundleTest_frame _ _) rfl

theorem setCleared_frame (l : Fin 8) (s : State) : LineFrame s (setCleared l s) :=
  LineFrame.after (bundleTest_frame _ _) rfl

theorem strobeTest_frame (s : State) : LineFrame s (strobeTest s) := by
  unfold strobeTest
  split
  · split <;> rfl
  · rfl

theorem startHandshake_frame (s : State) : LineFrame s (startHandshake s) := by
  unfold startHandshake
  split
  · exact LineFrame.after (strobeTest_frame _) rfl
  · rfl

theorem fillOne_frame (s : State) : LineFrame s (fillOne s) := by
  unfold fillOne
  split
  · split <;> rfl
  · rfl

theorem fillFifo_frame (n : Nat) (s : State) : LineFrame s (fillFifo n s) := by
  induction n generalizing s with
  | zero => rfl
  | succ n ih => exact (fillOne_frame s).trans (ih _)

theorem compose_frame (s : State) : LineFrame s (compose s) := (fillFifo_frame _ s).trans (startHandshake_frame _)

theorem composerTest_frame (s : State) : LineFrame s (composerTest s) := by
  unfold composerTest
  split
  · split
    · rfl
    · exact LineFrame.after (compose_frame _) rfl
  · rfl

theorem queueLabel_frame (l : Fin 8) (b : Bundle) (s : State) : LineFrame s (queueLabel l b s) :=
  LineFrame.after (composerTest_frame _) rfl

theorem labelPrinted_frame (l : Fin 8) (s : State) : LineFrame s (labelPrinted l s) :=
  LineFrame.after ((handLabelDone_frame l _).trans (composerTest_frame _)) rfl

theorem completeByte_frame (s : State) : LineFrame s (completeByte s) := by
  unfold completeByte
  split
  · rfl
  · dsimp only
    refine LineFrame.trans ?_ (startHandshake_frame _)
    split
    · split
      · exact LineFrame.after (raise_line _ _) rfl
      · rfl
    · split
      · split
        · exact LineFrame.after (labelPrinted_frame _ _) rfl
        · exact LineFrame.after (fillOne_frame _) rfl
      · rfl
    · rfl

theorem busyEdge_frame (high : Bool) (s : State) : LineFrame s (busyEdge high s) := by
  unfold busyEdge
  split
  · rfl
  · split <;> rfl
  · rfl
  · exact completeByte_frame s
  · exact strobeTest_frame s
  · rfl

theorem endStrobe_frame (s : State) : LineFrame s (endStrobe s) := by
  unfold endStrobe
  dsimp only
  split
  · exact LineFrame.after (completeByte_frame _) rfl
  · split <;> rfl

theorem faultAsserted_frame (s : State) : LineFrame s (faultAsserted s) := by
  unfold faultAsserted
  refine LineFrame.trans ?_ (raise_line _ _)
  split <;> rfl

theorem faultCleared_frame (s : State) : LineFrame s (faultCleared s) := by
  unfold faultCleared
  refine LineFrame.trans ?_ (strobeTest_frame _)
  split <;> rfl

theorem endTry_frame (s : State) : LineFrame s (endTry s) := by
  unfold endTry
  split
  · exact LineFrame.after (composerTest_frame _) rfl
  · split
    · exact LineFrame.after (composerTest_frame _) rfl
    · exact LineFrame.after (composerTest_frame _) (LineFrame.after (raise_line _ _) rfl)

theorem portTimeout_frame (s : State) : LineFrame s (portTimeout s) := by
  have h : LineFrame s (raise .portTimeout (flushPort s)) := LineFrame.after (raise_line _ _) rfl
  unfold portTimeout
  dsimp only
  split
  · exact h.trans (endTry_frame _)
  · exact h

/-! ### Lanes and drop watch -/

theorem closeBundle_frame (l : Fin 8) (why : CloseReason) (s : State) : LineFrame s (closeBundle l why s) := by
  unfold closeBundle
  dsimp only
  have h : LineFrame s (raise .bundleClosed (updateLane l (fun r => { r with state := .closed })
      (updateBundle l (fun b => { b with closeReason := some why }) s))) := LineFrame.after (raise_line _ _) rfl
  split
  · exact h.trans (queueLabel_frame _ _ _)
  · exact h

theorem markDoubtful_frame (l : Fin 8) (n : Nat) (s : State) : LineFrame s (markDoubtful l n s) := by
  unfold markDoubtful
  split
  · split
    · dsimp only
      split <;> rfl
    · rfl
  · rfl

theorem expireWatch_frame (l : Fin 8) (s : State) : LineFrame s (expireWatch l s) := by
  unfold expireWatch
  split
  · rfl
  · dsimp only
    split
    · exact LineFrame.after (markDoubtful_frame _ _ _) (LineFrame.after (raise_line _ _) rfl)
    · exact LineFrame.after (raise_line _ _) rfl

theorem expireWatches_frame (l : Fin 8) (n : Nat) (s : State) : LineFrame s (expireWatches l n s) := by
  induction n generalizing s with
  | zero => rfl
  | succ n ih =>
    unfold expireWatches
    split
    · exact (expireWatch_frame l s).trans (ih _)
    · rfl

theorem appendWatch_frame (l : Fin 8) (w : Watch) (s : State) : LineFrame s (appendWatch l w s) := by
  unfold appendWatch
  dsimp only
  split
  · exact (expireWatch_frame l s).trans rfl
  · rfl

theorem countStrip_frame (l : Fin 8) (r : Strip) (s : State) : LineFrame s (countStrip l r s) := by
  unfold countStrip
  split <;> rfl

theorem closureTest_frame (l : Fin 8) (s : State) : LineFrame s (closureTest l s) := by
  unfold closureTest
  split
  · rfl
  · split
    · exact closeBundle_frame _ _ _
    · split
      · exact closeBundle_frame _ _ _
      · rfl

theorem commitStrip_frame (l : Fin 8) (r : Strip) (s : State) : LineFrame s (commitStrip l r s) := by
  have h := ((countStrip_frame l r s).trans (retireCore_frame r.ticket _)).trans
    (appendWatch_frame l (commitWatch l (retireCore r.ticket (countStrip l r s))) _)
  unfold commitStrip
  dsimp only
  split
  · exact h.trans (closureTest_frame _ _)
  · exact h

/-! ### Actuators -/

theorem takePoint_frame (o : Fin 24) (k : Point) (s : State) : LineFrame s (takePoint o k s) := by
  unfold takePoint
  dsimp only
  split
  · split
    · rfl
    · unfold pusherSetPoint
      split
      · exact LineFrame.after (commitStrip_frame _ _ _) rfl
      · exact LineFrame.after (updateOut_frame _ _ _).line (LineFrame.after (raise_line _ _) rfl)
  · split
    · rfl
    · unfold pusherMerge
      split
      · exact LineFrame.after (commitStrip_frame _ _ _) rfl
      · exact LineFrame.after (raise_line _ _) rfl
  · split <;> rfl
  · rfl

theorem settle_frame (order : List (Fin 24)) (atCount : Bool) (n : Nat) (s : State) :
    LineFrame s (settle order atCount n s) := by
  induction n generalizing s with
  | zero => rfl
  | succ n ih =>
    unfold settle
    split
    · rfl
    · exact (takePoint_frame _ _ s).trans (ih _)

theorem settleSets_frame (s : State) : LineFrame s (settleSets s) := settle_frame _ _ _ s

theorem settleCount_frame (order : List (Fin 24)) (s : State) : LineFrame s (settleCount order s) := settle_frame _ _ _ s

theorem retire_frame (t : Nat) (why : RetireReason) (s : State) : LineFrame s (retire t why s) := by
  have h := (retireCore_frame t s).trans (settleSets_frame _)
  unfold retire
  dsimp only
  split
  · exact h
  · exact h.trans (raise_line _ _)

theorem missPulse_line (o : Fin 24) (p : Pulse) (s : State) : LineFrame s (missPulse raise o p s) :=
  (missPulse_frame raise_frame o p s).line

theorem arm_frame (o : Fin 24) (j : Fin 40) (t : Nat) (c0 : Pos) (s : State) : LineFrame s (arm o j t c0 s) := by
  unfold arm
  dsimp only
  split
  · exact missPulse_line _ _ _
  · split
    · rfl
    · split
      · refine LineFrame.trans ?_ (settleSets_frame _)
        split
        · exact LineFrame.after (raise_line _ _) rfl
        · rfl
      · split
        · refine LineFrame.trans ?_ (missPulse_line _ _ _)
          split
          · exact raise_line _ _
          · rfl
        · refine LineFrame.trans ?_ (settleSets_frame _)
          split
          · exact LineFrame.after (raise_line _ _) rfl
          · rfl

theorem reverseOut_frame (s : State) (o : Fin 24) : LineFrame s (reverseOut s o) := by
  unfold reverseOut
  dsimp only
  split
  · split <;> rfl
  · rfl

theorem turnToReverse_frame (s : State) : LineFrame s (turnToReverse s) := LineFrame.foldl reverseOut_frame _ _

/-! ### Plans, the gate, tool sets -/

theorem startEvaluation_frame (s : State) : LineFrame s (startEvaluation s) := by
  unfold startEvaluation
  split
  · split <;> rfl
  · rfl

theorem finishEvaluation_frame (s : State) : LineFrame s (finishEvaluation s) := by
  unfold finishEvaluation
  split
  · rfl
  · dsimp only
    split <;> rfl

theorem withdrawReport_frame (s : State) (t : Nat) : LineFrame s (withdrawReport s t) := by
  unfold withdrawReport
  dsimp only
  split <;> rfl

theorem takeReport_frame (a : Fin 4) (t n : Nat) (ds : List Defect) (s : State) : LineFrame s (takeReport a t n ds s) := by
  unfold takeReport
  dsimp only
  split <;> rfl

theorem storeManual_frame (t : Nat) (v : ManualGrade) (s : State) : LineFrame s (storeManual t v s) := rfl

theorem classifyTool_frame (m : Fin 4) (before : ToolState) (s : State) : LineFrame s (classifyTool m before s) := by
  unfold classifyTool
  dsimp only
  split
  · rfl
  · split
    · exact LineFrame.after (raise_line _ _) rfl
    · exact LineFrame.after (raise_line _ _) rfl
    · rfl

theorem addWear_frame (m : Fin 4) (length : Option Nat) (s : State) : LineFrame s (addWear m length s) := by
  unfold addWear
  split
  · rfl
  · exact LineFrame.after (classifyTool_frame _ _ _) rfl

theorem releaseHead_frame (m : Fin 4) (r : Strip) (s : State) : LineFrame s (releaseHead m r s) := by
  unfold releaseHead
  dsimp only
  exact LineFrame.after (addWear_frame _ _ _) (LineFrame.after (evalPermit_frame _) rfl)

theorem releaseTest_frame (s : State) : LineFrame s (releaseTest s) := by
  unfold releaseTest
  split
  · exact releaseHead_frame _ _ s
  · split
    · exact LineFrame.after (raise_line _ _) rfl
    · rfl
  · rfl

theorem unmount_frame (s : State) : LineFrame s (unmount s) := by
  unfold unmount
  split <;> rfl

theorem completeChange_frame (m : Fin 4) (s : State) : LineFrame s (completeChange m s) := by
  unfold completeChange
  dsimp only
  refine LineFrame.trans ?_ (releaseTest_frame _)
  exact ((unmount_frame s).trans (classifyTool_frame _ _ _)).trans (LineFrame.after (raise_line _ _) rfl)

theorem drainTest_frame (s : State) : LineFrame s (drainTest s) := by
  unfold drainTest
  split
  · rfl
  · split
    · exact completeChange_frame _ _
    · rfl

theorem transitTest_frame (n : Nat) (s : State) : LineFrame s (transitTest n s) := by
  induction n generalizing s with
  | zero => rfl
  | succ n ih =>
    unfold transitTest
    split
    · rfl
    · exact (((retire_frame _ _ s).trans (releaseTest_frame _)).trans (drainTest_frame _)).trans (ih _)

theorem displaceHolding_frame (s : State) : LineFrame s (displaceHolding s) := by
  unfold displaceHolding
  split
  · rfl
  · exact retire_frame _ _ _

theorem pe3Edge_frame (s : State) : LineFrame s (pe3Edge s) := by
  unfold pe3Edge
  split
  · exact raise_line _ _
  · rename_i e rest h
    dsimp only
    refine LineFrame.trans ?_ (drainTest_frame _)
    refine LineFrame.trans ?_ (releaseTest_frame _)
    refine LineFrame.after (updateStrip_frame _ _ _) (LineFrame.after (updateStrip_frame _ _ _) ?_)
    exact LineFrame.trans (t := displaceHolding { s with moulder := rest }) (LineFrame.after (displaceHolding_frame _) rfl) rfl

theorem withdrawReports_frame (a : Fin 4) (s : State) : LineFrame s (withdrawReports a s) :=
  (LineFrame.foldl withdrawReport_frame _ _).trans (releaseTest_frame _)

/-! ### The infeed queue and the chain -/

theorem joinInfeed_frame (stage : Stage) (add : Strip → Strip) (s : State) : LineFrame s (joinInfeed stage add s) := by
  unfold joinInfeed
  dsimp only
  exact LineFrame.after (evalPermit_frame _) rfl

theorem overrun_frame (s : State) : LineFrame s (overrun s) := by
  unfold overrun
  refine LineFrame.trans ?_ (raise_line _ _)
  split <;> rfl

theorem pe1Leading_frame (c : Pos) (s : State) : LineFrame s (pe1Leading c s) := by
  unfold pe1Leading
  split
  · exact joinInfeed_frame _ _ s
  · exact overrun_frame s

theorem joinIfReported_frame (t : Nat) (s : State) : LineFrame s (joinIfReported t s) := by
  unfold joinIfReported
  split <;> rfl

theorem pe1Trailing_frame (c : Pos) (s : State) : LineFrame s (pe1Trailing c s) := by
  unfold pe1Trailing
  split
  · rfl
  · exact LineFrame.after (joinIfReported_frame _ _) rfl

theorem arriveStrip_frame (r : Strip) (s : State) : LineFrame s (arriveStrip r s) := by
  unfold arriveStrip
  dsimp only
  split
  · rfl
  · split <;> rfl

theorem phantomGate_frame (s : State) : LineFrame s (phantomGate s) := by
  unfold phantomGate
  dsimp only
  split
  · exact (raise_line _ s).trans (joinInfeed_frame _ _ _)
  · exact raise_line _ s

theorem pe2Arrival_frame (s : State) : LineFrame s (pe2Arrival s) := by
  unfold pe2Arrival
  refine LineFrame.trans ?_ (releaseTest_frame _)
  split
  · exact arriveStrip_frame _ _
  · exact phantomGate_frame _

theorem pitchCheck_frame (c0 : Pos) (s : State) : LineFrame s (pitchCheck c0 s) := by
  unfold pitchCheck
  split
  · rfl
  · dsimp only
    split
    · exact LineFrame.after (raise_line _ _) rfl
    · rfl

theorem carryOver_frame (s : State) : LineFrame s (carryOver s) := by
  unfold carryOver
  split
  · rfl
  · exact retire_frame _ _ _

theorem loadPoint_frame (s : State) : LineFrame s (loadPoint s) := by
  unfold loadPoint
  split
  · rfl
  · unfold phantomLug
    dsimp only
    exact LineFrame.trans (raise_line .phantomLug s) rfl
  · unfold countWindow
    dsimp only
    split
    · exact LineFrame.after (retire_frame _ _ _) rfl
    · rfl
  · rfl

theorem presenceCheck_frame (s : State) : LineFrame s (presenceCheck s) := by
  unfold presenceCheck
  split
  · exact retire_frame _ _ _
  · exact raise_line _ _
  · rfl

theorem sawArming_frame (c0 : Pos) (s : State) : LineFrame s (sawArming c0 s) := by
  unfold sawArming
  dsimp only
  split
  · split
    · exact arm_frame _ _ _ _ _
    · rfl
  · rfl

theorem present_frame (c0 : Pos) (o : Nat) (s : State) : LineFrame s (present c0 o s) := by
  unfold present
  dsimp only
  split
  · rfl
  · split
    · rfl
    · split
      · exact arm_frame _ _ _ _ _
      · rfl

theorem advancePiece_frame (c0 : Pos) (s : State) (k : Fin 9) : LineFrame s (advancePiece c0 s k) := by
  unfold advancePiece
  dsimp only
  split
  · exact sawArming_frame _ _
  · split
    · exact present_frame _ _ _
    · rfl

/-! ### Line control -/

theorem changeLine_frame (after : LineState) (s : State) : LineFrame s (changeLine after s) :=
  (enterLine_frame after s).line.trans (releaseTest_frame _)

theorem clearTracking_frame (s : State) : LineFrame s (clearTracking s) := by
  unfold clearTracking
  dsimp only
  exact LineFrame.after (LineFrame.after (evalPermit_frame _) rfl) rfl

/-! ### A count of CH -/

/-- What leaves the sensing state alone changes no encoder. -/
theorem LineFrame.exceptCh (h : LineFrame s t) : LineFrame { s with ch := t.ch } t := by
  unfold LineFrame at *
  rw [h]

/-- A piece of a count of CH changes nothing of the sensing state but the encoder CH. -/
theorem chPiece_frame (d : Direction) (turns : Bool) (outputs : List (Fin 24)) (s : State) (k : Fin 3) :
    LineFrame { s with ch := (chPiece d turns outputs s k).ch } (chPiece d turns outputs s k) := by
  match k with
  | 0 => exact (settleCount_frame outputs s).exceptCh
  | 1 =>
    refine LineFrame.exceptCh ?_
    simp only [chPiece]
    split
    · exact turnToReverse_frame s
    · rfl
  | 2 =>
    simp only [chPiece, chReverseEvent]
    split
    · exact LineFrame.exceptCh (s := { s with ch := { s.ch with reverseReported := true } }) (raise_frame _ _).line
    · rfl

/-- Pieces of a count of CH, in any order, change nothing of the sensing state but the encoder CH. -/
theorem chPieces_frame (d : Direction) (turns : Bool) (outputs : List (Fin 24)) (order : List (Fin 3)) (s : State) :
    LineFrame { s with ch := (order.foldl (chPiece d turns outputs) s).ch } (order.foldl (chPiece d turns outputs) s) := by
  induction order generalizing s with
  | nil => rfl
  | cons k rest ih =>
    have h := chPiece_frame d turns outputs s k
    have g := ih (chPiece d turns outputs s k)
    simp only [List.foldl_cons]
    unfold LineFrame at *
    rw [g, h]

/-- A count of CH changes, of the sensing state, the encoder CH and the speed monitor alone. -/
theorem chCount_frame (a b : Bool) (d : Direction) (order : CountOrder) (s : State) : CountFrame s (chCount a b d order s) := by
  have h := chPieces_frame d (s.ch.direction == .forward && d == .reverse) order.outputs (fullOrder 3 order.pieces)
    (speedCount d { s with ch := countEncoder a b d s.ch })
  change LineFrame _ (chCount a b d order s) at h
  unfold CountFrame LineFrame at *
  cases d <;> rw [h] <;> rfl

theorem encoderCount_ch_frame (a b : Bool) (order : CountOrder) (s : State) : CountFrame s (encoderCount .ch a b order s) := by
  unfold encoderCount
  dsimp only
  split
  · rfl
  · exact chCount_frame _ _ _ _ _

/-! ### An advance and the counts that fall into it -/

theorem CountFrame.trans (h : CountFrame s t) (g : CountFrame t u) : CountFrame s u := by
  unfold CountFrame LineFrame at *
  rw [g, h]

theorem LineFrame.count (h : LineFrame s t) : CountFrame s t := by
  unfold CountFrame LineFrame at *
  rw [h]

theorem advancePart_frame (c0 : Pos) (s : State) (p : AdvancePart) : CountFrame s (advancePart c0 s p) := by
  cases p with
  | piece k => exact (advancePiece_frame c0 s k).count
  | count a b order => exact encoderCount_ch_frame a b order s

theorem advanceParts_frame (c0 : Pos) (parts : List AdvancePart) (s : State) :
    CountFrame s (parts.foldl (advancePart c0) s) := by
  induction parts generalizing s with
  | nil => rfl
  | cons p rest ih => exact (advancePart_frame c0 s p).trans (ih _)

theorem advancePieces_frame (c0 : Pos) (parts : List AdvancePart) (s : State) (h : ∀ p ∈ parts, ∃ k, p = .piece k) :
    LineFrame s (parts.foldl (advancePart c0) s) := by
  induction parts generalizing s with
  | nil => rfl
  | cons p rest ih =>
    obtain ⟨k, rfl⟩ := h p (by simp)
    exact (advancePiece_frame c0 s k).trans (ih _ fun q hq => h q (by simp [hq]))

/-- Every part the order of an advance holds is one that its operand names or a piece. -/
theorem mem_fullParts {given : List AdvancePart} {p : AdvancePart} :
    p ∈ fullParts given ↔ p ∈ given ∨ ∃ k, p = .piece k := by
  have hi : ∀ k : Fin 9, k ∈ indices 9 := by decide
  by_cases hp : p ∈ given
  · simp [fullParts, hp]
  · simp only [fullParts, List.mem_append, List.mem_eraseDups, hp, false_or, List.mem_filter, List.mem_map]
    constructor
    · rintro ⟨⟨k, -, rfl⟩, -⟩
      exact ⟨k, rfl⟩
    · rintro ⟨k, rfl⟩
      exact ⟨⟨k, hi k, rfl⟩, by simpa using hp⟩

/-- The steps of an advance before its pieces change nothing of the sensing state. -/
theorem advanceSteps_frame (c0 : Pos) (s : State) :
    LineFrame s (presenceCheck (loadPoint (carryOver (pitchCheck c0 { s with head := s.head + 1 })))) := by
  refine LineFrame.trans ?_ (presenceCheck_frame _)
  refine LineFrame.trans ?_ (loadPoint_frame _)
  refine LineFrame.trans ?_ (carryOver_frame _)
  exact LineFrame.after (pitchCheck_frame _ _) rfl

theorem advance_frame (c0 : Pos) (parts : List AdvancePart) (s : State) : CountFrame s (advance c0 parts s) :=
  (advanceSteps_frame c0 s).count.trans (advanceParts_frame c0 _ _)

/-- An advance into which no count falls changes nothing of the sensing state. -/
theorem advance_frame_of_pieces (c0 : Pos) (parts : List AdvancePart) (s : State) (h : ∀ p ∈ parts, ∃ k, p = .piece k) :
    LineFrame s (advance c0 parts s) :=
  (advanceSteps_frame c0 s).trans (advancePieces_frame c0 _ _ fun p hp => (mem_fullParts.1 hp).elim (h p) id)

theorem retreat_frame (s : State) : LineFrame s (retreat s) :=
  LineFrame.after (carryOver_frame _) rfl

theorem deliverEdge_frame (parts : List AdvancePart) (i : Fin 6) (k : EdgeKind) (s : State) :
    CountFrame s (deliverEdge parts i k s) := by
  unfold deliverEdge
  split
  · exact (pe1Leading_frame _ _).count
  · exact (pe1Trailing_frame _ _).count
  · exact (pe2Arrival_frame _).count
  · exact (pe3Edge_frame _).count
  · unfold lugEdge
    split
    · exact advance_frame _ _ _
    · exact (retreat_frame _).count
  · rfl

/-- An edge into whose work no count of CH falls changes nothing of the sensing state. -/
theorem deliverEdge_frame_of_pieces (parts : List AdvancePart) (i : Fin 6) (k : EdgeKind) (s : State)
    (h : ∀ p ∈ parts, ∃ k, p = .piece k) : LineFrame s (deliverEdge parts i k s) := by
  unfold deliverEdge
  split
  · exact pe1Leading_frame _ _
  · exact pe1Trailing_frame _ _
  · exact pe2Arrival_frame _
  · exact pe3Edge_frame _
  · unfold lugEdge
    split
    · exact advance_frame_of_pieces _ _ _ h
    · exact retreat_frame _
  · rfl

end Sys2Proof.Machine
end

