-- ==== Sys2Proof/Laws/Link.lean ====
section
/-! SUPPORT. What the reception of a reply can do, said once, and the outputs while RESET is held (R173, R176, R192). -/

namespace Sys2Proof.Machine

open Sys2Proof

/-! ### Characters of a frame (R173) -/

@[simp] theorem sent_length (frame : List Byte) : (sent frame).length = frame.length := List.length_map ..

@[simp] theorem sent_bytes (frame : List Byte) : (sent frame).map (·.byte) = frame := by
  simp [sent, List.map_map, Function.comp_def]

@[simp] theorem sent_framing (frame : List Byte) : (sent frame).any (·.framing) = false := by
  simp [sent]

@[simp] theorem readReply_nil (polled : Fin 4) : readReply polled [] = .incomplete := rfl

/-! ### What reception can do (R175, R176) -/

/-- Outside a reply window characters are discarded. -/
theorem receive_closed {s : State} (h : ∀ a carried got, s.transaction ≠ .waiting a carried got) (cs : List Character) :
    receive cs s = s := by
  unfold receive
  split
  · next heq => exact absurd heq (h _ _ _)
  · rfl

/-- After a reply found bad, and after a good one, characters are discarded. -/
theorem receive_decided {s : State} {a : Fin 4} {carried : Bool} {got : List Character}
    (hw : s.transaction = .waiting a carried got) (hr : readReply a got ≠ .incomplete) (cs : List Character) :
    receive cs s = s := by
  simp [receive, hw, hr]

/-- A reply that becomes good is served, and the next poll is begun. -/
theorem receive_good {s : State} {a : Fin 4} {carried : Bool} {got cs : List Character} {body : ReplyBody}
    (hw : s.transaction = .waiting a carried got) (hr : readReply a got = .incomplete)
    (hg : readReply a (got ++ cs) = .good body) :
    receive cs s = beginPoll (serveReply body a (endTransaction a carried s)) := by
  simp [receive, hw, hr, hg]

/-- A reply that is bad, or still incomplete, is kept as received; nothing else changes. -/
theorem receive_collects {s : State} {a : Fin 4} {carried : Bool} {got cs : List Character}
    (hw : s.transaction = .waiting a carried got) (hr : readReply a got = .incomplete)
    (hg : ∀ body, readReply a (got ++ cs) ≠ .good body) :
    receive cs s = { s with transaction := .waiting a carried (got ++ cs) } := by
  simp only [receive, hw, hr, if_true]

/-- A reply that arrives as it was sent delivers the characters of its frame. -/
@[simp] theorem takeReply_sent (addr : Byte) (body : ReplyBody) (s : State) :
    takeReply { addr := addr, wire := none } body s = receive (sent (replyFrame addr body)) s := rfl

/-- A reply that arrives otherwise delivers the characters that stand in its place. -/
@[simp] theorem takeReply_wire (addr : Byte) (cs : List Character) (body : ReplyBody) (s : State) :
    takeReply { addr := addr, wire := some cs } body s = receive cs s := rfl

/-! ### Outputs while RESET is held (R192, R204, R173) -/

@[simp] theorem ltx_held {s : State} (h : s.resetHeld = true) : ltx s = .idle := by simp [ltx, h]

@[simp] theorem pstb_held {s : State} (h : s.resetHeld = true) : pstb s = false := by simp [pstb, h]

@[simp] theorem pd_held {s : State} (h : s.resetHeld = true) : pd s = 0 := by simp [pd, h]

@[simp] theorem ptag_held {s : State} (h : s.resetHeld = true) : ptag s = false := by simp [ptag, h]

@[simp] theorem misoBytes_held {s : State} (h : s.resetHeld = true) (n : Nat) : misoBytes n s = none := by
  simp [misoBytes, h]

end Sys2Proof.Machine
end

