-- ==== Sys2Proof/WellFormed.lean ====
section
/-! DEFINITION. Which terms are commands of their row (log 20). The operands' types hold the widths; what is left is that a
bad frame is one, and that an unknown request is of no known kind. -/

namespace Sys2Proof

open Sys2Proof.Machine

/-- The term is a command of its row: BAD_FRAME brings at least one byte and fails a check of R202, UNKNOWN_REQUEST is of
none of the six kinds of R178, and a SCAN_REPORT's or an unknown request's bytes fit a reply (R212). -/
def Instr.wellFormed : Instr → Bool
  | .badFrame mosi => !mosi.isEmpty && (frameFault (rxOf mosi)).isSome
  | .unknownRequest _ kind args =>
    !(decide (1 ≤ kind.toNat) && decide (kind.toNat ≤ 6)) && decide (args.length ≤ replyArgsMax)
  | .scanReport _ args => decide (args.length ≤ replyArgsMax)
  | .sampleTick _ _ | .jamTimerExpiry _ | .encoderCount _ _ _ _ | .speedStallTimeout | .timePulseExpiry _
  | .gapTimerExpiry | .moulderTransitExpiry | .evaluationStart | .evaluationCompletion | .dropWatchExpiry _ | .strobeEnd
  | .pbusyChange _ | .pfaultChange _ | .handshakeTimeout | .pollSent | .idleReply _ | .replyTimerExpiry | .queryAt _
  | .queryTicket _ _ | .gradeOverride _ _ _ | .dropSeen _ _ | .bundleCleared _ _ | .transactionBegin
  | .emptyTransaction _ | .resetAssert | .powerOnReset | .nop _ | .lineStart _ | .lineHold _ | .lineStop _
  | .faultAck _ | .softReset _ | .trackClear _ | .setParam _ _ _ | .getParam _ _ | .setGrade _ _ _ _ _ _
  | .getGrade _ _ | .setWeights _ _ | .setSawMap _ _ _ | .setLane _ _ _ _ _ _ _ _ _ _ _ _ | .getLane _ _
  | .setFilter _ _ _ _ _ | .setLot _ _ _ | .setStation _ _ _ _ | .clearGlitch _ _ | .readStrip _ _ | .listQueue _ _
  | .readLug _ _ | .regrade _ _ _ | .purge _ _ | .ejectHead _ | .setTool _ _ _ _ _ _ | .readTool _ _
  | .changeTools _ _ | .cancelChange _ | .resetWear _ _ | .readBundle _ _ | .forceClose _ _ | .laneEnable _ _ _
  | .confirmClear _ _ | .readLabel _ _ | .labelRetry _ _ | .labelDiscard _ _ | .portMode _ _ | .portWrite _ _ _
  | .portStatus _ | .readEvents _ | .clearEvents _ _ _ | .setEventRoute _ _ _ _ _ | .setEscalation _ _
  | .setOutputs _ _ _ | .readIo _ | .stationEnable _ _ _ | .readStation _ _ => true

end Sys2Proof
end

