-- ==== Sys2Proof/Tests/Slice0.lean ====
section
/-! SUPPORT. Tests: the well-formedness smoke tests, the spec's worked examples, one step of some commands, and for each
statement that has hypotheses a state and operands that meet them, each clause at a boundary of its range. -/

namespace Sys2Proof.Machine

open Sys2Proof

set_option Elab.async false

/-! ### Well-formedness: the check refuses an ill-formed term, and takes a well-formed one -/

theorem test_wf_badFrame_empty : (Instr.badFrame []).wellFormed = false := by decide +kernel

theorem test_wf_badFrame_good_frame : (Instr.badFrame (commandFrame 7 0x01 [])).wellFormed = false := by decide +kernel

theorem test_wf_badFrame : (Instr.badFrame [2, 0, 0]).wellFormed = true := by decide +kernel

theorem test_wf_unknownRequest_known_kind : (Instr.unknownRequest ⟨⟨1, none⟩, 0⟩ 6 []).wellFormed = false := by decide +kernel

theorem test_wf_unknownRequest_too_long :
    (Instr.unknownRequest ⟨⟨1, none⟩, 0⟩ 7 (List.replicate 149 0)).wellFormed = false := by decide +kernel

theorem test_wf_unknownRequest : (Instr.unknownRequest ⟨⟨1, none⟩, 0⟩ 7 (List.replicate 148 0)).wellFormed = true := by decide +kernel

theorem test_wf_scanReport_too_long : (Instr.scanReport ⟨⟨1, none⟩, 0⟩ (List.replicate 149 0)).wellFormed = false := by decide +kernel

/-! ### Frames -/

/-- The check values of the two CRCs on the nine characters 1 to 9 (R210 and R212 give the parameters). -/
theorem test_crc_check_values :
    crc8 [0x31, 0x32, 0x33, 0x34, 0x35, 0x36, 0x37, 0x38, 0x39] = 0xF4 ∧
    crc16 [0x31, 0x32, 0x33, 0x34, 0x35, 0x36, 0x37, 0x38, 0x39] = 0x29B1 := by decide +kernel

/-- PENDING after power-on reset is the frame of RESET_DONE, SEQ 0, code NOP, cause POWER_ON (R204, R211). -/
theorem test_reset_response : State.reset.cmd.response = responseFrame 0 0x00 .resetDone [0] := by decide +kernel

/-- The parameters of the codes' order are those of the table: each default lies in its range. -/
theorem test_reset_params :
    ∀ p : Fin 33, paramLow (paramList[p]) ≤ State.reset.params[p] ∧
      State.reset.params[p] ≤ paramHigh State.reset (paramList[p]) := by decide +kernel

/-! ### Filters (01 section 1.2, the worked sequences) -/

/-- A channel with THRESHOLD 3. -/
def bounceChannel (mode : FilterMode) : Channel := { resetChannel false with mode := mode, threshold := 3 }

/-- COUNTER, LEVEL and GLITCH after each tick of a sequence of raw lines. -/
def bounce : Channel → List Bool → List (Nat × Level × Bool)
  | _, [] => []
  | c, r :: rest =>
    let d := stepChannel r c
    (d.counter, d.level, d.glitch) :: bounce d rest

theorem test_bounce_delayed :
    bounce (bounceChannel .delayed) [true, false, true, true, true, true] =
      [(1, .clear, false), (0, .clear, true), (1, .clear, true), (2, .clear, true), (0, .blocked, true),
       (0, .blocked, true)] := by decide +kernel

theorem test_bounce_immediate :
    bounce (bounceChannel .immediate) [true, false, true, true, true] =
      [(1, .blocked, false), (2, .blocked, true), (3, .blocked, true), (0, .blocked, true), (0, .blocked, true)] := by
  decide +kernel

/-! ### Speed and lead (01, worked examples) -/

/-- A state with a speed and the default parameters. -/
def atSpeed (v : Nat) : State := { State.reset with speed := v }

theorem test_leads :
    ([4000, 4100, 3047, 53333].map fun v => (leadOf (atSpeed v) 0, leadOf (atSpeed v) 16)) =
      [(140, 80), (144, 82), (107, 61), (800, 800)] := by decide +kernel

theorem test_points_of_a_saw :
    (buildPulse 3 20 50 800000 (atSpeed 4000)).setAt = 800460 ∧
    (buildPulse 3 20 50 800000 (atSpeed 4000)).clearAt = 801160 := by decide +kernel

/-! ### Lengths and the position lookup (R29, R33) -/

/-- A record in MEASURING with a leading capture. -/
def measured (lead : Pos) : Strip := { freshStrip 17 412 3 .measuring with leadPos := some lead }

theorem test_lengths :
    ([(100000, 110960), (16776000, 8784), (200000, 281920), (50000, 50000)].map fun p : Pos × Pos =>
      let r := completeLength 20000 p.2 (measured p.1)
      (r.length, r.doubt)) =
      [(some 548, false), (some 500, false), (some 4095, true), (some 0, false)] := by decide +kernel

/-- Ticket 17 in the infeed queue, at an INF POSITION and a stage. -/
def queried (position : Pos) (stage : Stage) : State :=
  { State.reset with
    inf := { State.reset.inf with position := position }, infeed := [17],
    strips := [{ measured 100000 with stage := stage, length := if stage = .infeed then some 548 else none }] }

theorem test_query_at :
    ([(107990, Stage.measuring), (108000, .measuring), (115000, .infeed), (118960, .infeed)].map
      fun p : Pos × Stage => (lookup (queried p.1 p.2) 400).map fun r => (r.ticket, frontOf (queried p.1 p.2) r)) =
      [none, some (17, 400), some (17, 750), none] := by decide +kernel

/-! ### The plan of ticket 17 (03 section 3.4) -/

/-- A row of the worked case. -/
def row (density : Nat) (sizes : Vector Nat 8) (price : Nat) : GradeRow :=
  { enabled := true, maxDensity := density, maxSize := sizes, price := price }

/-- The grade rule table of the worked case. -/
def workedGrades : Vector GradeRow 6 :=
  #v[row 20 #v[5, 0, 0, 0, 0, 0, 0, 30] 20, row 150 #v[15, 0, 0, 0, 20, 0, 0, 255] 14,
     row 400 #v[30, 10, 0, 0, 60, 0, 10, 255] 6, row 2000 #v[255, 255, 40, 20, 255, 255, 255, 255] 3,
     resetGradeRow, resetGradeRow]

/-- The saw map of the worked case. -/
def workedMap : List Nat := [260, 310, 360, 410, 460, 510, 560, 610]

/-- The input copy of the worked case, on a path. -/
def worked (path : PlanPath) (manual : Option ManualGrade) : Evaluation :=
  { current := 17, path := path, discard := false, length := some 548, doubt := false, manualGrade := manual,
    defects := [⟨.soundKnot, 120, 138, 12⟩, ⟨.split, 495, 530, 35⟩, ⟨.stain, 300, 340, 40⟩],
    weights := State.reset.weights, fenceTrim := 10, farMargin := 5, endZone := 20, minKept := 250, startUs := 0 }

theorem test_computed_plan :
    planResult (worked .computed none) workedGrades workedMap =
      { saw := some 0, kept := 250, computedGrade := some (.grade 1), disposition := .graded 1 } := by decide +kernel

/-- The variant: rows 2 to 4 disabled. -/
theorem test_trim_out_plan :
    planResult (worked .computed none)
      #v[workedGrades[0], resetGradeRow, resetGradeRow, resetGradeRow, resetGradeRow, resetGradeRow] workedMap =
      { saw := none, kept := 0, computedGrade := some .reject, disposition := .trimOut } := by decide +kernel

theorem test_manual_plan :
    planResult (worked .manual (some (.grade 2))) workedGrades workedMap =
      { saw := some 4, kept := 450, computedGrade := none, disposition := .graded 2 } := by decide +kernel

theorem test_default_plans :
    defaultPlan workedMap 10 5 250 (some 600) none =
      { saw := some 6, kept := 550, computedGrade := none, disposition := .hold } ∧
    defaultPlan workedMap 10 5 250 (some 548) none =
      { saw := some 5, kept := 500, computedGrade := none, disposition := .hold } := by decide +kernel

/-! ### A label's stream (08 section 8.2) -/

/-- The label of bundle 117. -/
def label117 : Label :=
  { lane := 2, number := 117, lot := 412, species := 3, grade := 1, width := 70, count := 5, coverage := 126,
    lengths := [(250, 2), (400, 1), (450, 2)], doubtful := false, closeReason := .target, state := .queued, tries := 0 }

theorem test_stream_length : (streamOf label117 false).length = 58 := by decide +kernel

/-- COVERAGE 00000.126: RUN 5, 0, full stop, 1, 2, 6. -/
theorem test_stream_coverage :
    ((streamOf label117 false).drop 26).take 7 =
      [commandEntry 0x17, commandEntry 0x45, dataEntry 0x30, dataEntry 0x2E, dataEntry 0x31, dataEntry 0x32,
       dataEntry 0x36] := by decide +kernel

/-! ### Lanes, wear, the link and the port: rows of the worked sequences -/

/-- The state a command leads to; the state after reset for a fault or a refusal. -/
def after : Host.Outcome State Fault Refusal → State
  | .next s => s
  | _ => State.reset

/-- A state with a transaction in progress: the Command Port takes the next frame. -/
def site : State := { State.reset with cmd := { State.reset.cmd with active := true, ssLow := true } }

/-- A host command's transaction. -/
def xfer : Xfer := { seq := 9, pad := 0 }

/-- Bundle 117 before strip E (07, the worked sequence under a mix limit). -/
def bundle117 : Bundle :=
  { number := 117, grade := 1, lot := some 412, species := some 3, width := some 70, count := 4, coverage := 94500,
    short := 35000, histogram := #v[2, 0, 0, 1, 1, 0, 0, 0, 0, 0, 0, 0, 0, 0, 0, 0], targetCopy := 1100, mixCopy := 40,
    shortCopy := 300, doubtful := false, closeReason := none, labelDone := false, cleared := false }

/-- Lane 2 of the sequence. -/
def lane2 : Lane :=
  { resetLane with kind := .bundle, enabled := true, dropOffset := 14, grade := 1, minK := 250, maxK := 600,
                   alternate := some 5, target := 1100, maxStrips := 40, shortMm := 300, mixPct := 40,
                   state := .opened, bundle := some bundle117 }

/-- Lanes 5 and 6 of the sequence. -/
def lane5 : Lane :=
  { lane2 with dropOffset := 20, alternate := none,
               bundle := some { bundle117 with number := 118, mixCopy := 100, shortCopy := 0 } }

def lane6 : Lane := { resetLane with kind := .holdBin, enabled := true, dropOffset := 26, state := .opened }

/-- A strip GRADED 2 of lot 412, 70 mm wide, on lug 20. -/
def onLug (t kept : Nat) (saw : Fin 16) : Strip :=
  { freshStrip t 412 3 .onLug with
    plan := .done .computed, saw := some saw, kept := some kept, computedGrade := some (.grade 1),
    disposition := some (.graded 1), width := some 70, lug := some 20, thickness := some 4, length := some 548,
    defects := some [], reportFrom := some 0, toolSet := some 0, wornAtRelease := some false }

/-- The state of the sequence. -/
def lanesState : State :=
  { site with lanes := ((site.lanes.set 2 lane2).set 5 lane5).set 6 lane6, sawMap := workedMap,
              strips := [onLug 50 250 0, onLug 51 450 4],
              lugs := site.lugs.set 20 { ticket := some 50, sawDone := false } }

/-- Strip E is refused by lane 2's mix test and goes to its alternate, lane 5; strip F passes. -/
theorem test_mix :
    laneAccepts lane2 (onLug 50 250 0) = false ∧ intendedLane 14 (onLug 50 250 0) lanesState = some 5 ∧
    intendedLane 20 (onLug 50 250 0) lanesState = some 5 ∧ laneAccepts lane2 (onLug 51 450 4) = true ∧
    laneAccepts { lane2 with bundle := some { bundle117 with count := 1, coverage := 31500, short := 0 } }
      (onLug 50 250 0) = true ∧
    laneAccepts { lane2 with bundle := some { bundle117 with count := 0, coverage := 0, short := 0, lot := none } }
      (onLug 50 250 0) = false := by decide +kernel

/-- Strip F closes bundle 117 with TARGET, and its label is queued. -/
theorem test_commit_closes :
    let s := commitStrip 2 (onLug 51 450 4) lanesState
    (s.lanes[2].state, s.lanes[2].bundle.map fun b => (b.count, b.coverage, b.short, b.closeReason)) =
      (.closed, some (5, 126000, 35000, some .target)) ∧
    s.labels.map (fun b => (b.lane, b.coverage, b.lengths)) = [(2, 126, [(250, 2), (400, 1), (450, 2)])] := by
  decide +kernel

/-- A tool set as in the worked sequence of 04. -/
def tool0 : Tool :=
  { configured := true, profile := 4, width := 70, life := 1200, warnPct := 90, used := 1079700, state := .mounted }

theorem test_wear :
    let s := addWear 0 (some 548) { site with tools := site.tools.set 0 tool0 }
    s.tools[0].used = 1080248 ∧ s.tools[0].state = .worn ∧ s.events[eventIdx .toolWorn].flag = true := by decide +kernel

/-- The scanner of the worked sequence of 09, its reply window open. -/
def scannerState : State :=
  { queried 108000 .measuring with
    stations := State.reset.stations.set 0
      { resetStation with stationPos := 400, state := .online, lastReqId := some 6 },
    transaction := .waiting 0 false [], replyTimer := some 10, pollPointer := 1 }

/-- Step 1: QUERY_AT is answered FOUND 17, MEASURING, 400, and the next poll carries the answer. -/
theorem test_queryAt_step :
    let s := after (exec (.queryAt ⟨⟨1, none⟩, 7⟩) scannerState)
    s.stations[0].pendingAnswer = some ⟨1, 7, .found, [0, 17, 0, 0, 1, 144]⟩ ∧ s.stations[0].lastReqId = some 7 ∧
    (match s.transaction with
      | .sending 0 115200 frame true false =>
        frame.take 12 == [13, 1, 1, 1, 7, 0, 0, 17, 0, 0, 1, 144] && frame.length == 14 && crc16 frame == 0
      | _ => false) = true := by decide +kernel

/-- Two labels, the first being sent, at step 5 of the worked sequence of 08. -/
def portState : State :=
  { site with
    labels := [{ label117 with state := .printing }, { label117 with lane := 5, number := 118 }], composing := some 2,
    composed := 58, params := (site.params.set (paramIdx .labelRetries) 1),
    port := { resetPort true false with
      mode := .stream, fifo := (streamOf label117 false).drop 26, handshake := .doneWait, ackSeen := true,
      timer := some 180 } }

/-- Steps 6 and 7: PFAULT stops the timer, and its clearing starts it again in full. -/
theorem test_pfault :
    let s := after (exec (.pfaultChange true) portState)
    s.port.timer = none ∧ s.port.held = true ∧ s.events[eventIdx .printerFault].flag = true ∧
    (after (exec (.pfaultChange false) s)).port.timer = some 250 := by decide +kernel

/-- Steps 8 and 9: the timeout gives the try back, and the composer takes the label up again. -/
theorem test_timeout :
    let s := after (exec .handshakeTimeout { portState with port := { portState.port with timer := some 0 } })
    s.labels.map (fun b => (b.state, b.tries)) = [(.printing, 1), (.queued, 0)] ∧ s.composing = some 2 ∧
    s.composed = 32 ∧ s.port.fifo.length = 32 ∧ s.port.handshake = .readyWait ∧
    s.events[eventIdx .portTimeout].flag = true := by decide +kernel

/-! ### One step of some commands -/

/-- The response in PENDING after a command: its status and payload. -/
def answerOf (s : State) : List Byte := (s.cmd.response.drop 4).dropLast

theorem test_lineStart :
    let s := after (exec (.lineStart xfer) site)
    s.line = .running ∧ s.cmd.response = responseFrame 9 0x01 .ok [] := by decide +kernel

/-- A value above the range of INFEED_HIGH_MARK is clamped to 16 and answered OK_CLAMPED with code and value (R207). -/
theorem test_setParam_clamps :
    answerOf (after (exec (.setParam xfer 2 17) site)) = [1, 2, 0, 0, 0, 16] := by decide +kernel

theorem test_setParam_unknown_code : answerOf (after (exec (.setParam xfer 34 0) site)) = [4] := by decide +kernel

theorem test_badFrame_length :
    (after (exec (.badFrame [2, 5, 1]) site)).cmd.response = responseFrame 5 1 .badFrame [] := by decide +kernel

theorem test_laneEnable_wrongState : answerOf (after (exec (.laneEnable xfer 0 0) site)) = [6] := by decide +kernel

theorem test_portMode : (after (exec (.portMode xfer 1) site)).port.mode = .direct := by decide +kernel

theorem test_stationEnable_begins_poll :
    (after (exec (.stationEnable xfer 3 0) site)).transaction = .sending 2 115200 (pollFrame 2 none) false false := by
  decide +kernel

theorem test_setOutputs_forces :
    let s := after (exec (.setOutputs xfer 1 [0, 0]) site)
    outLevel s 0 = true ∧ outLevel s 1 = false := by decide +kernel

/-- A quarter of the forward sequence counts up. -/
theorem test_encoder_counts :
    (after (exec (.encoderCount .ch true false ⟨[], []⟩) site)).ch.position = 1 ∧
    (after (exec (.encoderCount .ch false true ⟨[], []⟩) site)).ch.position = 0xFFFFFF ∧
    (after (exec (.encoderCount .ch true true ⟨[], []⟩) site)).ch.position = 0 := by decide +kernel

/-- A count's operand can put the reverse event before the points and those before the notice (R12, log 5); pieces it does
not name follow. -/
theorem test_orders_of_a_count : fullOrder 3 [2, 0, 1] = [2, 0, 1] ∧ fullOrder 3 [2] = [2, 0, 1] ∧ fullOrder 3 [1, 2] = [1, 2, 0] := by
  decide +kernel

/-- A thousandth microsecond moves the millisecond clock. -/
theorem test_tick :
    (after (step { State.reset with usPhase := 999 })).ms = 1 ∧
    (after (step { State.reset with usPhase := 998 })).ms = 0 := by decide +kernel

/-! ### States and operands that meet the hypotheses of the statements -/

theorem site_listens : site.Listens := ⟨rfl, rfl⟩

theorem test_meets_StepRunsTheFrontCommand :
    { site with pending := [.pollSent, .strobeEnd] }.pending = .pollSent :: [.strobeEnd] := rfl

/-- In STOPPED and RUNNING, at both sides of a move of the millisecond clock; an evaluation at 199 and at 200 µs with a
ticket waiting, and a drop watch entry at and past 800 ms. -/
theorem test_meets_IdleStepIsAMicrosecond :
    site.pending = [] ∧ site.resetHeld = false ∧ { site with resetHeld := true }.resetHeld = true ∧
    ¬ 999 ≤ { site with usPhase := 998 }.usPhase ∧ 999 ≤ { site with usPhase := 999 }.usPhase ∧
    ¬ (site.line = .running ∨ site.line = .hold) ∧ { site with line := .running }.line = .running ∧
    { site with engine := some (worked .computed none) }.engine = some (worked .computed none) ∧
    200 ≤ ((200 : Clock) - (worked .computed none).startUs).toNat ∧
    ¬ 200 ≤ ((199 : Clock) - (worked .computed none).startUs).toNat ∧ { site with planQueue := [17] }.planQueue ≠ [] ∧
    getPar site .dropConfirmMs < ((801 : Clock) - 0).toNat ∧ ¬ getPar site .dropConfirmMs < ((800 : Clock) - 0).toNat := by
  decide +kernel

/-- A thousandth microsecond in RUNNING takes a millisecond from a pulse that is ON, from REPLY_TIMER and from a jam timer,
and adds one to AGE; in STOPPED the pulse and AGE stand (R9, R77, R119). -/
theorem test_timers_run_down :
    (let timed : State := { site with
       usPhase := 999, replyTimer := some 2, moulder := [⟨17, 5⟩],
       pulses := site.pulses.set 0 { on := true, msLeft := 2, forced := false },
       channels := site.channels.set 5 { site.channels[5] with jam := some ⟨3000, .timing 2⟩ } }
     let read (s : State) := (s.pulses[0].msLeft, s.replyTimer, s.moulder, s.channels[5].jam.map (·.state))
     read (after (step { timed with line := .running })) = (1, some 1, [⟨17, 6⟩], some (.timing 1)) ∧
     read (after (step timed)) = (2, some 1, [⟨17, 5⟩], some (.timing 1))) := by decide +kernel

/-- The next evaluation starts in the microsecond in which one completes (R47, R48). -/
theorem test_evaluations_follow_each_other :
    (after (step { State.reset with us := 199, planQueue := [17], engine := some (worked .computed none) })).pending =
      [.evaluationCompletion, .evaluationStart] ∧
    (after (step { State.reset with us := 198, planQueue := [17], engine := some (worked .computed none) })).pending = [] := by
  decide +kernel

theorem test_meets_HeldResetSilencesThePart :
    { site with resetHeld := true }.resetHeld = true ∧ Instr.resetAssert ≠ .powerOnReset := by decide +kernel

theorem test_meets_TransactionsAndBadFrames :
    State.reset.resetHeld = false ∧ State.reset.cmd.ssLow = false ∧ State.reset.cmd.active = false ∧
    site.Listens ∧ frameFault (rxOf [2]) = some .badFrame ∧
    frameFault (rxOf (commandFrame 1 0x01 [])) = none ∧ site.cmd.ssLow = true := by
  refine ⟨rfl, rfl, rfl, site_listens, ?_, ?_, rfl⟩ <;> decide +kernel

/-- MISO shifts out the seven bytes of RESET_DONE and then 0; with SS high, and with RESET held, it is not driven (R201,
R204). -/
theorem test_miso :
    (misoBytes 9 site).map (fun out => (out.length, out.drop 7)) = some (9, [0, 0]) ∧
    misoBytes 9 State.reset = none ∧ misoBytes 9 { site with resetHeld := true } = none := by decide +kernel

/-- A strobe asserted as RESET is taken is deasserted while it is held (R192). -/
theorem test_pstb_held :
    let s : State := { site with port := { site.port with pstb := true, pd := 0x41 } }
    (pstb s, pd s) = (true, 0x41) ∧ (pstb { s with resetHeld := true }, pd { s with resetHeld := true }) = (false, 0) := by
  decide +kernel

theorem test_meets_FramesPassTheirChecks :
    (List.replicate 33 (0 : Byte)).length ≤ 33 ∧ knownCode 0x07 = false ∧ knownCode 0x15 = true ∧
    argsAgree 0x15 [16] = false ∧ argsAgree 0x15 (16 :: List.replicate 32 0) = true := by decide +kernel

/-- Replies whose characters are good; LENGTH 3, 4, 154 and 155; a framing error in the frame
and after it; an address that is not the one polled. -/
theorem test_meets_FramesPassTheirChecks_replies :
    readReply 0 (sent (replyFrame 1 .idle)) = .good .idle ∧
    readReply 3 (sent (replyFrame 4 (.request 9 (.scanReport [1, 2, 3]))) ++ [⟨0, true⟩]) =
      .good (.request 9 (.scanReport [1, 2, 3])) ∧
    (3 : Byte).toNat < 4 ∧ 154 < (155 : Byte).toNat ∧ readReply 0 [⟨4, false⟩, ⟨1, false⟩] = .incomplete ∧
    readReply 0 [⟨154, false⟩] = .incomplete ∧ readReply 0 [⟨3, false⟩] = .bad ∧ readReply 0 [⟨155, false⟩] = .bad ∧
    readReply 0 [⟨4, false⟩, ⟨1, true⟩] = .bad ∧ readReply 0 [⟨4, false⟩, ⟨2, false⟩] = .bad := by decide +kernel

theorem test_meets_FramesPassTheirChecks_sendable :
    (ReplyBody.request 9 (.scanReport (List.replicate 148 0))).Sendable ∧
    (ReplyBody.request 9 (.unknown 7 [])).Sendable ∧ ReplyBody.idle.Sendable := by
  refine ⟨by simp [ReplyBody.Sendable], ⟨by decide, .inr (by decide)⟩, trivial⟩

/-- Each mode at THRESHOLD 1 or 0, a differing sample one short of the threshold, COUNTER 0, 1 and THRESHOLD. -/
theorem test_meets_FilterSteps :
    (bounceChannel .bypass).mode = .bypass ∧ { bounceChannel .delayed with threshold := 0 }.threshold = 0 ∧
    1 ≤ (bounceChannel .delayed).threshold ∧ levelOf true ≠ (bounceChannel .delayed).level ∧
    { bounceChannel .delayed with counter := 2 }.counter + 1 = 3 ∧
    { bounceChannel .delayed with counter := 1 }.counter + 1 ≠ 3 ∧ levelOf false = (bounceChannel .delayed).level ∧
    0 < { bounceChannel .delayed with counter := 1 }.counter ∧
    { bounceChannel .immediate with counter := 3 }.counter = (bounceChannel .immediate).threshold ∧
    { bounceChannel .immediate with counter := 2 }.counter < (bounceChannel .immediate).threshold := by decide +kernel

/-- The channels in BYPASS, at a level. -/
def open6 (v : Level) : State :=
  let at_v (c : Channel) : Channel := { c with mode := .bypass, level := v, sample := v, prevSample := v }
  { site with channels := mapTable at_v site.channels }

/-- For every channel, a tick that changes it alone, to BLOCKED and to CLEAR. -/
theorem test_meets_AnEdgeReachesItsConsumer :
    ∀ i : Fin 6, fullOrder 6 ((indices 6).filter (· != i) ++ [i]) = (indices 6).filter (· != i) ++ [i] ∧
      (∀ j : Fin 6, edgeOf (open6 .clear).channels[j].level
        (tickChannel ((1#6 <<< i.val).getLsbD j.val) (open6 .clear).channels[j]).level =
          if j = i then some .leading else none) ∧
      (∀ j : Fin 6, edgeOf (open6 .blocked).channels[j].level
        (tickChannel ((~~~(1#6 <<< i.val)).getLsbD j.val) (open6 .blocked).channels[j]).level =
          if j = i then some .trailing else none) ∧
      (tickChannel ((1#6 <<< i.val).getLsbD 0) (open6 .clear).channels[0]).glitch = (open6 .clear).channels[0].glitch ∧
      (tickChannel ((~~~(1#6 <<< i.val)).getLsbD 0) (open6 .blocked).channels[0]).glitch =
        (open6 .blocked).channels[0].glitch := by decide +kernel

/-- A tick that sets SI0's GLITCH and changes no LEVEL, with ticket 17 in MEASURING. -/
theorem test_meets_AnEdgeReachesItsConsumer_glitch :
    let s : State := { queried 0 .measuring with
      channels := (open6 .clear).channels.set 0 { bounceChannel .delayed with counter := 1 } }
    (∀ j : Fin 6, edgeOf s.channels[j].level (tickChannel ((0#6).getLsbD j.val) s.channels[j]).level = none) ∧
    s.channels[0].glitch = false ∧ (tickChannel ((0#6).getLsbD 0) s.channels[0]).glitch = true ∧
    measuringTicket s = some 17 := by decide +kernel

theorem test_meets_JamMonitor :
    (∀ i : Fin 6, i ≠ 4 → ∃ k, jamEvent i = some k) ∧ site.channels[5].jam = some ⟨3000, .clear⟩ ∧
    ({ site with channels := site.channels.set 5 { site.channels[5] with jam := some ⟨3000, .timing 0⟩ } }).channels[5].jam
      = some ⟨3000, .timing 0⟩ ∧ JamState.timing 1 ≠ .timing 0 := by
  refine ⟨fun i h => ?_, ?_, ?_, ?_⟩
  · fin_cases i <;> first | exact ⟨_, rfl⟩ | exact absurd rfl h
  all_goals decide +kernel

/-- The pair reads 0, 0: its forward, reverse and other changes; EXCURSION at and one below the limit of 400. -/
theorem test_meets_EncodersCount :
    (true, false) = (!site.inf.pairB, site.inf.pairA) ∧ (false, true) = (site.inf.pairB, !site.inf.pairA) ∧
    (true, true) ≠ (!site.inf.pairB, site.inf.pairA) ∧ (true, true) ≠ (site.inf.pairB, !site.inf.pairA) ∧
    getPar site .infeedReverseLimit < min 8388607 (400 + 1) ∧
    ¬ getPar site .infeedReverseLimit < min 8388607 (399 + 1) ∧
    getPar site .chainReverseLimit < min 8388607 (400 + 1) ∧ site.ch.reverseReported = false := by decide +kernel

theorem test_meets_ChainCounts :
    (List.replicate 65 (0 : Clock)).length ≤ 65 ∧ site.ch.direction = .forward ∧
    (true, false) = (!site.ch.pairB, site.ch.pairA) ∧ (false, true) = (site.ch.pairB, !site.ch.pairA) ∧
    { site with stall := some 0 }.stall = some 0 ∧ { site with stall := some 1 }.stall ≠ some 0 := by decide +kernel

/-- The pieces beside a count that turns the chain, before and after it. -/
theorem test_meets_ChainCounts_advance :
    site.ch.direction = .forward ∧ (false, true) = (site.ch.pairB, !site.ch.pairA) ∧
    (∀ p ∈ [AdvancePart.piece 0] ++ [.piece 8], ∃ k, p = .piece k) ∧ ([] : List AdvancePart) = [] := by
  refine ⟨rfl, by decide, ?_, rfl⟩
  simp

/-- NEXT_TICKET at both ends of its range, 65,535 being held by a live record. -/
theorem test_meets_TicketsAreFresh :
    (∀ r : Strip, (id r).ticket = r.ticket) ∧ 1 ≤ site.nextTicket ∧
    { site with nextTicket := 65535 }.nextTicket ≤ 65535 ∧ [freshStrip 65535 0 0 .infeed].length < 65535 ∧
    ([freshStrip 65535 0 0 .infeed].map (·.ticket)).Nodup := by
  refine ⟨fun _ => rfl, ?_, ?_, ?_, ?_⟩ <;> decide +kernel

/-- Ticket 17 in INFEED with station 1's report, its plan PENDING. -/
def trackedState : State :=
  { site with
    infeed := [17], planQueue := [17], nextTicket := 18,
    strips := [{ measured 100000 with stage := .infeed, length := some 548, defects := some [], thickness := some 4,
                                      reportFrom := some 0, plan := .pending }] }

/-- A site whose infeed queue holds `n` tickets. -/
def queued (n : Nat) : State := { site with infeed := List.range n }

theorem test_meets_PermitLatch :
    getPar site .infeedLowMark < getPar site .infeedHighMark ∧
    getPar (queued 14) .infeedHighMark ≤ (queued 14).infeed.length ∧
    (queued 10).infeed.length ≤ getPar (queued 10) .infeedLowMark ∧
    getPar (queued 11) .infeedLowMark < (queued 11).infeed.length ∧
    (queued 13).infeed.length < getPar (queued 13) .infeedHighMark := by decide +kernel

theorem test_meets_Pe1EdgesMeasure :
    (queued 15).infeed.length < 16 ∧ 16 ≤ (queued 16).infeed.length ∧
    measuringTicket (queried 0 .measuring) = some 17 ∧
    findStrip 17 (queried 0 .measuring) = some (measured 100000) ∧ (measured 100000).leadPos = some 100000 ∧
    measuringTicket site = none := by decide +kernel

/-- The rows of an arrival: a record in INFEED and in MEASURING, each with a report and without; none unarrived, with 15
and with 16 records. -/
theorem test_meets_ArrivalsAtTheGate :
    (∀ st : Fin 2, ∀ rep : Fin 2,
      let r : Strip := { measured 0 with stage := if st = 0 then .infeed else .measuring,
                                         reportFrom := if rep = 0 then none else some 0 }
      let s : State := { site with infeed := [17], strips := [r] }
      (infeedStrips s).find? unarrived = some r ∧ findStrip r.ticket s = some r) ∧
    (infeedStrips (queued 15)).find? unarrived = none ∧ (queued 15).infeed.length < 16 ∧
    (infeedStrips (queued 16)).find? unarrived = none ∧ 16 ≤ (queued 16).infeed.length := by decide +kernel

theorem test_meets_EveryPlannedCutIsSound :
    (planResult (worked .computed none) workedGrades workedMap).saw = some 0 ∧
    (planResult (worked .computed none) workedGrades workedMap).disposition = .graded 1 ∧
    (planResult (worked .computed none) workedGrades []).saw = none := by decide +kernel

/-- Candidates that all have value 0, and candidates of which one has a value. -/
theorem test_meets_GradesAndChoiceOfStagesDToG :
    (let e := worked .computed none
     let cs := passing e.endZone e.defects (candidates workedMap e.fenceTrim e.farMargin e.minKept e.length)
     cs.length = 5 ∧ (∀ c ∈ cs, (valueOf e (Vector.replicate 6 resetGradeRow) c).value = 0) ∧
     ∃ c ∈ cs, (valueOf e workedGrades c).value ≠ 0) := by decide +kernel

/-- Ticket 17 waiting for its plan, and being evaluated, with DISCARD clear and set. -/
theorem test_meets_EvaluationsRun :
    (let s : State := { site with planQueue := [17], strips := [measured 0] }
     s.resetHeld = false ∧ s.engine = none ∧ s.planQueue = 17 :: [] ∧ findStrip 17 s = some (measured 0)) ∧
    site.planQueue = [] ∧ { site with engine := some (worked .computed none) }.engine = some (worked .computed none) ∧
    (worked .computed none).discard = false ∧ { worked .computed none with discard := true }.discard = true := by
  decide +kernel

/-- The rows of R43: no record; past INFEED; a report held; too short; a bad count, length or entry; a good report. -/
theorem test_meets_ReportsAreChecked :
    findStrip 17 site = none ∧ findStrip 50 lanesState = some (onLug 50 250 0) ∧ (onLug 50 250 0).stage ≠ .measuring ∧
    (onLug 50 250 0).stage ≠ .infeed ∧ { measured 0 with reportFrom := some 0 }.reportFrom.isSome ∧
    findStrip 17 (queried 0 .infeed) = some { measured 100000 with stage := .infeed, length := some 548 } ∧ (measured 0).reportFrom = none ∧
    [(15 : Byte)].length < 2 ∧ 15 < (16 : Byte).toNat ∧ 24 < (25 : Byte).toNat ∧ (15 : Byte).toNat ≤ 15 ∧
    (24 : Byte).toNat ≤ 24 ∧ [(0 : Byte), 0, 0, 0, 0].length ≠ 6 * (1 : Byte).toNat ∧
    defectsOf 1 [7, 15, 255, 15, 255, 255] = some [⟨.colourStreak, 4095, 4095, 255⟩] ∧
    defectsOf 1 [8, 0, 0, 0, 0, 1] = none ∧ defectsOf 1 [0, 0, 0, 0, 0, 0] = none ∧ defectsOf 0 [] = some [] := by
  decide +kernel

/-- REGRADE: a value outside its eight, no record, a record with PLAN DONE with and without a missed cut, and one
without. -/
theorem test_meets_ManualGradesAreStored :
    site.Listens ∧ manualGradeOf 9 = none ∧ manualGradeOf 0 = none ∧ manualGradeOf 8 = some .reject ∧
    manualGradeOf 1 = some (.grade 0) ∧ findStrip (17#16).toNat site = none ∧
    findStrip (50#16).toNat lanesState = some (onLug 50 250 0) ∧ (onLug 50 250 0).plan = .done .computed ∧
    (onLug 50 250 0).missedCut = false ∧ { onLug 50 250 0 with missedCut := true }.missedCut = true ∧
    (∀ k : Fin 2, (measured 0).plan ≠ .done (if k = 0 then .default else .computed)) := by
  refine ⟨site_listens, ?_⟩; decide +kernel

/-- A waiting head under a mounted set, RUNNING; with another profile; and in STOPPED. -/
def gateState : State :=
  { site with line := .running, infeed := [17], tools := site.tools.set 0 tool0,
              strips := [{ measured 0 with stage := .waiting, plan := .done .computed, length := some 548,
                                           thickness := some 4 }] }

theorem test_meets_TheReleaseTest :
    holdReason gateState = none ∧ (headStrip gateState).isSome ∧ mountedSet gateState = some 0 ∧
    holdReason { gateState with tools := site.tools.set 0 { tool0 with profile := 5 } } = some .profile ∧
    holdReason { gateState with line := .stopped } = some .line := by decide +kernel

/-- A pending change under an empty and under a loaded moulder queue; one set mounted, its STATE its wear class. -/
theorem test_meets_WearAndToolChanges :
    (let s : State := { gateState with pendingChange := some 1 }
     s.ToolsSound ∧ s.pendingChange = some 1 ∧ s.moulder = [] ∧ { s with moulder := [⟨17, 0⟩] }.moulder ≠ []) := by
  refine ⟨⟨?_, ?_⟩, rfl, rfl, by decide⟩ <;> decide +kernel

theorem test_meets_ToolCommands :
    site.Listens ∧ 4 ≤ (4 : Byte).toNat ∧ (3 : Byte).toNat = (3 : Fin 4).val ∧ gateState.tools[0].state ≠ .unmounted ∧
    site.tools[3].state = .unmounted := by
  refine ⟨site_listens, ?_⟩; decide +kernel

theorem test_meets_TimersOfTheGate :
    site.resetHeld = false ∧ { site with gapTimer := some 0 }.gapTimer = some 0 ∧
    { site with gapTimer := some 1 }.gapTimer ≠ some 0 ∧
    (let q : PulseOut := { on := true, msLeft := 0, forced := false }
     q.on = true ∧ q.msLeft = 0 ∧ ¬ ({ q with msLeft := 1 }.on = true ∧ { q with msLeft := 1 }.msLeft = 0)) ∧
    (∀ e, { site with moulder := [⟨17, 4000⟩] }.moulder.head? = some e → e.age ≤ getPar site .moulderTransitMs) ∧
    { site with moulder := [⟨17, 4001⟩] }.moulder.head? = some ⟨17, 4001⟩ ∧
    getPar { site with moulder := [⟨17, 4001⟩] } .moulderTransitMs < 4001 := by
  refine ⟨rfl, rfl, by decide, by decide, ?_, rfl, by decide +kernel⟩
  intro e h; cases h; decide +kernel

/-- Of two late entries and one in time, the two are lost, and the third is then the head (R78). -/
theorem test_late_entries :
    let s := after (exec .moulderTransitExpiry { site with moulder := [⟨17, 4002⟩, ⟨18, 4001⟩, ⟨19, 4000⟩] })
    s.moulder = [⟨19, 4000⟩] ∧ s.events[eventIdx .lostMoulder].flag = true := by decide +kernel

theorem test_meets_MatchAtPe3 :
    site.moulder = [] ∧ { site with moulder := [⟨17, 0⟩] }.moulder = ⟨17, 0⟩ :: [] := by decide +kernel

/-- Ticket 17 waiting for its plan, and being evaluated. -/
theorem test_meets_RetirementForgetsTheTicket :
    retireEvent .carryover = some .carryover ∧
    (let s : State := { trackedState with engine := some (worked .computed none) }
     (findStrip 17 s).map (·.plan) = some .pending ∧ s.planQueue = [17]) ∧
    (let s : State := { trackedState with
       strips := trackedState.strips.map (fun r => { r with plan := .running }), planQueue := [],
       engine := some (worked .computed none) }
     (findStrip 17 s).map (·.plan) = some .running ∧ (s.engine.map (·.current)) = some 17) := by decide +kernel

/-- Lane 2's offset 14 under lug 20, whose strip goes on to lane 5; lane 5's offset 20 under it; lanes 0 and 1 at one
offset; a strip no lane takes. -/
theorem test_meets_Presentation :
    (let s : State := { lanesState with head := 34 }
     lugAt s s.lanes[2].dropOffset = 20 ∧ s.lugs[20].ticket = some 50 ∧ findStrip 50 s = some (onLug 50 250 0) ∧
     (∀ k : Fin 8, k < 2 → s.lanes[k].dropOffset ≠ s.lanes[2].dropOffset) ∧
     intendedLane 14 (onLug 50 250 0) s = some 5 ∧ s.lanes[5].dropOffset ≠ 14) ∧
    (let s : State := { lanesState with head := 0 }
     lugAt s s.lanes[5].dropOffset = 20 ∧ intendedLane 20 (onLug 50 250 0) s = some 5 ∧ s.lanes[5].dropOffset = 20 ∧
     (∀ k : Fin 8, k < 5 → s.lanes[k].dropOffset ≠ 20)) ∧
    site.lanes[0].dropOffset = site.lanes[1].dropOffset ∧ site.lugs[lugAt site site.lanes[0].dropOffset].ticket = none ∧
    intendedLane 14 (onLug 50 250 0) site = none := by decide +kernel

/-- The rows of the load point and of the saw station, on lug 20 at the saw offset 6. -/
def sawState (pe5 : Level) (saw : Option (Fin 16)) (done : Bool) : State :=
  { lanesState with
    head := 26, channels := lanesState.channels.set 5 { resetChannel true with level := pe5 },
    lugs := lanesState.lugs.set 20 { ticket := some 50, sawDone := done }, strips := [{ onLug 50 250 0 with saw := saw }] }

theorem test_meets_TheWorkOfAnAdvance :
    site.pitchRef = none ∧ { site with pitchRef := some 7 }.pitchRef = some 7 ∧ (open6 .blocked).channels[3].level = .blocked ∧
    site.channels[3].level = .clear ∧ site.holding = none ∧ { site with holding := some 17 }.holding = some 17 ∧
    nextTicketOf (raise .phantomLug site) ∉ (raise .phantomLug site).strips.map (·.ticket) ∧
    (let s := sawState .blocked (some 0) false
     let j := lugAt s (getPar s .sawOffset)
     j = 20 ∧ s.lugs[j].ticket = some 50 ∧ findStrip 50 s = some (onLug 50 250 0) ∧ s.channels[5].level = .blocked ∧
     (onLug 50 250 0).saw = some 0 ∧ (onLug 50 250 0).disposition ≠ some .rejected ∧
     (onLug 50 250 0).disposition ≠ some .trimOut ∧ s.lugs[j].sawDone = false) ∧
    (sawState .clear (some 0) false).channels[5].level = .clear ∧
    (sawState .blocked none true).lugs[lugAt (sawState .blocked none true) 6].sawDone = true ∧
    site.lugs[lugAt site (getPar site .sawOffset)].ticket = none ∧ ([.piece 8, .count false true ⟨[], []⟩, .piece 0] : List AdvancePart).Nodup := by decide +kernel

/-- A late arming fires; where a count turns the chain before it arrives it is cancelled on arrival and is no late fire;
where the count comes after it the notice ends it as a cut made (R108, R115). -/
theorem test_turn_before_arming :
    let s := { sawState .blocked (some 0) false with
      line := .running, head := 25, ch := { site.ch with position := 1000 } }
    let turn : AdvancePart := .count false true ⟨[], []⟩
    let read (parts : List AdvancePart) : OutState × Bool × Bool :=
      let t := advance 0 parts s
      (t.outs[0].state, t.events[eventIdx .lateFire].flag, t.lugs[20].sawDone)
    read [] = (.on, true, false) ∧ read [turn] = (.idle, false, false) ∧ read [.piece 0, turn] = (.idle, true, true) := by
  decide +kernel

/-- A pulse of ticket 50 for lane 2's pusher, and one for saw 0. -/
def pulse (lane : Option (Fin 8)) : Pulse := { lug := 20, ticket := 50, lane := lane, lead := 0, setAt := 100, clearAt := 200 }

/-- An output armed with a pulse. -/
def armed (p : Pulse) : CountedOut := { state := .armed, active := some p, waiting := none, forced := false }

/-- RUNNING with saw 0 and lane 2's pusher armed, with and without a NEXT. -/
def armedState (next : Option Pulse) : State :=
  { lanesState with
    line := .running,
    outs := (lanesState.outs.set 0 { armed (pulse none) with waiting := next }).set 18
      { armed (pulse (some 2)) with waiting := next } }

theorem test_meets_ArmingsAndTheirPulses :
    (0 : Fin 24).val < 16 ∧ (23 : Fin 24).val = 16 + (7 : Fin 8).val ∧ site.line = .stopped ∧
    (armedState none).line = .running ∧ (armedState none).ch.direction = .forward ∧
    (armedState none).outs[1].state = .idle ∧ (armedState none).outs[0].state ≠ .idle ∧
    (armedState none).outs[0].waiting = none ∧ (armedState (some (pulse none))).outs[0].waiting ≠ none ∧
    0 ≤ ((700 : Pos) - 700).toInt ∧ ¬ 0 ≤ ((699 : Pos) - 700).toInt := by decide +kernel

/-- RUNNING with one output as given, CH at a POSITION. -/
def oneOut (o : Fin 24) (c : CountedOut) (position : Pos) : State :=
  { lanesState with line := .running, outs := lanesState.outs.set o c, ch := { lanesState.ch with position := position } }

/-- Lane 6's pusher, whose bin takes strip 50, with a NEXT for strip 50 and for strip 99, which has no record. -/
theorem test_meets_PointsOfAPusher :
    (let s := oneOut (divOut 6) { armed (pulse (some 6)) with state := .on, waiting := some (pulse (some 6)) } 0
     s.outs[divOut 6].active = some (pulse (some 6)) ∧ s.outs[divOut 6].waiting = some (pulse (some 6)) ∧
     findStrip (pulse (some 6)).ticket s = some (onLug 50 250 0) ∧ laneAccepts s.lanes[6] (onLug 50 250 0) = true) ∧
    findStrip 99 lanesState = none := by decide +kernel

theorem quiet_of_idle {n : Pos} {c : CountedOut} (h : c.state = .idle) : c.Quiet n :=
  ⟨fun h' => absurd (h.symm.trans h') (by decide), fun h' => absurd (h.symm.trans h') (by decide)⟩

theorem quiet_of_on {n : Pos} {c : CountedOut} {p : Pulse} (h : c.state = .on) (ha : c.active = some p)
    (hw : c.waiting = none) (hp : (n - p.clearAt).toInt < 0) : c.Quiet n :=
  ⟨fun h' => absurd (h.symm.trans h') (by decide),
   fun _ => ⟨fun q hq => by rw [ha] at hq; cases hq; exact hp, fun q hq => by rw [hw] at hq; cases hq⟩⟩

theorem oneOut_others (o : Fin 24) (c : CountedOut) (n : Pos) (j : Fin 24) (h : j ≠ o) : (oneOut o c n).outs[j].Quiet n := by
  refine quiet_of_idle ?_
  have hv : o.val ≠ j.val := fun e => h (Fin.ext e.symm)
  have hi : ∀ k : Fin 24, lanesState.outs[k].state = .idle := by decide +kernel
  simpa [oneOut, hv] using hi j

/-- The counts that reach a set point, the set point of a NEXT, and a clear point of saw 0; the point is the last the count
takes. -/
theorem test_meets_ReachedPointsAreTaken :
    let a := oneOut (sawOut 0) (armed (pulse none))
    let m := oneOut (sawOut 0) { armed (pulse none) with state := .on, waiting := some { pulse none with clearAt := 300 } }
    let c := oneOut (sawOut 0) { armed (pulse none) with state := .on }
    (true, false) = (!(a 99).ch.pairB, (a 99).ch.pairA) ∧ 0 ≤ ((99 : Pos) + 1 - 100).toInt ∧
    ((100 : Pos) - 200).toInt < 0 ∧ 0 ≤ ((199 : Pos) + 1 - 200).toInt ∧
    (∀ j : Fin 24, (takePoint (sawOut 0) .setPoint (a 100)).outs[j].Quiet 100) ∧
    (∀ j : Fin 24, (takePoint (sawOut 0) .mergePoint (m 100)).outs[j].Quiet 100) ∧
    ∀ j : Fin 24, (takePoint (sawOut 0) .clearPoint (c 200)).outs[j].Quiet 200 := by
  refine ⟨by decide, by decide, by decide, by decide, fun j => ?_, fun j => ?_, fun j => ?_⟩
  · by_cases h : j = 0
    · subst h; exact quiet_of_on (p := pulse none) (by decide +kernel) (by decide +kernel) (by decide +kernel) (by decide)
    · exact quiet_of_idle (by revert h; revert j; decide +kernel)
  · by_cases h : j = 0
    · subst h
      exact quiet_of_on (p := { pulse none with clearAt := 300 }) (by decide +kernel) (by decide +kernel)
        (by decide +kernel) (by decide)
    · exact quiet_of_idle (by revert h; revert j; decide +kernel)
  · exact quiet_of_idle (by revert j; decide +kernel)

/-- The forward count that reaches the set point turns saw 0 ON; one count earlier nothing is taken; the one that reaches
the clear point sets SAW_DONE. -/
theorem test_saw_acts :
    let count (s : State) : State := after (exec (.encoderCount .ch true false ⟨[], []⟩) s)
    let set := oneOut (sawOut 0) (armed (pulse none))
    let clear := count (oneOut (sawOut 0) { armed (pulse none) with state := .on } 199)
    ((count (set 99)).outs[0].state, (count (set 98)).outs[0].state) = (.on, .armed) ∧
    (clear.outs[0].state, clear.lugs[20].sawDone) = (.idle, true) := by decide +kernel

/-- Strip 50, refused by lane 2 and taken by the empty bin lane 6. -/
theorem test_meets_PointsAreTaken :
    (armedState none).outs[sawOut 0].active = some (pulse none) ∧ (armedState none).outs[sawOut 0].waiting = none ∧
    (armedState (some (pulse none))).outs[sawOut 0].waiting = some (pulse none) ∧
    (armedState none).outs[divOut 2].active = some (pulse (some 2)) ∧
    findStrip 50 (armedState none) = some (onLug 50 250 0) ∧
    laneAccepts (armedState none).lanes[2] (onLug 50 250 0) = false ∧
    laneAccepts (armedState none).lanes[6] (onLug 50 250 0) = true := by decide +kernel

theorem test_meets_LineStopEndsEveryPulse :
    (armedState none).Listens ∧ (armedState none).line = .running ∧ (armedState none).outs[sawOut 0].state = .armed ∧
    (armedState none).outs[sawOut 0].active = some (pulse none) ∧
    (armedState (some (pulse none))).outs[sawOut 0].waiting = some (pulse none) ∧
    (armedState none).outs[divOut 2].state = .armed ∧ (armedState none).outs[divOut 2].active = some (pulse (some 2)) ∧
    (armedState (some (pulse none))).outs[divOut 2].waiting = some (pulse none) ∧
    (pulse none).lug = 20 ∧ (armedState none).lugs[20].ticket = some 50 ∧ (armedState none).lugs[0].ticket = none ∧
    site.events[eventIdx .missedActuation].severity ≠ .stop ∧
    (∀ o : Fin 24, site.outs[o].waiting = none ∧ (site.outs[o].state = .on ∨ site.outs[o].active = none)) := by
  refine ⟨⟨rfl, rfl⟩, ?_⟩; decide +kernel

theorem test_meets_RecordsAreRetiredByCommand :
    site.Listens ∧ findStrip (17#16).toNat site = none ∧ findStrip (50#16).toNat lanesState = some (onLug 50 250 0) ∧
    (onLug 50 250 0).stage = .onLug ∧ (measured 0).stage ≠ .onLug ∧ site.line = .stopped ∧ gateState.line = .running ∧
    headStrip site = none ∧ (headStrip gateState).map (·.stage) = some .waiting ∧ 0 < getPar site .infeedHighMark := by
  refine ⟨site_listens, ?_⟩; decide +kernel

/-- A flag of STOP severity, and none; the lists of SET_OUTPUTS at output 26 and at 27. -/
theorem test_meets_LineCommandsAndOverride :
    site.Listens ∧ ({ site with line := .faultStop } : State).line = .faultStop ∧
    (∀ i : Fin 32, ¬ (site.events[i].flag = true ∧ site.events[i].severity = .stop)) ∧
    (raise .jam0 site).events[eventIdx .jam0].flag = true ∧ (raise .jam0 site).events[eventIdx .jam0].severity = .stop ∧
    [(26 : Byte)].length + [(0 : Byte)].length ≤ 31 ∧ (∀ b ∈ [(26 : Byte)] ++ [0], b.toNat < 27) ∧
    (∃ b ∈ [(27 : Byte)] ++ [], 27 ≤ b.toNat) := by
  refine ⟨site_listens, ?_⟩; decide +kernel

/-- No movement without escalation, and from FAULT_STOP; a HOLD and a STOP kind that move the line. -/
theorem test_meets_RaisingAnEvent :
    { site with escalation := false }.escalation = false ∧ site.escalation = true ∧
    site.events[eventIdx .lostMoulder].severity = .hold ∧ gateState.line = .running ∧
    site.events[eventIdx .jam0].severity = .stop ∧ site.line = .stopped ∧
    (raise .jam0 site).line = .faultStop ∧ (raise .jam0 (raise .jam0 site)).line = .faultStop ∧
    (raise .lostMoulder gateState).line = .hold := by decide +kernel

theorem test_meets_EventCommands :
    site.Listens ∧ (List.replicate 32 (31 : Byte)).length ≤ 32 ∧ (∀ b ∈ List.replicate 32 (31 : Byte), b.toNat < 32) ∧
    (∃ b ∈ [(32 : Byte)], 32 ≤ b.toNat) ∧ 2 ≤ (2 : Byte).toNat ∧ 3 ≤ (3 : Byte).toNat ∧ (1 : Byte).toNat < 2 ∧
    (31 : Byte).toNat = (31 : Fin 32).val ∧ severities[(2 : Byte).toNat]? = some .stop := by
  refine ⟨site_listens, ?_⟩; decide +kernel

/-- Codes 33 and 34; a structural parameter out of STOPPED; a rate beside the four; a SAW_OFFSET at a lane's
DROP_OFFSET. -/
theorem test_meets_SetParamStoresTheClampedValue :
    site.Listens ∧ 33 < (34 : Byte).toNat ∧ paramOf 33 = some .linkMissLimit ∧ paramOf 16 = some .sawOffset ∧
    ([2, 3, 9, 12, 26].map paramOf = [.infeedHighMark, .infeedLowMark, .moulderCapacity, .moulderTransitMs,
      .dropConfirmMs].map some) ∧
    gateState.line ≠ .stopped ∧ (19201#32).toNat ∉ [19200, 57600, 115200, 250000] ∧
    (lanesState.lanes[2].kind ≠ .unused ∧ lanesState.lanes[2].dropOffset ≤ 14) ∧ lanesState.lugs[20].ticket ≠ none ∧
    (∀ j : Fin 40, site.lugs[j].ticket = none) ∧ (∀ l : Fin 8, site.lanes[l].kind = .unused) := by
  refine ⟨site_listens, ?_⟩; decide +kernel

theorem test_meets_TablesAreWritten :
    site.Listens ∧ 6 < (7 : Byte).toNat ∧ (6 : Byte).toNat = (5 : Fin 6).val + 1 ∧ (1 : Byte).toNat ≤ 1 ∧
    1 < (2 : Byte).toNat ∧ site.engine = none ∧ { site with engine := some (worked .computed none) }.engine.isSome ∧
    (List.replicate 32 (0 : Byte)).length % 2 = 0 ∧ (List.replicate 32 (0 : Byte)).length ≤ 32 ∧ lanesState.strips ≠ [] ∧
    ((positionsOf [0, 50, 0, 51]).map (fun p => max 50 (min 4000 p))).Pairwise (· < ·) ∧
    ¬ ((positionsOf [0, 49, 0, 50]).map (fun p => max 50 (min 4000 p))).Pairwise (· < ·) ∧ 6 ≤ (6 : Byte).toNat ∧
    (5 : Byte).toNat = (5 : Fin 6).val ∧ filterModes[(2 : Byte).toNat]? = some .bypass := by
  refine ⟨site_listens, ?_⟩; decide +kernel

theorem test_meets_ReadingChangesNothing :
    site.Listens ∧ paramOf 1 = some .infeedCpm ∧ (6 : Byte).toNat = (5 : Fin 6).val + 1 ∧ places[(3 : Byte).toNat]? = some .chain ∧
    4 ≤ (4 : Byte).toNat ∧ (39 : Byte).toNat = (39 : Fin 40).val ∧ 40 ≤ (40 : Byte).toNat ∧
    (3 : Byte).toNat = (3 : Fin 4).val ∧ (4 : Byte).toNat = (3 : Fin 4).val + 1 ∧ (7 : Byte).toNat = (7 : Fin 8).val ∧
    8 ≤ (8 : Byte).toNat := by
  refine ⟨site_listens, ?_⟩; decide +kernel

/-- A strip on HOLD, one TRIM_OUT, and strips GRADED 2 and 1 before lanes 2, 5 and 6. -/
theorem test_meets_StripsAreRouted :
    { onLug 50 250 0 with disposition := some .hold }.disposition = some .hold ∧
    { onLug 50 250 0 with disposition := some .trimOut }.disposition = some .trimOut ∧
    (onLug 50 250 0).missedCut = false ∧ (onLug 50 250 0).disposition = some (.graded 1) ∧
    (14 ≤ lanesState.lanes[2].dropOffset ∧ lanesState.lanes[2].kind = .bundle ∧ lanesState.lanes[2].grade = 1 ∧
      lanesState.lanes[2].minK ≤ 250 ∧ 250 ≤ lanesState.lanes[2].maxK) ∧
    laneAccepts lanesState.lanes[2] (onLug 51 450 4) = true ∧ laneAccepts lanesState.lanes[2] (onLug 50 250 0) = false ∧
    lanesState.lanes[2].alternate = some 5 ∧ laneAccepts lanesState.lanes[5] (onLug 50 250 0) = true ∧
    lanesState.lanes[5].alternate = none ∧
    (∀ k : Fin 8, ¬ (14 ≤ lanesState.lanes[k].dropOffset ∧ lanesState.lanes[k].kind = .bundle ∧
      lanesState.lanes[k].grade = 0)) := by decide +kernel

/-- A BUNDLE lane and its bundle; a HOLD_BIN and a REJECT_BIN without one; drop watch lists of 3 and of 4. -/
theorem test_meets_CommitsAreCounted :
    lanesState.lanes[2].kind = .bundle ∧ lanesState.lanes[2].bundle = some bundle117 ∧
    lanesState.lanes[6].kind = .holdBin ∧ lanesState.lanes[6].bundle = none ∧
    { lane6 with kind := .rejectBin }.kind = .rejectBin ∧
    (List.replicate 3 (⟨0, none⟩ : Watch)).length < 4 ∧ 4 ≤ (List.replicate 4 (⟨0, none⟩ : Watch)).length := by
  decide +kernel

/-- A bin at its last count, with a full drop watch list, takes a fifth strip (R135, R141). -/
theorem test_bin_saturates :
    let full : Lane := { lane6 with binCount := 65535, watch := List.replicate 4 ⟨0, none⟩ }
    let s := commitStrip 6 (onLug 50 250 0) { lanesState with ms := 9, lanes := lanesState.lanes.set 6 full }
    s.lanes[6].binCount = 65535 ∧ s.lanes[6].watch = List.replicate 3 ⟨0, none⟩ ++ [⟨9, none⟩] ∧
    s.events[eventIdx .missedDrop].flag = true ∧ findStrip 50 s = none := by decide +kernel

/-- NEXT_BUNDLE at both ends; an OPEN and a CLOSED lane with a bundle; drop watch entries at and past 800 ms. -/
theorem test_meets_BundlesOpenCloseAndRetire :
    1 ≤ site.nextBundle ∧ { site with nextBundle := 65535 }.nextBundle ≤ 65535 ∧
    lanesState.lanes[2].bundle = some bundle117 ∧ site.Listens ∧ 8 ≤ (8 : Byte).toNat ∧
    (2 : Byte).toNat = (2 : Fin 8).val ∧ lanesState.lanes[2].kind = .bundle ∧ lanesState.lanes[2].state = .opened ∧
    site.lanes[2].state ≠ .closed ∧ { lane2 with state := .closed }.state = .closed ∧ site.resetHeld = false ∧
    site.lanes[2].watch = [] ∧ { lane2 with watch := [⟨0, some 117⟩] }.watch = ⟨0, some 117⟩ :: [] ∧
    ((800 : Clock) - 0).toNat ≤ getPar site .dropConfirmMs ∧ getPar site .dropConfirmMs < ((801 : Clock) - 0).toNat ∧
    bundle117.number = 117 ∧ site.lanes[0].bundle = none ∧ bundle117.cleared = false ∧
    { bundle117 with cleared := true }.cleared = true ∧ lane2.enabled = true ∧
    { lane2 with enabled := false }.enabled = false := by
  refine ⟨by decide +kernel, by decide +kernel, by decide +kernel, site_listens, ?_⟩; decide +kernel

theorem test_meets_LanesAreSetAndEnabled :
    site.Listens ∧ 8 ≤ (8 : Byte).toNat ∧ 4 ≤ (4 : Byte).toNat ∧ (8 : Byte) ≠ 255 ∧ (7 : Byte).toNat = (7 : Fin 8).val ∧
    laneKinds[(3 : Byte).toNat]? = some .rejectBin ∧ (6 : Fin 8) ≠ 7 ∧ site.lanes[7].state = .disabled ∧
    lanesState.lanes[2].state ≠ .disabled ∧ site.line = .stopped ∧ gateState.line ≠ .stopped ∧
    (if 38 < getPar site .sawOffset + 1 then getPar site .sawOffset + 1 else min 38 38) = site.lanes[7].dropOffset ∧
    site.lanes[7].kind = .unused ∧ lane2.kind = .bundle ∧ lane6.kind = .holdBin ∧ lane2.state = .opened ∧
    lane2.bundle = some bundle117 ∧ bundle117.count ≠ 0 ∧
    (∀ b, { lane2 with bundle := some { bundle117 with count := 0 } }.bundle = some b → b.count = 0) := by
  refine ⟨site_listens, by decide, by decide, by decide, by decide, rfl, by decide, rfl, by decide +kernel, rfl,
    by decide, by decide +kernel, rfl, rfl, rfl, rfl, rfl, by decide, ?_⟩
  intro b h; cases h; rfl

theorem test_meets_LabelStreams : (List.replicate 16 ((250, 2) : Nat × Nat)).length ≤ 16 := by decide

/-- Two labels in STREAM, the older FAILED; a label of each state; DIRECT with an empty and a full FIFO. -/
theorem test_meets_LabelsAndPortByCommand :
    (let s : State := { site with port := { site.port with mode := .stream },
                                  labels := [{ label117 with lane := 5, state := .failed }, label117] }
     s.port.mode = .stream ∧ s.composing = none ∧ s.port.fifo = [] ∧ s.port.handshake = .idle ∧
     s.labels = [{ label117 with lane := 5, state := .failed }] ++ label117 :: [] ∧ label117.state = .queued ∧
     (∀ q ∈ [{ label117 with lane := 5, state := .failed }], q.state ≠ .queued ∧ q.lane ≠ label117.lane) ∧
     s.labels.find? (fun b => b.lane == 5) = some { label117 with lane := 5, state := .failed }) ∧
    site.Listens ∧ 8 ≤ (8 : Byte).toNat ∧ (7 : Byte).toNat = (7 : Fin 8).val ∧
    site.labels.find? (fun b => b.lane == 7) = none ∧ 3 ≤ (3 : Byte).toNat ∧ portModes[(2 : Byte).toNat]? = some .stream ∧
    site.port.mode = .off ∧ portState.port.mode = .stream ∧ portState.port.fifo ≠ [] ∧
    entriesOf [0, 0x41, 1, 0x02] = some [dataEntry 0x41, commandEntry 0x02] ∧ entriesOf [2, 0] = none := by
  refine ⟨by decide +kernel, site_listens, ?_⟩; decide +kernel

/-- The handshake in each state, with PBUSY and PFAULT at both levels; a timer at 0 and running; a label whose try is
given back and one that fails. -/
theorem test_meets_TheByteHandshake :
    portState.port.fifo = commandEntry 0x17 :: portState.port.fifo.tail ∧ portState.port.mode = .stream ∧
    portState.composing = some 2 ∧ commandEntry 0x17 ≠ { command := true, byte := 0x02 } ∧ endLabel = { command := true, byte := 0x02 } ∧
    { portState.port with handshake := .readyWait }.handshake = .readyWait ∧ portState.resetHeld = false ∧
    portState.port.pbusy = !false ∧ site.port.pbusy = !true ∧
    (let p : Port := { site.port with handshake := .strobe, strobeLeft := 0 }
     p.handshake = .strobe ∧ p.strobeLeft = 0 ∧ { p with strobeLeft := 1 }.strobeLeft ≠ 0) ∧
    site.port.pfault = false ∧ { site.port with pfault := true }.pfault = true ∧
    { portState.port with timer := some 0 }.timer = some 0 ∧ portState.port.timer ≠ some 0 ∧
    portState.labels.find? (fun q => q.lane == 2) = some { label117 with state := .printing } ∧
    { label117 with state := .printing }.tries < getPar portState .labelRetries ∧
    ¬ { label117 with tries := 1 }.tries < getPar portState .labelRetries := by decide +kernel

/-- A poll about to begin after address 4 with stations 1 and 3 in service; each state of a transaction; a timer at 0 and
running. -/
def linkState : State :=
  { scannerState with
    stations := scannerState.stations.set 2 { resetStation with state := .online }, transaction := .idle, pollPointer := 4 }

theorem test_meets_StationsArePolledInTurn :
    linkState.transaction = .idle ∧ linkState.pollPointer ≤ 4 ∧ linkState.stations[0].state ≠ .disabled ∧
    (∀ b : Fin 4, (b.val + 4 - linkState.pollPointer % 4) % 4 < ((0 : Fin 4).val + 4 - linkState.pollPointer % 4) % 4 →
      linkState.stations[b].state = .disabled) ∧
    (∀ b : Fin 4, (b.val + 4 - 2 % 4) % 4 < ((2 : Fin 4).val + 4 - 2 % 4) % 4 → linkState.stations[b].state = .disabled) ∧
    (∀ a : Fin 4, site.stations[a].state = .disabled) ∧ scannerState.transaction ≠ .idle ∧
    scannerState.transaction = .waiting 0 false [] ∧
    { scannerState with replyTimer := some 0 }.replyTimer = some 0 ∧
    scannerState.replyTimer ≠ some 0 ∧
    { site with transaction := .sending 3 115200 [] true true }.transaction = .sending 3 115200 [] true true := by
  refine ⟨rfl, by decide, by decide, by decide +kernel, by decide +kernel, by decide +kernel, by decide, rfl,
    rfl, by decide, rfl⟩

/-- An IDLE as it was sent; characters outside a window, after a bad reply, good ones, and ones that are not. -/
theorem test_meets_RepliesAreReceived :
    scannerState.Hears 0 false ⟨1, none⟩ ∧ scannerState.resetHeld = false ∧
    (∀ a carried got, site.transaction ≠ .waiting a carried got) ∧ readReply 0 [⟨3, false⟩] ≠ .incomplete ∧
    readReply 0 [] = .incomplete ∧ readReply 0 ([] ++ sent (replyFrame 1 .idle)) = .good .idle ∧
    ∀ body, readReply 0 ([] ++ [⟨4, true⟩]) ≠ .good body := by
  refine ⟨⟨rfl, rfl, rfl, rfl⟩, rfl, ?_, by decide +kernel, rfl, by decide +kernel, ?_⟩
  · intro a carried got h; cases h
  · intro body h; cases h

/-- A reply with a framing error leaves the window open to its end, and a good reply after it in the same window is
discarded (R176). -/
theorem test_spoiled_reply :
    let bad := (sent (replyFrame 1 .idle)).map (fun c => { c with framing := true })
    let s := after (exec (.idleReply ⟨1, some bad⟩) scannerState)
    let t := after (exec (.idleReply ⟨1, none⟩) s)
    s.transaction = .waiting 0 false bad ∧ t.transaction = .waiting 0 false bad ∧ t.replyTimer = some 10 := by
  decide +kernel

/-- A reply heard; a repeat and a fresh REQ_ID; a role permitted and one not; the results' conditions. -/
theorem test_meets_StationRequests :
    scannerState.Hears 0 false (⟨⟨1, none⟩, 7⟩ : Reply).toArrival ∧ scannerState.stations[0].lastReqId = some 6 ∧
    scannerState.stations[0].lastReqId ≠ some 7 ∧ scannerState.stations[0].role ∈ [Role.scanner, .grader] ∧
    scannerState.stations[0].role ∉ [Role.stacker] ∧ (List.replicate 148 (0 : Byte)).length ≤ 148 ∧
    6 < (7 : Byte).toNat ∧ manualGradeOf 9 = none ∧ manualGradeOf 8 ≠ none ∧ findStrip 17 site = none ∧
    8 ≤ (8 : Byte).toNat ∧ (2 : Byte).toNat = (2 : Fin 8).val ∧ site.lanes[2].watch = [] ∧
    site.lanes[2].state ≠ .closed ∧ { lane2 with state := .closed }.state = .closed ∧ bundle117.labelDone = false ∧
    { bundle117 with labelDone := true }.labelDone = true ∧ { lane2 with enabled := false }.enabled = false ∧
    lane2.enabled = true := by
  refine ⟨⟨rfl, rfl, rfl, rfl⟩, ?_⟩; decide +kernel

theorem test_meets_StationCommands :
    site.Listens ∧ 4 < (5 : Byte).toNat ∧ 3 ≤ (3 : Byte).toNat ∧ (4 : Byte).toNat = (3 : Fin 4).val + 1 ∧
    roles[(2 : Byte).toNat]? = some .stacker ∧ linkState.stations[0].state ≠ .disabled ∧
    site.stations[3].state = .disabled ∧ 3000 < (3001 : BitVec 16).toNat ∧ ¬ 3000 < (3000 : BitVec 16).toNat := by
  refine ⟨site_listens, ?_⟩; decide +kernel

/-- A report of station 1 withdrawn: ticket 17, PENDING, in INFEED and WAITING; another station's ticket. -/
theorem test_meets_StationCommands_withdrawal :
    let w : State := { trackedState with strips := trackedState.strips.map (fun r => { r with stage := .waiting }) }
    (findStrip 17 trackedState).map (fun r => (r.plan, r.reportFrom, r.stage)) = some (.pending, some 0, .infeed) ∧
    (findStrip 17 w).map (fun r => (r.plan, r.reportFrom, r.stage)) = some (.pending, some 0, .waiting) ∧
    (∀ r ∈ trackedState.strips, r.ticket = 17 → ¬ (r.plan = .pending ∧ r.reportFrom = some 1)) := by decide +kernel

theorem test_meets_EveryStepKeepsCapacitiesAndRanges :
    { lanesState with infeed := List.range 16, port := portState.port, moulder := List.replicate 8 ⟨17, 0⟩ }.Bounded ∧
    lanesState.InRange := by
  refine ⟨⟨by decide +kernel, by decide +kernel, by decide +kernel, by decide +kernel, by decide +kernel⟩,
    ⟨?_, ?_, by decide +kernel⟩⟩
  · intro p; cases p <;> decide +kernel
  · intro p; cases p <;> decide +kernel

theorem test_meets_EveryStepKeepsTheTracking : trackedState.Tracked := by
  refine ⟨⟨by decide +kernel, by decide +kernel, by decide +kernel, by decide +kernel, by decide +kernel⟩,
    ⟨?_, ?_, by decide +kernel⟩, ⟨by decide +kernel, by decide +kernel⟩,
    ⟨by decide +kernel, by decide +kernel, ?_, ⟨List.nodup_nil, fun _ h => nomatch h⟩, ?_, ?_, ?_⟩,
    ⟨by decide +kernel, by decide +kernel, by decide +kernel, ?_⟩⟩
  · intro p; cases p <;> decide +kernel
  · intro p; cases p <;> decide +kernel
  · unfold State.Live; decide +kernel
  · intro t h; cases h
  · intro j t h
    have hn : ∀ k : Fin 40, trackedState.lugs[k].ticket = none := by decide +kernel
    rw [hn j] at h; cases h
  · intro r h
    simp only [trackedState, List.mem_singleton] at h
    subst h
    exact List.mem_singleton.2 rfl
  · intro e h; cases h

/-- Lane 2 CLOSED with its label QUEUED, lane 5 OPEN. -/
theorem test_meets_EveryStepKeepsTheLabels :
    { lanesState with lanes := lanesState.lanes.set 2 { lane2 with state := .closed }, labels := [label117] }.LabelsSound := by
  refine ⟨by decide +kernel, ?_, ?_, ?_⟩
  · intro k h
    simp only [List.mem_singleton] at h
    subst h
    exact ⟨rfl, bundle117, rfl, rfl⟩
  · intro l b h hb
    fin_cases l <;> first | (cases hb; rfl) | cases hb
  · intro l h; cases h

/-- RESET released, in RUNNING and HOLD, in STOPPED and in FAULT_STOP. -/
theorem test_meets_EveryStepKeepsOutputsWithTheLine_levels :
    (armedState none).resetHeld = false ∧ (armedState none).line = .running ∧
    { armedState none with line := .hold }.line = .hold ∧ site.resetHeld = false ∧ site.line = .stopped ∧
    { site with line := .faultStop }.line = .faultStop := by decide +kernel

/-- A saw that is ON is driven in RUNNING, and not in FAULT_STOP, where LINE_OK is deasserted (R106, R192). -/
theorem test_levels :
    let s := oneOut (sawOut 0) { armed (pulse none) with state := .on } 0
    (outLevel s 0, lineOk s) = (true, true) ∧
    (outLevel { s with line := .faultStop } 0, lineOk { s with line := .faultStop }) = (false, false) := by decide +kernel

/-- RUNNING with outputs armed. -/
theorem test_meets_EveryStepKeepsOutputsWithTheLine : (armedState none).OutputsAgree := by
  refine ⟨?_, ?_, ?_, ?_⟩
  · unfold CountedOut.Sound; decide +kernel
  · rintro (h | h) <;> cases h
  · rintro (h | h) <;> cases h
  · intro _; constructor <;> decide +kernel

/-- A strip on lug 20 with its saw done, and a strip in transfer holding. -/
theorem test_meets_EveryStepKeepsTheRing :
    (sawState .blocked (some 0) true).RingSound ∧ { site with holding := some 17, window := 3 }.WindowSound := by
  refine ⟨⟨by decide +kernel, by decide +kernel⟩, ?_⟩
  intro h; cases h

/-- A mounted set at its wear class, and a full history with its SPEED. -/
theorem test_meets_EveryStepKeepsToolsAndSpeed :
    gateState.ToolsSound ∧ { site with history := List.replicate 65 0, speed := 64000000 }.SpeedSound := by
  refine ⟨⟨by decide +kernel, by decide +kernel⟩, ⟨?_, ?_, ?_⟩⟩ <;> decide +kernel

/-- Graded strips with their saws, and bundles 117 and 118. -/
theorem test_meets_EveryStepKeepsTheAccounts : lanesState.Accounts := by
  refine ⟨?_, ?_⟩
  · intro r h g hg
    simp only [lanesState, List.mem_cons, List.not_mem_nil, or_false] at h
    rcases h with rfl | rfl <;> rfl
  · intro l b h
    fin_cases l <;> cases h <;> constructor <;> decide +kernel

theorem test_meets_ResetsGiveTheResetState : site.Listens := ⟨rfl, rfl⟩

theorem test_meets_ChannelsTickIndependently :
    site.resetHeld = false ∧ ∀ p ∈ [AdvancePart.piece 8, .piece 0], ∃ k, p = .piece k := by
  refine ⟨rfl, ?_⟩
  simp

/-- A step from reset answers a next state, as every statement about all steps asks. -/
theorem test_meets_every_step : ∃ t, step State.reset = .next t := ⟨_, rfl⟩

end Sys2Proof.Machine
end

/-! PROOFS. The part's own time (logs 1 to 3): what a microsecond changes, with and without a move of the millisecond
clock, and the events that join the queue, as one list of alternatives. -/

namespace Sys2Proof.Machine

open Sys2Proof

/-! ### What a microsecond changes (R1) -/

/-- A millisecond, as one update: only the pulses and the ages look at the line (R77, R119). -/
theorem msTick_eq (s : State) :
    msTick s = { s with
      ms := s.ms + 1, channels := mapTable countJam s.channels, stall := countDown s.stall,
      gapTimer := countDown s.gapTimer, replyTimer := countDown s.replyTimer,
      port := { s.port with timer := countDown s.port.timer },
      pulses := if s.line = .running ∨ s.line = .hold then mapTable countPulse s.pulses else s.pulses,
      moulder := if s.line = .running ∨ s.line = .hold then s.moulder.map olderEntry else s.moulder } := by
  by_cases h : s.line = .running ∨ s.line = .hold <;> simp [msTick, actuatorsAct, h]

/-- A microsecond that does not move the millisecond clock (log 3). -/
theorem usTick_between {s : State} (h : ¬ 999 ≤ s.usPhase) :
    usTick s = { s with us := s.us + 1, usPhase := s.usPhase + 1,
                        port := { s.port with strobeLeft := s.port.strobeLeft - 1 } } := by
  simp [usTick, h]

/-- The thousandth microsecond (log 3). -/
theorem usTick_moves {s : State} (h : 999 ≤ s.usPhase) :
    usTick s = msTick { s with us := s.us + 1, usPhase := 0,
                               port := { s.port with strobeLeft := s.port.strobeLeft - 1 } } := by
  simp [usTick, h]

/-- What is due does not depend on what waits in the queue. -/
theorem dueCommands_pending (s : State) (q : List Instr) : dueCommands { s with pending := q } = dueCommands s := rfl

theorem usTick_pending (s : State) : (usTick s).pending = s.pending := by
  by_cases h : 999 ≤ s.usPhase
  · rw [usTick_moves h, msTick_eq]
  · rw [usTick_between h]

theorem tick_held {s : State} (h : s.resetHeld = true) : tick s = s := by simp [tick, h]

/-- The tick of an empty queue, RESET released: what is due afterwards is the whole queue (log 2). -/
theorem tick_released {s : State} (hq : s.pending = []) (hr : s.resetHeld = false) :
    tick s = { usTick s with pending := dueCommands (usTick s) } := by
  simp [tick, hr, usTick_pending, hq]

theorem step_idle {s : State} (hq : s.pending = []) : step s = .next (tick s) := by simp [step, hq]

/-- A jam timer runs down with the millisecond (R9). -/
theorem usTick_channels (s : State) (i : Fin 6) :
    (usTick s).channels[i] = if 999 ≤ s.usPhase then countJam s.channels[i] else s.channels[i] := by
  by_cases h : 999 ≤ s.usPhase
  · simp [usTick_moves h, msTick_eq, h]
  · simp [usTick_between h, h]

/-- A pulse runs down with the millisecond, in RUNNING and HOLD (R119). -/
theorem usTick_pulses (s : State) (p : Fin 3) :
    (usTick s).pulses[p] =
      if 999 ≤ s.usPhase ∧ (s.line = .running ∨ s.line = .hold) then countPulse s.pulses[p] else s.pulses[p] := by
  by_cases h : 999 ≤ s.usPhase
  · by_cases ha : s.line = .running ∨ s.line = .hold
    · simp [usTick_moves h, msTick_eq, h, ha]
    · simp [usTick_moves h, msTick_eq, h, ha]
  · simp [usTick_between h, h]

theorem aMicrosecondPasses : Claims.AMicrosecondPasses := by
  intro s hq
  rw [step_idle hq]
  refine ⟨fun hheld => by rw [tick_held hheld], fun hrel => ⟨tick s, rfl, ?_⟩⟩
  rw [tick_released hq hrel]
  refine ⟨?frame, fun i => (usTick_channels s i).trans ?channel, fun p => (usTick_pulses s p).trans ?pulse,
    (dueCommands_pending ..).symm⟩
  case frame =>
    by_cases hm : 999 ≤ s.usPhase
    · simp only [usTick_moves hm, msTick_eq, hm, true_and, if_true]; rfl
    · simp only [usTick_between hm, hm, false_and, if_false]
  case channel =>
    by_cases hm : 999 ≤ s.usPhase
    · simp only [hm, if_true]; rfl
    · simp only [hm, if_false]
      rcases s.channels[i] with ⟨_, _, _, _, _, _, _, _ | ⟨_, state⟩⟩
      · rfl
      · cases state <;> rfl
  case pulse =>
    by_cases ha : 999 ≤ s.usPhase ∧ (s.line = .running ∨ s.line = .hold)
    · simp [ha, countPulse]
    · rw [if_neg ha, if_neg (fun h => ha ⟨h.1, h.2.1⟩)]

/-! ### The events that have come due (log 2) -/

@[simp] theorem mem_dueIf {b : Bool} {c d : Instr} : c ∈ dueIf b d ↔ b = true ∧ c = d := by
  cases b <;> simp [dueIf]

theorem strobeDue_iff {s : State} : strobeDue s = true ↔ s.port.handshake = .strobe ∧ s.port.strobeLeft = 0 := by
  simp [strobeDue]

theorem jamDue_iff {s : State} {i : Fin 6} :
    jamDue s i = true ↔ ∃ j, s.channels[i].jam = some j ∧ j.state = .timing 0 := by
  simp [jamDue, Option.any_eq_true]

theorem pulseDue_iff {p : TimePulse} {s : State} :
    pulseDue p s = true ↔ s.pulses[pulseIdx p].on = true ∧ s.pulses[pulseIdx p].msLeft = 0 := by
  simp [pulseDue]

theorem lateHead_isSome_iff {s : State} :
    (lateHead s).isSome = true ↔ ∃ e, s.moulder.head? = some e ∧ getPar s .moulderTransitMs < e.age := by
  simp [lateHead, Option.isSome_filter, Option.any_eq_true]

theorem evaluationDue_iff {s : State} :
    evaluationDue s = true ↔ ∃ e, s.engine = some e ∧ 200 ≤ (s.us - e.startUs).toNat := by
  simp only [evaluationDue, Option.any_eq_true, decide_eq_true_eq]
  rfl

theorem startDue_iff {s : State} :
    startDue s = true ↔
      s.planQueue ≠ [] ∧ (s.engine = none ∨ ∃ e, s.engine = some e ∧ 200 ≤ (s.us - e.startUs).toNat) := by
  simp only [startDue, Bool.and_eq_true, Bool.or_eq_true, evaluationDue_iff, Bool.not_eq_true',
    List.isEmpty_eq_false_iff, Option.isNone_iff_eq_none]

theorem mem_watchCommands {s : State} {l : Fin 8} {c : Instr} :
    c ∈ watchCommands s l ↔
      c = .dropWatchExpiry l ∧
        ∃ w ∈ s.lanes[l].watch, decide (getPar s .dropConfirmMs < (s.ms - w.fireTime).toNat) = true := by
  rw [watchCommands, List.mem_replicate, ← Nat.pos_iff_ne_zero, List.countP_pos_iff, and_comm]
  rfl

/-- The alternatives of what is due, in the order in which they join the queue. -/
theorem mem_dueCommands {s : State} {c : Instr} :
    c ∈ dueCommands s ↔
      (strobeDue s = true ∧ c = .strobeEnd) ∨ (∃ i, jamDue s i = true ∧ c = .jamTimerExpiry i) ∨
      (s.stall = some 0 ∧ c = .speedStallTimeout) ∨ (∃ p, pulseDue p s = true ∧ c = .timePulseExpiry p) ∨
      (s.gapTimer = some 0 ∧ c = .gapTimerExpiry) ∨ ((lateHead s).isSome = true ∧ c = .moulderTransitExpiry) ∨
      (evaluationDue s = true ∧ c = .evaluationCompletion) ∨ (startDue s = true ∧ c = .evaluationStart) ∨
      (∃ l, c ∈ watchCommands s l) ∨ (s.port.timer = some 0 ∧ c = .handshakeTimeout) ∨
      (s.replyTimer = some 0 ∧ c = .replyTimerExpiry) := by
  have hpulse : (∃ p, pulseDue p s = true ∧ c = .timePulseExpiry p) ↔
      (pulseDue .gate s = true ∧ c = .timePulseExpiry .gate) ∨ (pulseDue .kick s = true ∧ c = .timePulseExpiry .kick) ∨
      (pulseDue .eject s = true ∧ c = .timePulseExpiry .eject) := by
    constructor
    · rintro ⟨p, h⟩
      cases p with
      | gate => exact .inl h
      | kick => exact .inr (.inl h)
      | eject => exact .inr (.inr h)
    · rintro (h | h | h) <;> exact ⟨_, h⟩
  simp only [dueCommands, List.mem_append, List.mem_flatMap, mem_indices, true_and, mem_dueIf, beq_iff_eq, hpulse,
    or_assoc]

theorem count_dueIf_of_ne {b : Bool} {c d : Instr} (h : d ≠ c) : (dueIf b d).count c = 0 := by
  rw [List.count_eq_zero, mem_dueIf]
  exact fun hmem => h hmem.2.symm

theorem count_watchCommands_of_ne {s : State} {k l : Fin 8} (h : k ≠ l) :
    (watchCommands s k).count (.dropWatchExpiry l) = 0 := by
  rw [List.count_eq_zero, mem_watchCommands]
  rintro ⟨heq, -⟩
  exact h (Instr.dropWatchExpiry.inj heq).symm

/-- Each lane is dealt with once, so its expiries are those of its own list (R143). -/
theorem count_flatMap_watchCommands (s : State) (l : Fin 8) :
    ((indices 8).flatMap (watchCommands s)).count (.dropWatchExpiry l) =
      s.lanes[l].watch.countP (fun w => decide (getPar s .dropConfirmMs < watchAge s w)) := by
  have hothers : ∀ k, k ≠ l → k ∈ indices 8 → (List.count (.dropWatchExpiry l) ∘ watchCommands s) k = 0 :=
    fun k hk _ => count_watchCommands_of_ne hk
  rw [List.count_flatMap, List.sum_map_eq_nsmul_single l _ hothers,
    List.count_eq_one_of_mem (indices_nodup 8) (mem_indices l), one_nsmul]
  exact List.count_replicate_self ..

theorem count_dropWatchExpiry_dueCommands (s : State) (l : Fin 8) :
    (dueCommands s).count (.dropWatchExpiry l) =
      s.lanes[l].watch.countP (fun w => decide (getPar s .dropConfirmMs < watchAge s w)) := by
  have hjam : ((indices 6).flatMap (fun i => dueIf (jamDue s i) (.jamTimerExpiry i))).count (.dropWatchExpiry l) = 0 := by
    simp [List.count_eq_zero]
  simp [dueCommands, List.count_append, count_dueIf_of_ne, hjam, count_flatMap_watchCommands]

/-- The start of an evaluation comes directly behind the completion of the one before (R47, R48). -/
theorem dueCommands_completion_start {s : State} (he : evaluationDue s = true) (hs : startDue s = true) :
    ∃ before rest, dueCommands s = before ++ .evaluationCompletion :: .evaluationStart :: rest := by
  rw [dueCommands, he, hs]
  iterate 4 rw [List.append_assoc]
  exact ⟨_, _, rfl⟩

theorem dueEventsJoinTheQueue : Claims.DueEventsJoinTheQueue := by
  refine fun s => ⟨fun c => ?_, count_dropWatchExpiry_dueCommands s, fun hdone hwaits =>
    dueCommands_completion_start (evaluationDue_iff.2 hdone) (startDue_iff.2 ⟨hwaits, .inr hdone⟩)⟩
  rw [mem_dueCommands]
  simp only [strobeDue_iff, jamDue_iff, pulseDue_iff, lateHead_isSome_iff, evaluationDue_iff, startDue_iff,
    mem_watchCommands]
  constructor
  · rintro (⟨h, rfl⟩ | ⟨_, h, rfl⟩ | ⟨h, rfl⟩ | ⟨_, h, rfl⟩ | ⟨h, rfl⟩ | ⟨h, rfl⟩ | ⟨h, rfl⟩ | ⟨h, rfl⟩ |
      ⟨_, rfl, h⟩ | ⟨h, rfl⟩ | ⟨h, rfl⟩) <;> exact h
  · intro h
    cases c with
    | strobeEnd => simpa using h
    | jamTimerExpiry i => simpa using h
    | speedStallTimeout => simpa using h
    | timePulseExpiry p => simpa using h
    | gapTimerExpiry => simpa using h
    | moulderTransitExpiry => simpa using h
    | evaluationCompletion => simpa using h
    | evaluationStart => simpa using h
    | dropWatchExpiry l => simpa using h
    | handshakeTimeout => simpa using h
    | replyTimerExpiry => simpa using h
    | _ => exact h.elim

end Sys2Proof.Machine

/-- Settles O2, by the equations of a tick and the list of what is due, read both ways. -/
theorem idleStepIsAMicrosecond : Obligations.IdleStepIsAMicrosecond :=
  ⟨Sys2Proof.Machine.aMicrosecondPasses, Sys2Proof.Machine.dueEventsJoinTheQueue⟩

/-! PROOFS. The resets (R204, R205) and the state they give: POWER_ON_RESET and SOFT_RESET in one equation for the blocks
they reset, and the reset tables of the chapters read off State.reset. -/

namespace Sys2Proof.Machine

open Sys2Proof

/-! ### What a reset does (R204, R205) -/

/-- An event of severity NOTE changes no line state: raising it sets its flag and nothing else (R193, R194). -/
theorem raise_of_note {k : EventKind} {s : State} (h : s.events[eventIdx k].severity = .note) :
    raise k s = setFlag k s := by
  have hstay : escalationOf k (setFlag k s) = none := by
    simp only [Fin.getElem_fin] at h
    simp [escalationOf, setFlag, h, escalated]
  simp [raise, hstay]

/-- PRINTER_FAULT, NOTE after reset, ends a reset as a flag alone (R162, R200). -/
theorem resetBlocks_eq (cmd : CommandPort) (s : State) : resetBlocks cmd s = s.afterReset cmd := by
  cases hp : s.port.pfault with
  | false => simp [resetBlocks, State.afterReset, hp]
  | true =>
    simp only [resetBlocks, State.afterReset, hp, if_true]
    rw [raise_of_note (by rfl)]
    rfl

theorem exec_powerOnReset (s : State) :
    exec .powerOnReset s = .next (s.afterReset (resetCommandPort s.cmd.ssLow)) :=
  congrArg Host.Outcome.next (resetBlocks_eq _ s)

theorem exec_softReset_listens (x : Xfer) {s : State} (hs : s.Listens) :
    exec (.softReset x) s = .next (s.afterReset (softCommandPort x.seq)) := by
  have hframe : exec (.softReset x) s = .next (resetBlocks (softCommandPort x.seq) (s.taken x 0x05 [])) :=
    hostFrame_listens x 0x05 [] _ s hs (by decide) (by decide)
  rw [hframe, resetBlocks_eq]
  rfl

/-- The RESET_DONE of a power-on reset, with its CRC (R204, R211). -/
theorem resetCommandPort_response (ssLow : Bool) :
    (resetCommandPort ssLow).response = responseFrame 0 0x00 .resetDone [0] := by
  revert ssLow; decide +kernel

theorem resetsRestore : Claims.ResetsRestore := by
  refine ⟨fun s => ?_, fun x s hs => exec_softReset_listens x hs⟩
  rw [exec_powerOnReset, ← resetCommandPort_response s.cmd.ssLow]
  rfl

/-! ### The reset tables of the chapters -/

theorem sensingAfterReset : Claims.SensingAfterReset := by
  refine ⟨rfl, rfl, rfl, rfl, rfl, ?channels, ?encoders⟩
  case channels => decide
  case encoders => decide

theorem trackingAfterReset : Claims.TrackingAfterReset := by
  refine ⟨rfl, rfl, rfl, rfl, rfl, rfl, rfl, rfl, rfl, rfl, rfl, ?grades, ?tools, rfl, rfl, rfl, rfl, rfl, rfl, ?lugs,
    rfl, rfl, rfl, rfl⟩
  case grades => decide
  case tools => decide
  case lugs => decide

theorem outputsAfterReset : Claims.OutputsAfterReset := by
  refine ⟨?outputs, ?pulses, ?lanes, rfl, rfl, rfl, rfl, rfl, rfl, rfl, rfl, rfl, rfl, rfl, rfl, rfl, rfl, ?stations,
    rfl, rfl, rfl, rfl, rfl⟩
  case outputs => decide
  case pulses => intro p; cases p <;> decide
  case lanes => decide
  case stations => decide

theorem lineAfterReset : Claims.LineAfterReset := by
  refine ⟨rfl, rfl, rfl, rfl, rfl, rfl, ?events, rfl, rfl, resetCommandPort_response false, ?params⟩
  case events => intro k; cases k <;> decide
  case params => decide

end Sys2Proof.Machine

/-- Settles O3: the two resets by their equations, the tables by reading them off State.reset. -/
theorem resetsGiveTheResetState : Obligations.ResetsGiveTheResetState :=
  ⟨Sys2Proof.Machine.resetsRestore, Sys2Proof.Machine.sensingAfterReset, Sys2Proof.Machine.trackingAfterReset,
    Sys2Proof.Machine.outputsAfterReset, Sys2Proof.Machine.lineAfterReset⟩

/-! PROOFS. The invariants at reset, and every step: queues within their capacities, parameters in their ranges, at most one
tool set mounted, the speed monitor sound. `Keeps s t` says it of two states; one lemma for each operation, along the
operations' own call graph, as Laws/Frames.lean has them for the frames. -/

namespace Sys2Proof.Machine

open Sys2Proof

set_option Elab.async false

/-! ### Reset (O53) -/

theorem reset_bounded : State.reset.Bounded where
  infeed := by decide
  moulder := by decide
  watch := by decide
  fifo := by decide
  history := by decide

theorem reset_inRange : State.reset.InRange where
  low p := by cases p <;> decide
  high p := by cases p <;> decide
  baud := by decide

theorem reset_outputsAgree : State.reset.OutputsAgree where
  sound o := by revert o; unfold CountedOut.Sound; decide
  stopped _ := by decide
  pulses _ := by decide
  forced h := absurd rfl h

theorem reset_speedSound : State.reset.SpeedSound where
  short _ := rfl
  most := by decide
  reverse h := by cases h

theorem reset_toolsSound : State.reset.ToolsSound where
  one := by decide
  wear := by decide

theorem reset_ringSound : State.reset.RingSound where
  last := by decide
  empty := by decide

/-- No lane holds a bundle after reset. -/
theorem reset_bundle (l : Fin 8) : State.reset.lanes[l].bundle = none := by revert l; decide

theorem reset_accounts : State.reset.Accounts where
  graded _ h := absurd h List.not_mem_nil
  bundles l b h := by rw [reset_bundle] at h; cases h

theorem reset_placed : State.reset.Placed where
  tickets := List.nodup_nil
  range := by decide
  infeed := ⟨List.nodup_nil, fun _ h => absurd h List.not_mem_nil⟩
  moulder := ⟨List.nodup_nil, fun _ h => absurd h List.not_mem_nil⟩
  holding _ h := by cases h
  lugs j t h := by
    have hempty : ∀ j : Fin 40, State.reset.lugs[j].ticket = none := by decide
    rw [hempty] at h; cases h
  held _ h := absurd h List.not_mem_nil

theorem reset_planned : State.reset.Planned where
  queue := ⟨List.nodup_nil, fun _ h => absurd h List.not_mem_nil⟩
  measuring _ h := absurd h List.not_mem_nil
  reported _ h := absurd h List.not_mem_nil
  engine _ h := by cases h

theorem reset_tracked : State.reset.Tracked :=
  ⟨reset_bounded, reset_inRange, reset_ringSound, reset_placed, reset_planned⟩

theorem reset_labelsSound : State.reset.LabelsSound where
  lanes := List.nodup_nil
  closed _ h := absurd h List.not_mem_nil
  opened l b _ h := by rw [reset_bundle] at h; cases h
  current _ h := by cases h

/-! ### What an operation keeps -/

/-- From `s` to `t` every parameter stays in its range, no queue is taken beyond its capacity, at most one tool set stays
mounted, at its wear class, and the speed monitor stays sound. -/
structure Keeps (s t : State) : Prop where
  inRange : s.InRange → t.InRange
  bounded : s.InRange → s.Bounded → t.Bounded
  tools   : s.ToolsSound → t.ToolsSound
  speed   : s.SpeedSound → t.SpeedSound

/-- From `s` to `t` no event flag is cleared, and LATE_FIRE stays as it is. -/
structure FlagsStay (s t : State) : Prop where
  flags : ∀ k, s.events[eventIdx k].flag = true → t.events[eventIdx k].flag = true
  late  : t.events[eventIdx .lateFire] = s.events[eventIdx .lateFire]

/-- What the work of the part away from the host's settings and from an arming does: it keeps the invariants, clears no
flag and raises no LATE_FIRE. -/
structure Works (s t : State) : Prop extends Keeps s t, FlagsStay s t

variable {s t u : State}

theorem Keeps.refl (s : State) : Keeps s s := ⟨id, fun _ => id, id, id⟩

theorem Keeps.trans (h : Keeps s t) (g : Keeps t u) : Keeps s u where
  inRange := g.inRange ∘ h.inRange
  bounded hr hb := g.bounded (h.inRange hr) (h.bounded hr hb)
  tools := g.tools ∘ h.tools
  speed := g.speed ∘ h.speed

theorem FlagsStay.refl (s : State) : FlagsStay s s := ⟨fun _ => id, rfl⟩

theorem FlagsStay.trans (h : FlagsStay s t) (g : FlagsStay t u) : FlagsStay s u :=
  ⟨fun k => g.flags k ∘ h.flags k, g.late.trans h.late⟩

theorem FlagsStay.of_events (h : t.events = s.events := by rfl) : FlagsStay s t := by
  constructor <;> simp [h]

theorem FlagsStay.foldl {α : Type} {f : State → α → State} (h : ∀ s a, FlagsStay s (f s a)) (xs : List α) (s : State) :
    FlagsStay s (xs.foldl f s) := by
  induction xs generalizing s with
  | nil => exact .refl s
  | cons a as ih => exact (h s a).trans (ih _)

theorem Works.refl (s : State) : Works s s := ⟨.refl s, .refl s⟩

theorem Works.trans (h : Works s t) (g : Works t u) : Works s u := ⟨h.toKeeps.trans g.toKeeps, h.toFlagsStay.trans g.toFlagsStay⟩

theorem Keeps.foldl {α : Type} {f : State → α → State} (h : ∀ s a, Keeps s (f s a)) (xs : List α) (s : State) :
    Keeps s (xs.foldl f s) := by
  induction xs generalizing s with
  | nil => exact .refl s
  | cons a as ih => exact (h s a).trans (ih _)

theorem Works.foldl {α : Type} {f : State → α → State} (h : ∀ s a, Works s (f s a)) (xs : List α) (s : State) :
    Works s (xs.foldl f s) := by
  induction xs generalizing s with
  | nil => exact .refl s
  | cons a as ih => exact (h s a).trans (ih _)

/-! ### What depends on a field alone -/

theorem getPar_of_params (h : t.params = s.params) (p : Param) : getPar t p = getPar s p := by
  simp [getPar, h]

theorem paramHigh_of_params (h : t.params = s.params) (p : Param) : paramHigh t p = paramHigh s p := by
  cases p <;> simp [paramHigh, getPar_of_params h]

theorem State.InRange.of_params (hs : s.InRange) (h : t.params = s.params) : t.InRange where
  low p := getPar_of_params h p ▸ hs.low p
  high p := by rw [getPar_of_params h, paramHigh_of_params h]; exact hs.high p
  baud := by rw [getPar_of_params h]; exact hs.baud

theorem State.ToolsSound.of_tools (hs : s.ToolsSound) (h : t.tools = s.tools) : t.ToolsSound where
  one := by rw [h]; exact hs.one
  wear := by rw [h]; exact hs.wear

theorem State.SpeedSound.of_fields (hs : s.SpeedSound) (hh : t.history = s.history) (hv : t.speed = s.speed)
    (hd : t.ch.direction = s.ch.direction) : t.SpeedSound where
  short := by rw [hh, hv]; exact hs.short
  most := by rw [hv]; exact hs.most
  reverse := by rw [hd, hh, hv]; exact hs.reverse

/-- An update that leaves the parameters, the tool sets and the speed monitor as they are. -/
theorem Keeps.of_bounded (hb : s.InRange → s.Bounded → t.Bounded) (hp : t.params = s.params := by rfl)
    (ht : t.tools = s.tools := by rfl) (hh : t.history = s.history := by rfl) (hv : t.speed = s.speed := by rfl)
    (hd : t.ch.direction = s.ch.direction := by rfl) : Keeps s t where
  inRange hs := hs.of_params hp
  bounded := hb
  tools hs := hs.of_tools ht
  speed hs := hs.of_fields hh hv hd

/-- An update that lengthens no queue, and leaves the parameters, the tool sets and the speed monitor as they are. -/
theorem Keeps.of_shrunk (hp : t.params = s.params := by rfl)
    (hi : t.infeed.length ≤ s.infeed.length := by exact Nat.le_refl _)
    (hm : t.moulder.length ≤ s.moulder.length := by exact Nat.le_refl _)
    (hw : ∀ l : Fin 8, t.lanes[l].watch.length ≤ s.lanes[l].watch.length := by exact fun _ => Nat.le_refl _)
    (hf : t.port.fifo.length ≤ s.port.fifo.length := by exact Nat.le_refl _)
    (ht : t.tools = s.tools := by rfl) (hh : t.history = s.history := by rfl) (hv : t.speed = s.speed := by rfl)
    (hd : t.ch.direction = s.ch.direction := by rfl) : Keeps s t :=
  .of_bounded (fun _ hs => ⟨hi.trans hs.infeed, hm.trans hs.moulder, fun l => (hw l).trans (hs.watch l),
    hf.trans hs.fifo, hh ▸ hs.history⟩) hp ht hh hv hd

/-- `Keeps.of_shrunk` for an update that leaves the events as they are. -/
theorem Works.of_shrunk (hp : t.params = s.params := by rfl)
    (hi : t.infeed.length ≤ s.infeed.length := by exact Nat.le_refl _)
    (hm : t.moulder.length ≤ s.moulder.length := by exact Nat.le_refl _)
    (hw : ∀ l : Fin 8, t.lanes[l].watch.length ≤ s.lanes[l].watch.length := by exact fun _ => Nat.le_refl _)
    (hf : t.port.fifo.length ≤ s.port.fifo.length := by exact Nat.le_refl _)
    (ht : t.tools = s.tools := by rfl) (hh : t.history = s.history := by rfl) (hv : t.speed = s.speed := by rfl)
    (hd : t.ch.direction = s.ch.direction := by rfl) (he : t.events = s.events := by rfl) : Works s t :=
  ⟨.of_shrunk hp hi hm hw hf ht hh hv hd, .of_events he⟩

theorem RaiseFrame.keeps (h : RaiseFrame s t) : Keeps s t := by
  unfold RaiseFrame at h
  rw [h]
  exact .of_shrunk

/-! ### Raising an event -/

theorem eventIdx_injective {k l : EventKind} (h : eventIdx k = eventIdx l) : k = l := by
  have hlist (k : EventKind) : eventKinds[(eventIdx k).val]? = some k := by cases k <;> rfl
  exact Option.some.inj ((hlist k).symm.trans (h ▸ hlist l))

theorem setFlag_events (k l : EventKind) (s : State) :
    (setFlag k s).events[eventIdx l] =
      if l = k then { s.events[eventIdx l] with flag := true } else s.events[eventIdx l] := by
  have hidx : eventIdx l = eventIdx k ↔ l = k := ⟨eventIdx_injective, congrArg eventIdx⟩
  simp only [setFlag, modifyAt_get, hidx]

theorem setFlag_flags {k : EventKind} (hk : k ≠ .lateFire) (s : State) : FlagsStay s (setFlag k s) where
  flags l hl := by rw [setFlag_events]; split <;> simp_all
  late := by rw [setFlag_events, if_neg hk.symm]

theorem releaseForced_flags (s : State) : FlagsStay s (releaseForced s) := .of_events

theorem stopPulses_flags (s : State) : FlagsStay s (stopPulses s) := .of_events

theorem raiseQuiet_flags {k : EventKind} (hk : k ≠ .lateFire) (s : State) : FlagsStay s (raiseQuiet k s) := by
  unfold raiseQuiet
  dsimp only
  split
  · exact setFlag_flags hk s
  · exact (setFlag_flags hk s).trans .of_events

theorem missPulse_flags {r : EventKind → State → State} (hr : ∀ s, FlagsStay s (r .missedActuation s)) (o : Fin 24)
    (p : Pulse) (s : State) : FlagsStay s (missPulse r o p s) := by
  unfold missPulse
  split
  · exact FlagsStay.trans (t := markMissedCut p s) .of_events (hr _)
  · exact hr s

theorem stopActive_flags (o : Fin 24) (c : CountedOut) (s : State) : FlagsStay s (stopActive o c s) := by
  unfold stopActive
  split
  · exact .refl s
  · split
    · split
      · exact .of_events
      · exact .refl s
    · exact missPulse_flags (raiseQuiet_flags (by decide)) o _ s

theorem stopOut_flags (s : State) (o : Fin 24) : FlagsStay s (stopOut s o) := by
  have h : FlagsStay s (stopActive o s.outs[o] (updateOut o idleOut s)) :=
    FlagsStay.trans (t := updateOut o idleOut s) .of_events (stopActive_flags _ _ _)
  unfold stopOut
  dsimp only
  split
  · exact h
  · exact h.trans (missPulse_flags (raiseQuiet_flags (by decide)) o _ _)

theorem stopOuts_flags (after : LineState) (s : State) :
    FlagsStay s (stopPulses ((indices 24).foldl stopOut { s with line := after })) :=
  FlagsStay.trans (t := { s with line := after }) .of_events
    ((FlagsStay.foldl stopOut_flags _ _).trans (stopPulses_flags _))

theorem enterLine_flags (after : LineState) (s : State) : FlagsStay s (enterLine after s) := by
  have h := stopOuts_flags after s
  unfold enterLine
  dsimp only
  split <;> split
  · exact h.trans (releaseForced_flags _)
  · exact .of_events
  · exact h
  · exact .of_events

theorem raise_flags {k : EventKind} (hk : k ≠ .lateFire) (s : State) : FlagsStay s (raise k s) := by
  unfold raise
  dsimp only
  split
  · exact setFlag_flags hk s
  · exact (setFlag_flags hk s).trans (.trans .of_events (enterLine_flags _ _))

theorem raise_keeps (k : EventKind) (s : State) : Keeps s (raise k s) := (raise_frame k s).keeps

theorem raise_works (k : EventKind) (s : State) (hk : k ≠ .lateFire := by decide) : Works s (raise k s) :=
  ⟨raise_keeps k s, raise_flags hk s⟩

/-! ### Records, bundles, labels, the port -/

theorem updateStrip_works (t : Nat) (f : Strip → Strip) (s : State) : Works s (updateStrip t f s) := .of_shrunk

theorem updateOut_works (o : Fin 24) (f : CountedOut → CountedOut) (s : State) : Works s (updateOut o f s) := .of_shrunk

theorem updateLabel_works (l : Fin 8) (f : Label → Label) (s : State) : Works s (updateLabel l f s) := .of_shrunk

theorem setSawDone_works (j : Fin 40) (t : Nat) (s : State) : Works s (setSawDone j t s) := .of_shrunk

theorem updateLane_works (l : Fin 8) (f : Lane → Lane) (s : State)
    (hf : ∀ r, (f r).watch.length ≤ r.watch.length := by exact fun _ => Nat.le_refl _) : Works s (updateLane l f s) := by
  refine .of_shrunk (hw := fun k => ?_)
  simp only [updateLane, modifyAt_get]
  split
  · exact hf _
  · exact Nat.le_refl _

theorem updateBundle_works (l : Fin 8) (f : Bundle → Bundle) (s : State) : Works s (updateBundle l f s) :=
  updateLane_works l _ s

theorem evalPermit_works (s : State) : Works s (evalPermit s) := by
  unfold evalPermit
  split
  · exact .of_shrunk
  · split
    · exact .of_shrunk
    · exact .refl s

theorem dropPlan_works (t : Nat) (s : State) : Works s (dropPlan t s) := by
  unfold dropPlan
  split
  · exact .of_shrunk
  · exact .of_shrunk
  · exact .refl s

theorem freeSlot_works (t : Nat) (s : State) : Works s (freeSlot t s) := .of_shrunk

theorem leaveInfeed_works (t : Nat) (s : State) : Works s (leaveInfeed t s) := by
  unfold leaveInfeed
  split
  · exact Works.trans (.of_shrunk (hi := List.length_filter_le ..)) (evalPermit_works _)
  · exact .refl s

theorem leaveMoulder_works (t : Nat) (s : State) : Works s (leaveMoulder t s) :=
  .of_shrunk (hm := List.length_filter_le ..)

theorem leaveHolding_works (t : Nat) (s : State) : Works s (leaveHolding t s) := by
  unfold leaveHolding
  split
  · exact .of_shrunk
  · exact .refl s

theorem clearLugsOf_works (t : Nat) (s : State) : Works s (clearLugsOf t s) := .of_shrunk

theorem withdrawPulses_works (t : Nat) (s : State) : Works s (withdrawPulses t s) := .of_shrunk

theorem retireCore_works (t : Nat) (s : State) : Works s (retireCore t s) :=
  (dropPlan_works t s).trans <| (freeSlot_works t _).trans <| (leaveInfeed_works t _).trans <|
    (leaveMoulder_works t _).trans <| (leaveHolding_works t _).trans <| (clearLugsOf_works t _).trans <|
      withdrawPulses_works t _

theorem openBundle_works (l : Fin 8) (s : State) : Works s (openBundle l s) :=
  Works.trans (t := { s with nextBundle := nextNumber (offer (liveBundles s) (liveBundles s).length s.nextBundle) })
    .of_shrunk (updateLane_works l _ _)

theorem retireBundle_works (l : Fin 8) (s : State) : Works s (retireBundle l s) := by
  have h : Works s (updateLane l (fun r => { r with bundle := none }) s) := updateLane_works l _ s
  unfold retireBundle
  dsimp only
  split
  · exact h.trans (openBundle_works l _)
  · exact h.trans (updateLane_works l _ _)

theorem bundleTest_works (l : Fin 8) (s : State) : Works s (bundleTest l s) := by
  unfold bundleTest
  split
  · split
    · exact retireBundle_works l s
    · exact .refl s
  · exact .refl s

theorem handLabelDone_works (l : Fin 8) (s : State) : Works s (handLabelDone l s) :=
  (updateBundle_works l _ s).trans (bundleTest_works l _)

theorem setCleared_works (l : Fin 8) (s : State) : Works s (setCleared l s) :=
  (updateBundle_works l _ s).trans (bundleTest_works l _)

theorem issueStrobe_works (e : Entry) (s : State) : Works s (issueStrobe e s) := .of_shrunk

theorem strobeTest_works (s : State) : Works s (strobeTest s) := by
  unfold strobeTest
  split
  · split
    · exact .refl s
    · exact issueStrobe_works _ s
  · exact .refl s

theorem startHandshake_works (s : State) : Works s (startHandshake s) := by
  unfold startHandshake
  split
  · exact Works.trans .of_shrunk (strobeTest_works _)
  · exact .refl s

theorem flushPort_works (s : State) : Works s (flushPort s) := .of_shrunk (hf := Nat.zero_le _)

/-- An entry enters the FIFO only while it has room (R156). -/
theorem fillOne_works (s : State) : Works s (fillOne s) := by
  unfold fillOne
  split
  · next hroom =>
    split
    · exact .refl s
    · refine ⟨.of_bounded fun _ hs => ⟨hs.infeed, hs.moulder, hs.watch, ?_, hs.history⟩, .of_events⟩
      simpa using hroom
  · exact .refl s

theorem fillFifo_works (n : Nat) (s : State) : Works s (fillFifo n s) := by
  induction n generalizing s with
  | zero => exact .refl s
  | succ n ih => exact (fillOne_works s).trans (ih _)

theorem compose_works (s : State) : Works s (compose s) := (fillFifo_works _ s).trans (startHandshake_works _)

theorem composerTest_works (s : State) : Works s (composerTest s) := by
  unfold composerTest
  split
  · split
    · exact .refl s
    · exact Works.trans .of_shrunk ((updateLabel_works _ _ _).trans (compose_works _))
  · exact .refl s

theorem queueLabel_works (l : Fin 8) (b : Bundle) (s : State) : Works s (queueLabel l b s) :=
  Works.trans .of_shrunk (composerTest_works _)

theorem removeLabel_works (l : Fin 8) (s : State) : Works s (removeLabel l s) := .of_shrunk

theorem dropCurrent_works (s : State) : Works s (dropCurrent s) := .of_shrunk

theorem labelPrinted_works (l : Fin 8) (s : State) : Works s (labelPrinted l s) :=
  (removeLabel_works l s).trans <| (dropCurrent_works _).trans <| (handLabelDone_works l _).trans (composerTest_works _)

theorem completeByte_works (s : State) : Works s (completeByte s) := by
  unfold completeByte
  split
  · exact .refl s
  · next e rest hfifo =>
    have h : Works s { s with port := { s.port with timer := none, held := false, fifo := rest, handshake := .idle } } :=
      .of_shrunk (hf := by simp [hfifo])
    dsimp only
    refine Works.trans ?_ (startHandshake_works _)
    split
    · split
      · exact h.trans (raise_works .fifoLow _)
      · exact h
    · split
      · split
        · exact h.trans (labelPrinted_works _ _)
        · exact h.trans (fillOne_works _)
      · exact h
    · exact h

theorem busyEdge_works (high : Bool) (s : State) : Works s (busyEdge high s) := by
  unfold busyEdge
  split
  · exact .of_shrunk
  · split
    · exact .of_shrunk
    · exact .refl s
  · exact .of_shrunk
  · exact completeByte_works s
  · exact strobeTest_works s
  · exact .refl s

theorem endStrobe_works (s : State) : Works s (endStrobe s) := by
  have h : Works s { s with port := { s.port with pstb := false, strobeLeft := 0 } } := .of_shrunk
  unfold endStrobe
  dsimp only
  split
  · exact h.trans (completeByte_works _)
  · split
    · exact .of_shrunk
    · exact .of_shrunk

theorem faultAsserted_works (s : State) : Works s (faultAsserted s) := by
  unfold faultAsserted
  refine Works.trans ?_ (raise_works .printerFault _)
  split
  · exact .of_shrunk
  · exact .refl s

theorem faultCleared_works (s : State) : Works s (faultCleared s) := by
  unfold faultCleared
  refine Works.trans ?_ (strobeTest_works _)
  split
  · exact .of_shrunk
  · exact .refl s

theorem endTry_works (s : State) : Works s (endTry s) := by
  unfold endTry
  split
  · exact (dropCurrent_works s).trans (composerTest_works _)
  · split
    · exact (updateLabel_works _ _ s).trans <| (dropCurrent_works _).trans (composerTest_works _)
    · exact (updateLabel_works _ _ s).trans <| (dropCurrent_works _).trans <|
        (raise_works .labelFailed _).trans (composerTest_works _)

theorem portTimeout_works (s : State) : Works s (portTimeout s) := by
  have h : Works s (raise .portTimeout (flushPort s)) := (flushPort_works s).trans (raise_works .portTimeout _)
  unfold portTimeout
  dsimp only
  split
  · exact h.trans (endTry_works _)
  · exact h

/-! ### Lanes and drop watch -/

theorem closeBundle_works (l : Fin 8) (why : CloseReason) (s : State) : Works s (closeBundle l why s) := by
  unfold closeBundle
  dsimp only
  have h : Works s (raise .bundleClosed (updateLane l (fun r => { r with state := .closed })
      (updateBundle l (fun b => { b with closeReason := some why }) s))) :=
    (updateBundle_works l _ s).trans <| (updateLane_works l _ _).trans (raise_works .bundleClosed _)
  split
  · exact h.trans (queueLabel_works _ _ _)
  · exact h

theorem markDoubtful_works (l : Fin 8) (n : Nat) (s : State) : Works s (markDoubtful l n s) := by
  have h : Works s (updateBundle l (fun b => { b with doubtful := true }) s) := updateBundle_works l _ s
  unfold markDoubtful
  split
  · split
    · dsimp only
      split
      · exact h.trans (updateLabel_works _ _ _)
      · exact h
    · exact .refl s
  · exact .refl s

/-- The drop watch lists, by the frame of a raising. -/
theorem raise_lanes (k : EventKind) (s : State) : (raise k s).lanes = s.lanes := by
  have h := raise_frame k s
  unfold RaiseFrame at h
  rw [h]

theorem markDoubtful_watch (l : Fin 8) (n : Nat) (s : State) (k : Fin 8) :
    (markDoubtful l n s).lanes[k].watch = s.lanes[k].watch := by
  have h : (updateBundle l (fun b => { b with doubtful := true }) s).lanes[k].watch = s.lanes[k].watch := by
    simp only [updateBundle, updateLane, modifyAt_get]; split <;> rfl
  unfold markDoubtful
  split
  · split
    · dsimp only
      split
      · exact h
      · exact h
    · rfl
  · rfl

/-- The oldest entry leaves its lane's list (R143). -/
theorem expireWatch_watch (l : Fin 8) (s : State) : (expireWatch l s).lanes[l].watch = s.lanes[l].watch.tail := by
  unfold expireWatch
  split
  · next h => rw [h]; rfl
  · next w rest h =>
    have hrest : (raise .missedDrop (updateLane l (fun r => { r with watch := rest }) s)).lanes[l].watch = rest := by
      simp [raise_lanes, updateLane]
    dsimp only
    rw [h, List.tail_cons]
    split
    · rw [markDoubtful_watch, hrest]
    · exact hrest

theorem expireWatch_works (l : Fin 8) (s : State) : Works s (expireWatch l s) := by
  unfold expireWatch
  split
  · exact .refl s
  · next w rest hw =>
    have hpop : Works s (updateLane l (fun r => { r with watch := rest }) s) := by
      refine .of_shrunk (hw := fun k => ?_)
      simp only [updateLane, modifyAt_get]
      split
      · next hk => rw [hk, hw]; exact Nat.le_succ _
      · exact Nat.le_refl _
    have h := hpop.trans (raise_works .missedDrop _)
    dsimp only
    split
    · exact h.trans (markDoubtful_works _ _ _)
    · exact h

theorem expireWatches_works (l : Fin 8) (n : Nat) (s : State) : Works s (expireWatches l n s) := by
  induction n generalizing s with
  | zero => exact .refl s
  | succ n ih =>
    unfold expireWatches
    split
    · exact (expireWatch_works l s).trans (ih _)
    · exact .refl s

/-- An entry is appended to a list that has room for it. -/
theorem Works.pushWatch (h : Works s t) (l : Fin 8) (w : Watch)
    (hroom : s.Bounded → t.lanes[l].watch.length < Config.watchCapacity) :
    Works s (updateLane l (fun r => { r with watch := r.watch ++ [w] }) t) := by
  have hkeep : Keeps s (updateLane l (fun r => { r with watch := r.watch ++ [w] }) t) := by
    refine ⟨fun hr => (h.inRange hr).of_params rfl, fun hr hs => ?_, fun hs => (h.tools hs).of_tools rfl,
      fun hs => (h.speed hs).of_fields rfl rfl rfl⟩
    obtain ⟨hinfeed, hmoulder, hwatch, hfifo, hhistory⟩ := h.bounded hr hs
    refine ⟨hinfeed, hmoulder, fun k => ?_, hfifo, hhistory⟩
    simp only [updateLane, modifyAt_get]
    split
    · next hk => rw [hk, List.length_append]; exact hroom hs
    · exact hwatch k
  exact ⟨hkeep, h.toFlagsStay.trans .of_events⟩

/-- The oldest entry makes room for a fifth (R141). -/
theorem appendWatch_works (l : Fin 8) (w : Watch) (s : State) : Works s (appendWatch l w s) := by
  unfold appendWatch
  dsimp only
  split
  · refine (expireWatch_works l s).pushWatch l w fun hs => ?_
    have hfour : s.lanes[l].watch.length ≤ 4 := hs.watch l
    rw [expireWatch_watch, List.length_tail]
    exact Nat.lt_succ_of_le (Nat.sub_le_sub_right hfour 1)
  · next hfull => exact (Works.refl s).pushWatch l w fun _ => Nat.lt_of_not_le hfull

theorem countStrip_works (l : Fin 8) (r : Strip) (s : State) : Works s (countStrip l r s) := by
  unfold countStrip
  split
  · exact updateBundle_works l _ s
  · exact updateLane_works l _ s

theorem closureTest_works (l : Fin 8) (s : State) : Works s (closureTest l s) := by
  unfold closureTest
  split
  · exact .refl s
  · split
    · exact closeBundle_works _ _ _
    · split
      · exact closeBundle_works _ _ _
      · exact .refl s

theorem commitStrip_works (l : Fin 8) (r : Strip) (s : State) : Works s (commitStrip l r s) := by
  have h := ((countStrip_works l r s).trans (retireCore_works r.ticket _)).trans
    (appendWatch_works l (commitWatch l (retireCore r.ticket (countStrip l r s))) _)
  unfold commitStrip
  dsimp only
  split
  · exact h.trans (closureTest_works _ _)
  · exact h

/-! ### Actuators -/

theorem pusherSetPoint_works (o : Fin 24) (l : Fin 8) (p : Pulse) (s : State) : Works s (pusherSetPoint o l p s) := by
  unfold pusherSetPoint
  split
  · exact (updateOut_works o _ s).trans (commitStrip_works _ _ _)
  · exact (updateOut_works o _ s).trans <| (raise_works .divertSuppressed _).trans (updateOut_works o _ _)

theorem pusherMerge_works (o : Fin 24) (l : Fin 8) (p q : Pulse) (s : State) : Works s (pusherMerge o l p q s) := by
  unfold pusherMerge
  split
  · exact (updateOut_works o _ s).trans (commitStrip_works _ _ _)
  · exact (updateOut_works o _ s).trans (raise_works .divertSuppressed _)

theorem takePoint_works (o : Fin 24) (k : Point) (s : State) : Works s (takePoint o k s) := by
  unfold takePoint
  dsimp only
  split
  · split
    · exact updateOut_works o _ s
    · exact pusherSetPoint_works o _ _ s
  · split
    · exact (setSawDone_works _ _ s).trans (updateOut_works o _ _)
    · exact pusherMerge_works o _ _ _ s
  · split
    · exact (setSawDone_works _ _ s).trans (updateOut_works o _ _)
    · exact updateOut_works o _ s
  · exact .refl s

theorem settle_works (order : List (Fin 24)) (atCount : Bool) (n : Nat) (s : State) :
    Works s (settle order atCount n s) := by
  induction n generalizing s with
  | zero => exact .refl s
  | succ n ih =>
    unfold settle
    split
    · exact .refl s
    · exact (takePoint_works _ _ s).trans (ih _)

theorem settleSets_works (s : State) : Works s (settleSets s) := settle_works _ _ _ s

theorem settleCount_works (order : List (Fin 24)) (s : State) : Works s (settleCount order s) := settle_works _ _ _ s

theorem retire_works (t : Nat) (why : RetireReason) (s : State) : Works s (retire t why s) := by
  have h := (retireCore_works t s).trans (settleSets_works _)
  unfold retire
  dsimp only
  split
  · exact h
  · next k hk => exact h.trans (raise_works k _ (by cases why <;> cases hk <;> decide))

theorem missPulse_works (o : Fin 24) (p : Pulse) (s : State) : Works s (missPulse raise o p s) :=
  ⟨(missPulse_frame raise_frame o p s).keeps, missPulse_flags (raise_flags (by decide)) o p s⟩

theorem updateOut_keeps (o : Fin 24) (f : CountedOut → CountedOut) (s : State) : Keeps s (updateOut o f s) :=
  (updateOut_works o f s).toKeeps

/-- An arming may raise LATE_FIRE (R108). -/
theorem arm_keeps (o : Fin 24) (j : Fin 40) (t : Nat) (c0 : Pos) (s : State) : Keeps s (arm o j t c0 s) := by
  have hlate (late : Bool) (s : State) : Keeps s (if late = true then raise .lateFire s else s) := by
    split
    · exact raise_keeps _ _
    · exact .refl s
  unfold arm
  dsimp only
  split
  · exact (missPulse_works o _ s).toKeeps
  · split
    · exact .refl s
    · split
      · exact (updateOut_keeps o _ s).trans <| (hlate _ _).trans (settleSets_works _).toKeeps
      · split
        · exact (hlate _ s).trans (missPulse_works o _ _).toKeeps
        · exact (updateOut_keeps o _ s).trans <| (hlate _ _).trans (settleSets_works _).toKeeps

theorem reverseOut_works (s : State) (o : Fin 24) : Works s (reverseOut s o) := by
  unfold reverseOut
  dsimp only
  split
  · split
    · exact (updateOut_works o _ s).trans (setSawDone_works _ _ _)
    · exact updateOut_works o _ s
  · exact updateOut_works o _ s

theorem turnToReverse_works (s : State) : Works s (turnToReverse s) := Works.foldl reverseOut_works _ _

/-! ### Tool sets -/

theorem mountedSet_some {m : Fin 4} (h : mountedSet s = some m) : s.tools[m].state ≠ .unmounted := by
  simpa using List.find?_some h

theorem mountedSet_none (h : mountedSet s = none) (n : Fin 4) : s.tools[n].state = .unmounted := by
  simpa using List.find?_eq_none.1 h n (mem_indices n)

/-- The sets beside the mounted one are not mounted. -/
theorem State.ToolsSound.others (hs : s.ToolsSound) {m : Fin 4} (hm : mountedSet s = some m) (n : Fin 4) (hn : n ≠ m) :
    s.tools[n].state = .unmounted :=
  Decidable.byContradiction fun h => hn (hs.one n m h (mountedSet_some hm))

/-- One set at its wear class, the others not mounted. -/
theorem toolsSound_of_only {m : Fin 4} (hothers : ∀ n, n ≠ m → s.tools[n].state = .unmounted)
    (hm : s.tools[m].state = wearClass s.tools[m]) : s.ToolsSound := by
  have honly : ∀ n, s.tools[n].state ≠ .unmounted → n = m := fun n hn =>
    Decidable.byContradiction fun h => hn (hothers n h)
  refine ⟨fun n k hn hk => (honly n hn).trans (honly k hk).symm, fun n hn => ?_⟩
  rw [honly n hn, hm]

/-- A change of the tool sets alone, after what keeps the invariants. -/
theorem Keeps.setTools (h : Keeps s t) {tools : Vector Tool 4}
    (ht : s.ToolsSound → State.ToolsSound { t with tools := tools }) : Keeps s { t with tools := tools } where
  inRange hs := (h.inRange hs).of_params rfl
  bounded hr hs := by
    obtain ⟨hinfeed, hmoulder, hwatch, hfifo, hhistory⟩ := h.bounded hr hs
    exact ⟨hinfeed, hmoulder, hwatch, hfifo, hhistory⟩
  tools := ht
  speed hs := (h.speed hs).of_fields rfl rfl rfl

/-- A set takes the wear class of its USED while no other is mounted (R66), in a state that keeps the invariants once the
tool sets of before are put back. -/
theorem classifyTool_keeps (h : Keeps s { t with tools := s.tools }) (m : Fin 4) (before : ToolState)
    (hothers : s.ToolsSound → ∀ n : Fin 4, n ≠ m → t.tools[n].state = .unmounted) :
    Keeps s (classifyTool m before t) := by
  have hclass : Keeps s { t with tools := modifyAt t.tools m (fun k => { k with state := wearClass t.tools[m] }) } := by
    refine h.setTools fun hs => toolsSound_of_only (m := m) (fun n hn => ?_) ?_
    · simpa only [modifyAt_get, if_neg hn] using hothers hs n hn
    · simp only [modifyAt_get, if_true]; rfl
  unfold classifyTool
  dsimp only
  split
  · exact hclass
  · split
    · exact hclass.trans (raise_keeps _ _)
    · exact hclass.trans (raise_keeps _ _)
    · exact hclass

theorem addWear_keeps {m : Fin 4} (hm : mountedSet s = some m) (length : Option Nat) : Keeps s (addWear m length s) := by
  unfold addWear
  split
  · exact .refl s
  · extract_lets worn
    have hrest : Keeps s { worn with tools := s.tools } := .refl s
    refine classifyTool_keeps hrest m worn.tools[m].state fun hs n hn => ?_
    simpa only [worn, modifyAt_get, if_neg hn] using hs.others hm n hn

theorem unmount_unmounted (hs : s.ToolsSound) (n : Fin 4) : (unmount s).tools[n].state = .unmounted := by
  unfold unmount
  split
  · next h => exact mountedSet_none h n
  · next m h =>
    simp only [modifyAt_get]
    split
    · rfl
    · next hn => exact hs.others h n hn

theorem unmount_keeps (s : State) : Keeps s { unmount s with tools := s.tools } := by
  unfold unmount
  split
  · exact .refl s
  · exact .refl s

/-! ### The gate (R70 to R81) -/

/-- All seven release conditions hold: the moulder queue has room (R72). -/
theorem holdReason_none_room (h : holdReason s = none) : s.moulder.length < getPar s .moulderCapacity := by
  unfold holdReason at h
  split at h
  · cases h
  · split at h
    · cases h
    · split at h
      · cases h
      · split at h
        · split at h
          · cases h
          · split_ifs at h
            omega
        · cases h

theorem mountedSet_of_tools (h : t.tools = s.tools) : mountedSet t = mountedSet s := by
  simp [mountedSet, h]

theorem evalPermit_tools (s : State) : (evalPermit s).tools = s.tools := by
  unfold evalPermit
  split
  · rfl
  · split <;> rfl

theorem startPulse_works (p : TimePulse) (q : Param) (s : State) : Works s (startPulse p q s) := .of_shrunk

/-- A release, while the moulder queue has room for the strip (R73). -/
theorem releaseHead_keeps {m : Fin 4} (hm : mountedSet s = some m) (hroom : s.moulder.length < getPar s .moulderCapacity)
    (r : Strip) : Keeps s (releaseHead m r s) := by
  unfold releaseHead
  dsimp only
  refine Keeps.trans (Keeps.trans (.of_bounded fun hr hs => ?_) (evalPermit_works _).toKeeps) (addWear_keeps ?_ r.length)
  · have hcap : getPar s .moulderCapacity ≤ 8 := hr.high .moulderCapacity
    refine ⟨?_, ?_, hs.watch, hs.fifo, hs.history⟩
    · have hinfeed := hs.infeed
      simp only [updateStrip, startPulse, List.length_tail]
      omega
    · simp only [updateStrip, startPulse, List.length_append, List.length_singleton]
      omega
  · rw [mountedSet_of_tools (evalPermit_tools _), ← hm]
    exact mountedSet_of_tools rfl

theorem releaseTest_keeps (s : State) : Keeps s (releaseTest s) := by
  unfold releaseTest
  split
  · next r m hreason _ hm => exact releaseHead_keeps hm (holdReason_none_room hreason) r
  · split
    · exact Keeps.trans .of_shrunk (raise_keeps _ _)
    · exact .refl s
  · exact .refl s

theorem completeChange_keeps (m : Fin 4) (s : State) : Keeps s (completeChange m s) := by
  have hclass : Keeps s (classifyTool m .unmounted (unmount s)) :=
    classifyTool_keeps (unmount_keeps s) m _ fun hs n _ => unmount_unmounted hs n
  exact hclass.trans <| Keeps.trans .of_shrunk <| (raise_keeps .toolChanged _).trans (releaseTest_keeps _)

theorem drainTest_keeps (s : State) : Keeps s (drainTest s) := by
  unfold drainTest
  split
  · exact .refl s
  · split
    · exact completeChange_keeps _ s
    · exact .refl s

theorem transitTest_keeps (n : Nat) (s : State) : Keeps s (transitTest n s) := by
  induction n generalizing s with
  | zero => exact .refl s
  | succ n ih =>
    unfold transitTest
    split
    · exact .refl s
    · exact (retire_works _ _ s).toKeeps.trans <| (releaseTest_keeps _).trans <| (drainTest_keeps _).trans (ih _)

theorem displaceHolding_works (s : State) : Works s (displaceHolding s) := by
  unfold displaceHolding
  split
  · exact .refl s
  · exact retire_works _ _ s

theorem pe3Edge_keeps (s : State) : Keeps s (pe3Edge s) := by
  unfold pe3Edge
  split
  · exact raise_keeps _ s
  · next e rest hmoulder =>
    have hpop : Works s { s with moulder := rest } := .of_shrunk (hm := by simp [hmoulder])
    have hhold (s : State) : Works s { s with holding := some e.ticket, window := getPar s .transferWindow } := .of_shrunk
    have hmatch := (hpop.trans (displaceHolding_works _)).trans (hhold _)
    exact hmatch.toKeeps.trans <| (updateStrip_works _ _ _).toKeeps.trans <| (updateStrip_works _ _ _).toKeeps.trans <|
      (releaseTest_keeps _).trans (drainTest_keeps _)

/-! ### Plans and reports -/

theorem startEvaluation_works (s : State) : Works s (startEvaluation s) := by
  unfold startEvaluation
  split
  · split
    · exact .of_shrunk
    · exact .of_shrunk
  · exact .refl s

theorem finishEvaluation_works (s : State) : Works s (finishEvaluation s) := by
  unfold finishEvaluation
  split
  · exact .refl s
  · dsimp only
    split
    · exact .of_shrunk
    · exact .of_shrunk

theorem withdrawReport_works (s : State) (t : Nat) : Works s (withdrawReport s t) := by
  unfold withdrawReport
  dsimp only
  split
  · exact .of_shrunk
  · exact .of_shrunk

theorem takeReport_works (a : Fin 4) (t n : Nat) (ds : List Defect) (s : State) : Works s (takeReport a t n ds s) := by
  unfold takeReport
  dsimp only
  split
  · exact .of_shrunk
  · exact .of_shrunk

theorem storeManual_works (t : Nat) (v : ManualGrade) (s : State) : Works s (storeManual t v s) := .of_shrunk

theorem withdrawReports_keeps (a : Fin 4) (s : State) : Keeps s (withdrawReports a s) :=
  (Works.foldl withdrawReport_works _ s).toKeeps.trans (releaseTest_keeps _)

/-! ### The infeed queue -/

theorem doubtMeasuring_works (s : State) : Works s (doubtMeasuring s) := by
  unfold doubtMeasuring
  split
  · exact .refl s
  · exact updateStrip_works _ _ s

/-- A record joins the infeed queue only while it has room (R25, R27, R35). -/
theorem joinInfeed_works (hroom : s.infeed.length < Config.infeedCapacity) (stage : Stage) (add : Strip → Strip) :
    Works s (joinInfeed stage add s) := by
  have hpush : Works s { createStrip stage add s with infeed := s.infeed ++ [nextTicketOf s] } := by
    refine ⟨.of_bounded fun _ hs => ⟨?_, hs.moulder, hs.watch, hs.fifo, hs.history⟩, .of_events⟩
    simp only [List.length_append, List.length_singleton]
    exact hroom
  exact hpush.trans (evalPermit_works _)

theorem overrun_works (s : State) : Works s (overrun s) := by
  unfold overrun
  split
  · exact (startPulse_works _ _ s).trans (raise_works .overrun _)
  · exact raise_works .overrun s

theorem pe1Leading_works (c : Pos) (s : State) : Works s (pe1Leading c s) := by
  unfold pe1Leading
  split
  · next hroom => exact joinInfeed_works hroom _ _
  · exact overrun_works s

theorem joinPlan_works (t : Nat) (s : State) : Works s (joinPlan t s) := .of_shrunk

theorem writeDefault_works (t : Nat) (s : State) : Works s (writeDefault t s) := .of_shrunk

theorem joinIfReported_works (t : Nat) (s : State) : Works s (joinIfReported t s) := by
  unfold joinIfReported
  split
  · exact joinPlan_works t s
  · exact .refl s

theorem pe1Trailing_works (c : Pos) (s : State) : Works s (pe1Trailing c s) := by
  unfold pe1Trailing
  split
  · exact .refl s
  · exact (updateStrip_works _ _ s).trans (joinIfReported_works _ _)

theorem arriveStrip_works (r : Strip) (s : State) : Works s (arriveStrip r s) := by
  unfold arriveStrip
  dsimp only
  split
  · exact (updateStrip_works _ _ s).trans (writeDefault_works _ _)
  · split
    · exact (updateStrip_works _ _ s).trans (joinPlan_works _ _)
    · exact updateStrip_works _ _ s

theorem phantomGate_works (s : State) : Works s (phantomGate s) := by
  unfold phantomGate
  dsimp only
  split
  · next hroom => exact (raise_works .phantomGate s).trans (joinInfeed_works hroom _ _)
  · exact raise_works .phantomGate s

theorem pe2Arrival_keeps (s : State) : Keeps s (pe2Arrival s) := by
  unfold pe2Arrival
  refine Keeps.trans ?_ (releaseTest_keeps _)
  split
  · exact (arriveStrip_works _ s).toKeeps
  · exact (phantomGate_works s).toKeeps

/-! ### A count of CH -/

theorem appendTime_length {history : List Clock} (h : history.length ≤ Config.speedHistory) (t : Clock) :
    (appendTime t history).length ≤ Config.speedHistory := by
  unfold appendTime
  dsimp only
  split
  · simpa using h
  · next hfits => exact Nat.le_of_not_lt hfits

theorem speedOf_short {history : List Clock} (h : history.length < Config.speedHistory) : speedOf history = 0 := by
  unfold speedOf
  split
  · rfl
  · exact if_pos h

theorem speedOf_most (history : List Clock) : speedOf history ≤ 64000000 := by
  unfold speedOf
  split
  · exact Nat.zero_le _
  · split
    · exact Nat.zero_le _
    · exact Nat.div_le_self _ _

/-- The encoder CH and the speed monitor after a count (R16, R17). -/
theorem speedCount_works (d : Direction) (a b : Bool) (s : State) :
    Works s (speedCount d { s with ch := countEncoder a b d s.ch }) := by
  have hspeed : State.SpeedSound (speedCount d { s with ch := countEncoder a b d s.ch }) := by
    cases d with
    | forward => exact ⟨speedOf_short, speedOf_most _, fun h => by cases h⟩
    | reverse => exact ⟨fun _ => rfl, Nat.zero_le _, fun _ => ⟨rfl, rfl⟩⟩
  have hbounded (hs : s.Bounded) : State.Bounded (speedCount d { s with ch := countEncoder a b d s.ch }) := by
    cases d with
    | forward => exact ⟨hs.infeed, hs.moulder, hs.watch, hs.fifo, appendTime_length hs.history s.us⟩
    | reverse => exact ⟨hs.infeed, hs.moulder, hs.watch, hs.fifo, Nat.zero_le _⟩
  have hfields : (speedCount d { s with ch := countEncoder a b d s.ch }).params = s.params ∧
      (speedCount d { s with ch := countEncoder a b d s.ch }).tools = s.tools ∧
      (speedCount d { s with ch := countEncoder a b d s.ch }).events = s.events := by
    cases d <;> exact ⟨rfl, rfl, rfl⟩
  obtain ⟨hparams, htools, hevents⟩ := hfields
  exact ⟨⟨fun hs => hs.of_params hparams, fun _ => hbounded, fun hs => hs.of_tools htools, fun _ => hspeed⟩,
    .of_events hevents⟩

theorem chReverseEvent_works (d : Direction) (s : State) : Works s (chReverseEvent d s) := by
  unfold chReverseEvent
  split
  · exact Works.trans .of_shrunk (raise_works .chainReverse _)
  · exact .refl s

theorem chPiece_works (d : Direction) (turns : Bool) (outputs : List (Fin 24)) (s : State) (k : Fin 3) :
    Works s (chPiece d turns outputs s k) := by
  match k with
  | 0 => exact settleCount_works outputs s
  | 1 =>
    simp only [chPiece]
    split
    · exact turnToReverse_works s
    · exact .refl s
  | 2 => exact chReverseEvent_works d s

theorem chCount_works (a b : Bool) (d : Direction) (order : CountOrder) (s : State) : Works s (chCount a b d order s) :=
  (speedCount_works d a b s).trans (Works.foldl (chPiece_works _ _ _) _ _)

theorem setPair_works (unit : EncUnit) (a b : Bool) (s : State) : Works s (setPair unit a b s) := by
  cases unit <;> exact .of_shrunk

theorem infCount_works (a b : Bool) (d : Direction) (s : State) : Works s (infCount a b d s) := by
  unfold infCount
  extract_lets counted doubted
  have hcount : Works s counted := .of_shrunk
  have hdoubt : Works s doubted := by
    unfold doubted
    split
    · exact hcount.trans (doubtMeasuring_works _)
    · exact hcount
  have hreport : Works doubted { doubted with inf := { doubted.inf with reverseReported := true } } := .of_shrunk
  split
  · exact hdoubt.trans <| hreport.trans (raise_works .infeedReverse _)
  · exact hdoubt

theorem encoderCount_works (unit : EncUnit) (a b : Bool) (order : CountOrder) (s : State) :
    Works s (encoderCount unit a b order s) := by
  unfold encoderCount
  split
  · split
    · exact setPair_works .inf a b s
    · exact infCount_works _ _ _ s
  · split
    · exact setPair_works .ch a b s
    · exact chCount_works _ _ _ _ s

/-! ### The chain -/

theorem pitchCheck_works (c0 : Pos) (s : State) : Works s (pitchCheck c0 s) := by
  unfold pitchCheck
  split
  · exact .of_shrunk
  · dsimp only
    split
    · exact Works.trans .of_shrunk (raise_works .pitchFault _)
    · exact .of_shrunk

theorem carryOver_works (s : State) : Works s (carryOver s) := by
  unfold carryOver
  split
  · exact .refl s
  · exact retire_works _ _ s

theorem createStrip_works (stage : Stage) (add : Strip → Strip) (s : State) : Works s (createStrip stage add s) := .of_shrunk

theorem putOnHead_works (t : Nat) (s : State) : Works s (putOnHead t s) := .of_shrunk

theorem loadPoint_works (s : State) : Works s (loadPoint s) := by
  unfold loadPoint
  split
  · exact Works.trans .of_shrunk (putOnHead_works _ _)
  · exact (raise_works .phantomLug s).trans <| (createStrip_works _ _ _).trans (putOnHead_works _ _)
  · unfold countWindow
    dsimp only
    split
    · exact Works.trans .of_shrunk (retire_works _ _ _)
    · exact .of_shrunk
  · exact .refl s

theorem presenceCheck_works (s : State) : Works s (presenceCheck s) := by
  unfold presenceCheck
  split
  · exact retire_works _ _ s
  · exact raise_works .phantomAtSaw s
  · exact .refl s

/-- The steps of an advance before its armings (R87). -/
theorem advanceSteps_works (c0 : Pos) (s : State) :
    Works s (presenceCheck (loadPoint (carryOver (pitchCheck c0 { s with head := s.head + 1 })))) :=
  Works.trans .of_shrunk <| (pitchCheck_works c0 _).trans <| (carryOver_works _).trans <|
    (loadPoint_works _).trans (presenceCheck_works _)

theorem sawArming_keeps (c0 : Pos) (s : State) : Keeps s (sawArming c0 s) := by
  unfold sawArming
  dsimp only
  split
  · split
    · exact arm_keeps _ _ _ _ s
    · exact .refl s
  · exact .refl s

theorem present_keeps (c0 : Pos) (o : Nat) (s : State) : Keeps s (present c0 o s) := by
  unfold present
  dsimp only
  split
  · exact .refl s
  · split
    · exact .refl s
    · split
      · exact arm_keeps _ _ _ _ s
      · exact .refl s

theorem advancePiece_keeps (c0 : Pos) (s : State) (k : Fin 9) : Keeps s (advancePiece c0 s k) := by
  unfold advancePiece
  dsimp only
  split
  · exact sawArming_keeps c0 s
  · split
    · exact present_keeps c0 _ s
    · exact .refl s

theorem advancePart_keeps (c0 : Pos) (s : State) (p : AdvancePart) : Keeps s (advancePart c0 s p) := by
  cases p with
  | piece k => exact advancePiece_keeps c0 s k
  | count a b order => exact (encoderCount_works .ch a b order s).toKeeps

theorem advance_keeps (c0 : Pos) (parts : List AdvancePart) (s : State) : Keeps s (advance c0 parts s) :=
  (advanceSteps_works c0 s).toKeeps.trans (Keeps.foldl (advancePart_keeps c0) _ _)

theorem retreat_works (s : State) : Works s (retreat s) := Works.trans .of_shrunk (carryOver_works _)

/-! ### A tick of the channels -/

theorem deliverEdge_keeps (parts : List AdvancePart) (i : Fin 6) (k : EdgeKind) (s : State) :
    Keeps s (deliverEdge parts i k s) := by
  unfold deliverEdge
  split
  · exact (pe1Leading_works _ s).toKeeps
  · exact (pe1Trailing_works _ s).toKeeps
  · exact pe2Arrival_keeps s
  · exact pe3Edge_keeps s
  · unfold lugEdge
    split
    · exact advance_keeps _ _ s
    · exact (retreat_works s).toKeeps
  · exact .refl s

theorem updateChannel_works (i : Fin 6) (f : Channel → Channel) (s : State) : Works s (updateChannel i f s) := .of_shrunk

theorem glitchNotice_works (i : Fin 6) (before after : Channel) (s : State) : Works s (glitchNotice i before after s) := by
  unfold glitchNotice
  split
  · exact doubtMeasuring_works s
  · exact .refl s

theorem sampleChannel_keeps (raw : BitVec 6) (parts : List AdvancePart) (s : State) (i : Fin 6) :
    Keeps s (sampleChannel raw parts s i) := by
  have h (after : Channel) := (updateChannel_works i (fun _ => after) s).trans (glitchNotice_works i s.channels[i] after _)
  unfold sampleChannel
  dsimp only
  split
  · exact (h _).toKeeps
  · exact (h _).toKeeps.trans (deliverEdge_keeps _ _ _ _)

theorem sampleTick_keeps (raw : BitVec 6) (order : TickOrder) (s : State) : Keeps s (sampleTick raw order s) :=
  Keeps.foldl (sampleChannel_keeps raw order.parts) _ s

theorem jamExpiry_works (i : Fin 6) (s : State) : Works s (jamExpiry i s) := by
  unfold jamExpiry
  dsimp only
  split
  · next k hk => exact (updateChannel_works i _ s).trans (raise_works k _ (by revert i k; decide))
  · exact updateChannel_works i _ s

/-! ### The parameters (R207, R32, R120) -/

/-- The place of a parameter in the table names it. -/
theorem paramIdx_injective {p q : Param} (h : paramIdx p = paramIdx q) : p = q := by
  have hlist (p : Param) : paramList[(paramIdx p).val]? = some p := by cases p <;> rfl
  exact Option.some.inj ((hlist p).symm.trans (h ▸ hlist q))

theorem getPar_putPar (p q : Param) (v : Nat) (s : State) :
    getPar (putPar p v s) q = if q = p then v else getPar s q := by
  have hidx : (paramIdx p).val = (paramIdx q).val ↔ q = p :=
    ⟨fun h => (paramIdx_injective (Fin.ext h)).symm, fun h => h ▸ rfl⟩
  simp only [getPar, putPar, Fin.getElem_fin, Vector.getElem_set, hidx]

/-- Lowering a parameter to a bound leaves the lesser of the two. -/
theorem getPar_lowerTo (bound : Nat) (p q : Param) (s : State) :
    getPar (lowerTo bound p s) q = if q = p then min (getPar s q) bound else getPar s q := by
  unfold lowerTo
  split
  · rw [getPar_putPar]
    split
    · next hq => subst hq; omega
    · rfl
  · split
    · next hq => subst hq; omega
    · rfl

/-- Storing `p` lowers `q`: the infeed low mark goes with the high mark, the four counts with the pitch (R32, R120). -/
abbrev Lowers (p q : Param) : Prop := p = .infeedHighMark ∧ q = .infeedLowMark ∨ p = .chainPitch ∧ q ∈ pitchCounts

/-- Lowering several parameters below CHAIN_PITCH, which is none of them (R120). -/
theorem getPar_lowerBelowPitch (ps : List Param) (h : .chainPitch ∉ ps) (q : Param) (s : State) :
    getPar (ps.foldl (fun s p => lowerTo (getPar s .chainPitch - 1) p s) s) q =
      if q ∈ ps then min (getPar s q) (getPar s .chainPitch - 1) else getPar s q := by
  induction ps generalizing s with
  | nil => simp
  | cons p rest ih =>
    obtain ⟨hp, hrest⟩ := not_or.1 (List.mem_cons.not.1 h)
    rw [List.foldl_cons, ih hrest]
    simp only [getPar_lowerTo, if_neg hp, List.mem_cons]
    by_cases hq : q = p <;> by_cases hin : q ∈ rest <;> simp [hq, hin]

/-- The parameters after a store and what it lowers. -/
theorem getPar_stored (p q : Param) (v : Nat) (s : State) :
    getPar (adjustOthers p (putPar p v s)) q =
      if q = p then v else if Lowers p q then min (getPar s q) (v - 1) else getPar s q := by
  by_cases hmark : p = .infeedHighMark
  · subst hmark
    simp only [adjustOthers, getPar_lowerTo, getPar_putPar]
    by_cases hq : q = .infeedLowMark
    · subst hq; rfl
    · simp [Lowers, hq]
  · by_cases hpitch : p = .chainPitch
    · subst hpitch
      simp only [adjustOthers, getPar_lowerBelowPitch pitchCounts (by decide), getPar_putPar]
      by_cases hq : q = .chainPitch
      · subst hq; rfl
      · simp [Lowers, hq]
    · have hsame : adjustOthers p (putPar p v s) = putPar p v s := by
        unfold adjustOthers
        split
        · contradiction
        · contradiction
        · rfl
      rw [hsame, getPar_putPar]
      simp [Lowers, hmark, hpitch]

/-- The upper ends of the ranges: two follow another parameter, the others are fixed (R207). -/
theorem paramHigh_cases (q : Param) :
    q = .infeedLowMark ∨ q ∈ pitchCounts ∨ ∀ s t : State, paramHigh s q = paramHigh t q := by
  cases q <;> simp [pitchCounts, paramHigh]

theorem paramHigh_pitchCounts {q : Param} (hq : q ∈ pitchCounts) (s : State) :
    paramHigh s q = getPar s .chainPitch - 1 ∧ paramLow q ≤ 1 := by
  cases q <;> simp_all [pitchCounts, paramHigh, paramLow]

theorem stored_low (hs : s.InRange) {p : Param} {v : Nat} (hv : paramLow p ≤ v) (q : Param) :
    paramLow q ≤ getPar (adjustOthers p (putPar p v s)) q := by
  have hq := hs.low q
  rw [getPar_stored]
  split_ifs with h hlower
  · rwa [h]
  · rcases hlower with ⟨rfl, rfl⟩ | ⟨rfl, hcount⟩
    · exact Nat.zero_le _
    · have hpitch : 200 ≤ v := hv
      have hlow := (paramHigh_pitchCounts hcount s).2
      omega
  · exact hq

theorem stored_high (hs : s.InRange) {p : Param} {v : Nat} (hv : v ≤ paramHigh s p) (q : Param) :
    getPar (adjustOthers p (putPar p v s)) q ≤ paramHigh (adjustOthers p (putPar p v s)) q := by
  have hq := hs.high q
  rcases paramHigh_cases q with rfl | hcount | hfixed
  · have hmark : getPar s .infeedLowMark ≤ getPar s .infeedHighMark - 1 := hq
    simp only [paramHigh, getPar_stored]
    by_cases hp : p = .infeedHighMark
    · subst hp; simp [Lowers]
    · by_cases hp' : p = .infeedLowMark
      · subst hp'; simpa [Lowers, paramHigh] using hv
      · simpa [Lowers, hp, hp', Ne.symm hp, Ne.symm hp', pitchCounts] using hmark
  · rw [(paramHigh_pitchCounts hcount _).1] at hq ⊢
    simp only [getPar_stored]
    by_cases hp : p = .chainPitch
    · subst hp
      have hne : q ≠ .chainPitch := by rintro rfl; exact absurd hcount (by decide)
      simp [Lowers, hne, hcount]
    · have hsame : ¬ Lowers p .chainPitch := by simp [Lowers, hp, pitchCounts]
      have hkept : ¬ Lowers p q := by
        rintro (⟨-, rfl⟩ | ⟨h, -⟩)
        · exact absurd hcount (by decide)
        · exact hp h
      rw [if_neg (Ne.symm hp), if_neg hsame, if_neg hkept]
      split
      · next h => subst h; rwa [(paramHigh_pitchCounts hcount _).1] at hv
      · exact hq
  · rw [hfixed _ s, getPar_stored]
    split_ifs with h
    · rwa [h]
    · exact (Nat.min_le_left _ _).trans hq
    · exact hq

theorem stored_inRange (hs : s.InRange) {p : Param} {v : Nat} (hlow : paramLow p ≤ v) (hhigh : v ≤ paramHigh s p)
    (hbaud : p = .linkBaud → v ∈ linkRates) : (adjustOthers p (putPar p v s)).InRange where
  low := stored_low hs hlow
  high := stored_high hs hhigh
  baud := by
    rw [getPar_stored]
    split_ifs with h hlower
    · exact hbaud h.symm
    · exact absurd hlower (by simp [Lowers, pitchCounts])
    · exact hs.baud

theorem clampNat_mem {lo hi : Nat} (h : lo ≤ hi) (x : Nat) : lo ≤ clampNat lo hi x ∧ clampNat lo hi x ≤ hi := by
  unfold clampNat
  split_ifs <;> omega

/-- A carried rate is stored as it is (R185). -/
theorem clampNat_linkRate {x : Nat} (h : x ∈ linkRates) : clampNat (paramLow .linkBaud) (paramHigh s .linkBaud) x = x := by
  have hrange : 19200 ≤ x ∧ x ≤ 250000 := by
    simp only [linkRates, List.mem_cons, List.not_mem_nil, or_false] at h
    omega
  have hlow : ¬ x < paramLow .linkBaud := Nat.not_lt.2 hrange.1
  have hhigh : ¬ paramHigh s .linkBaud < x := Nat.not_lt.2 hrange.2
  simp [clampNat, hlow, hhigh]

/-- A store changes the table of parameters alone. -/
theorem lowerTo_params (bound : Nat) (p : Param) (s : State) :
    lowerTo bound p s = { s with params := (lowerTo bound p s).params } := by
  unfold lowerTo
  split <;> rfl

theorem stored_params (p : Param) (v : Nat) (s : State) :
    adjustOthers p (putPar p v s) = { s with params := (adjustOthers p (putPar p v s)).params } := by
  have hfold (ps : List Param) (s : State) : ∃ params,
      ps.foldl (fun s q => lowerTo (getPar s .chainPitch - 1) q s) s = { s with params := params } := by
    induction ps generalizing s with
    | nil => exact ⟨s.params, rfl⟩
    | cons p rest ih =>
      obtain ⟨params, h⟩ := ih (lowerTo (getPar s .chainPitch - 1) p s)
      refine ⟨params, ?_⟩
      rw [List.foldl_cons, h, lowerTo_params]
  unfold adjustOthers
  split
  · rw [lowerTo_params]; rfl
  · obtain ⟨params, h⟩ := hfold pitchCounts (putPar .chainPitch v s)
    rw [h]; rfl
  · rfl

theorem Keeps.setParams {params : Vector Nat 33} (h : s.InRange → State.InRange { s with params := params }) :
    Keeps s { s with params := params } where
  inRange := h
  bounded _ hs := ⟨hs.infeed, hs.moulder, hs.watch, hs.fifo, hs.history⟩
  tools hs := hs.of_tools rfl
  speed hs := hs.of_fields rfl rfl rfl

theorem expireAll_works (s : State) : Works s (expireAll s) := Works.foldl (fun s l => expireWatches_works l _ s) _ s

theorem paramEffect_keeps (p : Param) (s : State) : Keeps s (paramEffect p s) := by
  unfold paramEffect
  split
  · exact (evalPermit_works s).toKeeps
  · exact (evalPermit_works s).toKeeps
  · exact releaseTest_keeps s
  · exact transitTest_keeps _ s
  · exact (expireAll_works s).toKeeps
  · exact .refl s

/-- A value that passes the checks of R207 is stored within its range. -/
theorem stored_keeps {p : Param} {carried : Nat}
    (h : paramRefusal s p carried (clampNat (paramLow p) (paramHigh s p) carried) = none) :
    Keeps s (adjustOthers p (putPar p (clampNat (paramLow p) (paramHigh s p) carried) s)) := by
  have hrate : p = .linkBaud → clampNat (paramLow p) (paramHigh s p) carried ∈ linkRates := by
    rintro rfl
    have hcarried : carried ∈ linkRates := by
      unfold paramRefusal at h
      split_ifs at h with _ hbad
      simpa using hbad
    rwa [clampNat_linkRate hcarried]
  rw [stored_params]
  refine .setParams fun hs => ?_
  rw [← stored_params]
  have hclamp := clampNat_mem ((hs.low p).trans (hs.high p)) carried
  exact stored_inRange hs hclamp.1 hclamp.2 hrate

theorem setParam_keeps (code : Byte) (value : BitVec 32) (s : State) : Keeps s (setParam code value s).1 := by
  unfold setParam
  split
  · exact .refl s
  · dsimp only
    split
    · exact .refl s
    · next hok => exact (stored_keeps hok).trans (paramEffect_keeps _ _)

/-! ### Line control -/

theorem enterLine_keeps (after : LineState) (s : State) : Keeps s (enterLine after s) := (enterLine_frame after s).keeps

theorem changeLine_keeps (after : LineState) (s : State) : Keeps s (changeLine after s) :=
  (enterLine_keeps after s).trans (releaseTest_keeps _)

theorem lineStart_keeps (s : State) : Keeps s (lineStart s).1 := by
  unfold lineStart
  split
  · exact changeLine_keeps _ s
  · exact changeLine_keeps _ s
  · exact .refl s
  · exact .refl s

theorem lineHold_keeps (s : State) : Keeps s (lineHold s).1 := by
  unfold lineHold
  split
  · exact changeLine_keeps _ s
  · exact .refl s
  · exact .refl s
  · exact .refl s

theorem lineStop_keeps (s : State) : Keeps s (lineStop s).1 := by
  unfold lineStop
  split
  · exact changeLine_keeps _ s
  · exact changeLine_keeps _ s
  · exact .refl s
  · exact .refl s

theorem faultAck_keeps (s : State) : Keeps s (faultAck s).1 := by
  unfold faultAck
  split
  · split
    · exact .refl s
    · exact changeLine_keeps _ s
  · exact .refl s
  · exact .refl s
  · exact .refl s

theorem clearTracking_works (s : State) : Works s (clearTracking s) := by
  unfold clearTracking discardEvaluation
  exact Works.trans (.of_shrunk (hi := Nat.zero_le _) (hm := Nat.zero_le _) (hw := fun l => by simp))
    (evalPermit_works _)

theorem trackClear_keeps (s : State) : Keeps s (trackClear s).1 := by
  unfold trackClear
  split
  · exact (clearTracking_works s).toKeeps.trans <| (drainTest_keeps _).trans (releaseTest_keeps _)
  · exact .refl s

theorem clearFlag_keeps (s : State) (k : EventKind) : Keeps s (clearFlag s k) := .of_shrunk

theorem clearEvents_keeps (bytes : List Byte) (s : State) : Keeps s (clearEvents bytes s).1 := by
  unfold clearEvents
  split
  · exact Keeps.foldl clearFlag_keeps _ s
  · exact .refl s

theorem setEventRoute_keeps (kind route masked severity : Byte) (s : State) :
    Keeps s (setEventRoute kind route masked severity s).1 := by
  unfold setEventRoute
  split
  · exact .of_shrunk
  · exact .refl s

theorem setEscalation_keeps (value : Byte) (s : State) : Keeps s (setEscalation value s).1 := by
  unfold setEscalation
  split
  · exact .of_shrunk
  · exact .refl s

theorem forceOutputs_keeps (sets clears : List Byte) (s : State) : Keeps s (forceOutputs sets clears s) := by
  have hforced (outs : Vector CountedOut 24) (pulses : Vector PulseOut 3) :
      Keeps s { s with outs := outs, pulses := pulses } := .of_shrunk
  exact hforced _ _

theorem setOutputs_keeps (setCount : Byte) (bytes : List Byte) (s : State) : Keeps s (setOutputs setCount bytes s).1 := by
  unfold setOutputs
  dsimp only
  split
  · exact .refl s
  · split
    · exact .refl s
    · exact forceOutputs_keeps _ _ s

/-! ### Reads and tables -/

theorem setGrade_keeps (row enabled : Byte) (maxDensity : BitVec 16) (maxSize : Vector Byte 8) (price : Byte) (s : State) :
    Keeps s (setGrade row enabled maxDensity maxSize price s).1 := by
  unfold setGrade
  split
  · split
    · exact .refl s
    · exact .of_shrunk
  · exact .refl s

theorem getParam_same (code : Byte) (s : State) : (getParam code s).1 = s := by
  unfold getParam; split <;> rfl

theorem getGrade_same (row : Byte) (s : State) : (getGrade row s).1 = s := by
  unfold getGrade; split <;> rfl

theorem getLane_same (lane : Byte) (s : State) : (getLane lane s).1 = s := by
  unfold getLane; split <;> rfl

theorem readStrip_same (ticket : Nat) (s : State) : (readStrip ticket s).1 = s := by
  unfold readStrip; split <;> rfl

theorem listQueue_same (place : Byte) (s : State) : (listQueue place s).1 = s := by
  unfold listQueue; split <;> rfl

theorem readLug_same (lug : Byte) (s : State) : (readLug lug s).1 = s := by
  unfold readLug; split <;> rfl

theorem readTool_same (set : Byte) (s : State) : (readTool set s).1 = s := by
  unfold readTool; split <;> rfl

theorem readBundle_same (lane : Byte) (s : State) : (readBundle lane s).1 = s := by
  unfold readBundle
  split
  · rfl
  · split <;> rfl

theorem readLabel_same (lane : Byte) (s : State) : (readLabel lane s).1 = s := by
  unfold readLabel
  split
  · rfl
  · split <;> rfl

theorem readStation_same (address : Byte) (s : State) : (readStation address s).1 = s := by
  unfold readStation; split <;> rfl

theorem setWeights_keeps (weights : Vector Byte 8) (s : State) : Keeps s (setWeights weights s).1 := .of_shrunk

theorem setLot_keeps (lot : BitVec 16) (species : Byte) (s : State) : Keeps s (setLot lot species s).1 := .of_shrunk

theorem setSawMap_keeps (bytes : List Byte) (s : State) : Keeps s (setSawMap bytes s).1 := by
  unfold setSawMap
  dsimp only
  split
  · exact .refl s
  · split
    · exact .of_shrunk
    · exact .refl s

theorem setFilter_keeps (channel mode : Byte) (threshold jamMs : BitVec 16) (s : State) :
    Keeps s (setFilter channel mode threshold jamMs s).1 := by
  unfold setFilter
  split
  · exact (updateChannel_works _ _ s).toKeeps
  · exact .refl s

theorem clearGlitch_keeps (channel : Byte) (s : State) : Keeps s (clearGlitch channel s).1 := by
  unfold clearGlitch
  split
  · exact (updateChannel_works _ _ s).toKeeps
  · exact .refl s

/-! ### Records, the gate and tool sets by command -/

theorem regrade_keeps (ticket : Nat) (value : Byte) (s : State) : Keeps s (regrade ticket value s).1 := by
  unfold regrade
  split
  · exact .refl s
  · split
    · exact (storeManual_works _ _ s).toKeeps
    · exact .refl s

theorem purge_keeps (ticket : Nat) (s : State) : Keeps s (purge ticket s).1 := by
  unfold purge
  split
  · exact .refl s
  · split
    · exact (retire_works ticket .purged s).toKeeps
    · exact .refl s

theorem ejectHead_keeps (s : State) : Keeps s (ejectHead s).1 := by
  unfold ejectHead
  split
  · exact .refl s
  · split
    · exact .refl s
    · exact (startPulse_works .eject .ejectPulseMs s).toKeeps.trans <| (retire_works _ _ _).toKeeps.trans <|
        Keeps.trans .of_shrunk (releaseTest_keeps _)

/-- A change of a set that is not mounted and stays so (R65, R68). -/
theorem unmountedTool_keeps {m : Fin 4} (hm : isMounted m s = false) (f : Tool → Tool) (hf : ∀ t, (f t).state = t.state) :
    Keeps s { s with tools := modifyAt s.tools m f } := by
  have hm' : s.tools[m].state = .unmounted := by simpa [isMounted] using hm
  have hstate (n : Fin 4) : (modifyAt s.tools m f)[n].state = s.tools[n].state := by
    rw [modifyAt_get]; split
    · exact hf _
    · rfl
  refine (Keeps.refl s).setTools fun hs => ⟨fun n k hn hk => ?_, fun n hn => ?_⟩
  · rw [hstate] at hn hk
    exact hs.one n k hn hk
  · rw [hstate] at hn
    have hne : n ≠ m := by rintro rfl; exact hn hm'
    simpa only [modifyAt_get, if_neg hne] using hs.wear n hn

theorem setTool_keeps (set profile width : Byte) (life : BitVec 16) (warnPct : Byte) (s : State) :
    Keeps s (setTool set profile width life warnPct s).1 := by
  unfold setTool
  split
  · exact .refl s
  · split
    · exact .refl s
    · next hm => exact unmountedTool_keeps (by simpa using hm) _ fun _ => rfl

theorem changeTools_keeps (set : Byte) (s : State) : Keeps s (changeTools set s).1 := by
  unfold changeTools
  split
  · exact .refl s
  · split
    · dsimp only [okay]
      exact Keeps.trans .of_shrunk (drainTest_keeps _)
    · exact .refl s

theorem cancelChange_keeps (s : State) : Keeps s (cancelChange s).1 := by
  unfold cancelChange
  split
  · exact Keeps.trans .of_shrunk (releaseTest_keeps _)
  · exact .refl s

theorem resetWear_keeps (set : Byte) (s : State) : Keeps s (resetWear set s).1 := by
  unfold resetWear
  split
  · exact .refl s
  · split
    · exact .refl s
    · next hm => exact unmountedTool_keeps (by simpa using hm) _ fun _ => rfl

/-! ### Lanes, labels and the Dispatch Port by command -/

theorem setLane_keeps (lane kind dropOffset grade : Byte) (minK maxK : BitVec 16) (alternate : Byte) (target : BitVec 16)
    (maxStrips : Byte) (shortMm : BitVec 16) (mixPct : Byte) (s : State) :
    Keeps s (setLane lane kind dropOffset grade minK maxK alternate target maxStrips shortMm mixPct s).1 := by
  unfold setLane
  split
  · split
    · exact .refl s
    · unfold writeLane
      dsimp only
      split
      · exact .refl s
      · split
        · exact .refl s
        · exact (updateLane_works _ _ s).toKeeps
  · exact .refl s

theorem setEnabled_works (l : Fin 8) (v : Bool) (s : State) : Works s (setEnabled l v s) := updateLane_works l _ s

theorem laneOn_keeps (l : Fin 8) (s : State) : Keeps s (laneOn l s).1 := by
  have h := setEnabled_works l true s
  unfold laneOn
  split
  · exact .refl s
  · exact (h.trans (openBundle_works l _)).toKeeps
  · exact (h.trans (updateLane_works l _ _)).toKeeps
  · exact h.toKeeps

theorem laneOff_keeps (l : Fin 8) (s : State) : Keeps s (laneOff l s).1 := by
  have h := setEnabled_works l false s
  unfold laneOff
  dsimp only
  split
  · exact (h.trans (updateLane_works l _ _)).toKeeps
  · split
    · exact (h.trans (updateLane_works l _ _)).toKeeps
    · exact (h.trans (closeBundle_works l _ _)).toKeeps
  · exact h.toKeeps

theorem laneEnable_keeps (lane value : Byte) (s : State) : Keeps s (laneEnable lane value s).1 := by
  unfold laneEnable
  split
  · exact laneOn_keeps _ s
  · exact laneOff_keeps _ s
  · exact .refl s

theorem forceClose_keeps (lane : Byte) (s : State) : Keeps s (forceClose lane s).1 := by
  unfold forceClose
  split
  · exact .refl s
  · split
    · exact .refl s
    · split
      · exact .refl s
      · exact (closeBundle_works _ _ s).toKeeps

theorem confirmClear_keeps (lane : Byte) (s : State) : Keeps s (confirmClear lane s).1 := by
  unfold confirmClear
  split
  · exact .refl s
  · split
    · exact (setCleared_works _ s).toKeeps
    · exact .refl s

theorem labelRetry_keeps (lane : Byte) (s : State) : Keeps s (labelRetry lane s).1 := by
  unfold labelRetry
  split
  · exact .refl s
  · split
    · exact .refl s
    · split
      · exact ((updateLabel_works _ _ s).trans (composerTest_works _)).toKeeps
      · exact .refl s

theorem labelDiscard_keeps (lane : Byte) (s : State) : Keeps s (labelDiscard lane s).1 := by
  unfold labelDiscard
  split
  · exact .refl s
  · split
    · exact .refl s
    · split
      · exact .refl s
      · exact ((removeLabel_works _ s).trans (handLabelDone_works _ _)).toKeeps

theorem setMode_works (m : PortMode) (s : State) : Works s (setMode m s) := .of_shrunk

theorem returnPrinting_works (s : State) : Works s (returnPrinting s) := by
  unfold returnPrinting
  split
  · exact (updateLabel_works _ _ s).trans (dropCurrent_works _)
  · exact .refl s

theorem portMode_keeps (mode : Byte) (s : State) : Keeps s (portMode mode s).1 := by
  have hleave (m : PortMode) : Keeps s (setMode m (flushPort (returnPrinting s))) :=
    ((returnPrinting_works s).trans <| (flushPort_works _).trans (setMode_works m _)).toKeeps
  unfold portMode
  split
  · unfold changeMode
    split
    · exact (setMode_works _ s).toKeeps
    · exact ((flushPort_works s).trans (setMode_works _ _)).toKeeps
    · split
      · exact ((setMode_works _ s).trans (composerTest_works _)).toKeeps
      · exact .refl s
    · exact .refl s
    · exact hleave _
    · exact hleave _
    · exact .refl s
    · exact .refl s
    · exact .refl s
  · exact .refl s

/-- PORT_WRITE takes the entries that the FIFO has room for (R168). -/
theorem portWrite_keeps (bytes : List Byte) (s : State) : Keeps s (portWrite bytes s).1 := by
  unfold portWrite
  split
  · exact .refl s
  · split
    · exact .refl s
    · next es _ =>
      have hpush : Keeps s { s with port :=
          { s.port with fifo := s.port.fifo ++ es.take (Config.fifoCapacity - s.port.fifo.length) } } := by
        refine .of_bounded fun _ hs => ⟨hs.infeed, hs.moulder, hs.watch, ?_, hs.history⟩
        have hfifo := hs.fifo
        simp only [List.length_append, List.length_take]
        omega
      exact hpush.trans (startHandshake_works _).toKeeps

/-! ### The Station Link -/

theorem updateStation_works (a : Fin 4) (f : Station → Station) (s : State) : Works s (updateStation a f s) := .of_shrunk

theorem beginPoll_works (s : State) : Works s (beginPoll s) := by
  unfold beginPoll
  split
  · exact .of_shrunk
  · exact .refl s

theorem pollSent_works (s : State) : Works s (pollSent s) := by
  unfold pollSent
  split
  · split
    · exact Works.trans .of_shrunk (beginPoll_works _)
    · exact .of_shrunk
  · exact .refl s

theorem endTransaction_works (a : Fin 4) (carried : Bool) (s : State) : Works s (endTransaction a carried s) := .of_shrunk

theorem missPoll_works (s : State) : Works s (missPoll s) := by
  have hmiss (a : Fin 4) (f : Station → Station) : Works s (updateStation a f { s with transaction := .idle, replyTimer := none }) :=
    .of_shrunk
  unfold missPoll
  split
  · dsimp only
    refine Works.trans ?_ (beginPoll_works _)
    split
    · exact (hmiss _ _).trans (raise_works .stationOffline _)
    · exact hmiss _ _
  · exact .refl s

theorem owe_works (a : Fin 4) (w : Answer) (s : State) : Works s (owe a w s) := updateStation_works a _ s

theorem handleRequest_works {execute : Fin 4 → State → Executed} (h : ∀ a s, Works s (execute a s).1) (kind reqId : Byte)
    (permitted : List Role) (a : Fin 4) (s : State) : Works s (handleRequest kind reqId permitted execute a s) := by
  unfold handleRequest
  split
  · exact updateStation_works a _ s
  · split
    · exact owe_works a _ s
    · exact (h a s).trans (owe_works a _ _)

theorem handleUnknown_works (kind reqId : Byte) (a : Fin 4) (s : State) : Works s (handleUnknown kind reqId a s) := by
  unfold handleUnknown
  split
  · exact updateStation_works a _ s
  · exact owe_works a _ s

theorem queryAt_works (a : Fin 4) (s : State) : Works s (queryAt a s).1 := by
  unfold queryAt
  split <;> exact .refl s

theorem queryTicket_works (ticket : Nat) (s : State) : Works s (queryTicket ticket s).1 := by
  unfold queryTicket
  split <;> exact .refl s

theorem scanReport_works (args : List Byte) (a : Fin 4) (s : State) : Works s (scanReport args a s).1 := by
  have hread : Works s (if args.length < 2 then { s with freeIndex := s.freeIndex + 1 } else s) := by
    split
    · exact .of_shrunk
    · exact .refl s
  unfold scanReport
  dsimp only
  split
  · exact hread.trans (takeReport_works _ _ _ _ _)
  · exact hread

theorem gradeOverride_works (ticket : Nat) (value : Byte) (s : State) : Works s (gradeOverride ticket value s).1 := by
  unfold gradeOverride
  split
  · exact .refl s
  · split
    · exact storeManual_works _ _ s
    · exact .refl s

/-- The entry that DROP_SEEN confirms leaves its list (R142). -/
theorem popWatch_works {l : Fin 8} {w : Watch} {rest : List Watch} (hw : s.lanes[l].watch = w :: rest) :
    Works s (updateLane l (fun r => { r with watch := rest }) s) := by
  refine .of_shrunk (hw := fun k => ?_)
  simp only [updateLane, modifyAt_get]
  split
  · next hk => rw [hk, hw]; exact Nat.le_succ _
  · exact Nat.le_refl _

theorem dropSeen_works (lane : Byte) (s : State) : Works s (dropSeen lane s).1 := by
  unfold dropSeen
  split
  · exact .refl s
  · split
    · next hw => exact popWatch_works hw
    · exact raise_works .extraDrop s

theorem bundleCleared_works (lane : Byte) (s : State) : Works s (bundleCleared lane s).1 := by
  unfold bundleCleared
  split
  · exact .refl s
  · split
    · exact setCleared_works _ s
    · exact .refl s

theorem serveRequest_works (reqId : Byte) (request : Request) (a : Fin 4) (s : State) :
    Works s (serveRequest reqId request a s) := by
  cases request with
  | queryAt => exact handleRequest_works queryAt_works ..
  | queryTicket ticket => exact handleRequest_works (fun _ => queryTicket_works _) ..
  | scanReport args => exact handleRequest_works (scanReport_works args) ..
  | gradeOverride ticket value => exact handleRequest_works (fun _ => gradeOverride_works _ _) ..
  | dropSeen lane => exact handleRequest_works (fun _ => dropSeen_works _) ..
  | bundleCleared lane => exact handleRequest_works (fun _ => bundleCleared_works _) ..
  | unknown kind args => exact handleUnknown_works ..

theorem serveReply_works (body : ReplyBody) (a : Fin 4) (s : State) : Works s (serveReply body a s) := by
  cases body with
  | idle => exact .refl s
  | request reqId request => exact serveRequest_works reqId request a s

theorem receive_works (cs : List Character) (s : State) : Works s (receive cs s) := by
  unfold receive
  split
  · split
    · split
      · exact (endTransaction_works _ _ s).trans <| (serveReply_works _ _ _).trans (beginPoll_works _)
      · exact .of_shrunk
    · exact .refl s
  · exact .refl s

theorem takeReply_works (arrival : Arrival) (body : ReplyBody) (s : State) : Works s (takeReply arrival body s) :=
  receive_works _ s

theorem setStation_keeps (address role : Byte) (stationPos : BitVec 16) (s : State) :
    Keeps s (setStation address role stationPos s).1 := by
  unfold setStation
  split
  · split
    · exact .refl s
    · exact (updateStation_works _ _ s).toKeeps
  · exact .refl s

theorem abandonPoll_works (a : Fin 4) (s : State) : Works s (abandonPoll a s) := by
  unfold abandonPoll
  split
  · split
    · exact .of_shrunk
    · exact .refl s
  · split
    · exact Works.trans .of_shrunk (beginPoll_works _)
    · exact .refl s
  · exact .refl s

theorem stationEnable_keeps (address value : Byte) (s : State) : Keeps s (stationEnable address value s).1 := by
  unfold stationEnable
  split
  · simp only [okay, stationOn]
    split
    · exact ((updateStation_works _ _ s).trans (beginPoll_works _)).toKeeps
    · exact .refl s
  · simp only [okay, stationOff]
    split
    · exact .refl s
    · exact ((updateStation_works _ _ s).trans (abandonPoll_works _ _)).toKeeps.trans (withdrawReports_keeps _ _)
  · exact .refl s

/-! ### Resets and the part's own time -/

theorem Keeps.of_reset (h : Keeps State.reset t) : Keeps s t where
  inRange _ := h.inRange reset_inRange
  bounded _ _ := h.bounded reset_inRange reset_bounded
  tools _ := h.tools reset_toolsSound
  speed _ := h.speed reset_speedSound

theorem resetBlocks_keeps (cmd : CommandPort) (s : State) : Keeps s (resetBlocks cmd s) := by
  refine .of_reset ?_
  unfold resetBlocks
  dsimp only
  split
  · exact Keeps.trans .of_shrunk (raise_keeps _ _)
  · exact .of_shrunk

theorem usTick_keeps (s : State) : Keeps s (usTick s) := by
  by_cases h : 999 ≤ s.usPhase
  · rw [usTick_moves h, msTick_eq]
    refine .of_shrunk (hm := ?_)
    dsimp only
    split
    · exact (List.length_map ..).le
    · exact Nat.le_refl _
  · rw [usTick_between h]
    exact .of_shrunk

theorem tick_keeps (s : State) : Keeps s (tick s) := by
  unfold tick
  split
  · exact .refl s
  · exact (usTick_keeps s).trans .of_shrunk

/-! ### Every command -/

/-- Whatever next state a command answers keeps the invariants. -/
structure KeepsNext (s : State) (o : Host.Outcome State Fault Refusal) : Prop where
  keeps : ∀ t, o = .next t → Keeps s t

theorem Keeps.next (h : Keeps s t) : KeepsNext s (.next t) := by
  refine ⟨?_⟩
  rintro _ ⟨⟩
  exact h

/-- A command that acts while RESET is released, or on a condition (logs 2, 12). -/
theorem Keeps.nextIf {c : Prop} [Decidable c] (h : Keeps s t) (g : Keeps s u) :
    KeepsNext s (.next (if c then t else u)) := by
  split
  · exact h.next
  · exact g.next

theorem raiseSs_keeps (s : State) : Keeps s (raiseSs s) := .of_shrunk

theorem endTransfer_keeps (rx : List Byte) (n : Nat) (s : State) : Keeps s (endTransfer rx n s) := .of_shrunk

theorem respond_keeps (seq code : Byte) (status : Status) (payload : List Byte) (s : State) :
    Keeps s (respond seq code status payload s) := .of_shrunk

/-- A transaction keeps the invariants when what its frame sets off does (R201, R202). -/
theorem hostFrame_keeps {body : State → State} (h : ∀ s, Keeps s (body s)) (x : Xfer) (code : Byte) (args : List Byte)
    (s : State) : KeepsNext s (hostFrame x code args body s) := by
  have hend : Keeps s (afterTransfer x code args s) := endTransfer_keeps _ _ s
  refine Keeps.nextIf (raiseSs_keeps s) ?_
  dsimp only
  split
  · exact hend.trans (respond_keeps ..)
  · split
    · exact hend.trans (respond_keeps ..)
    · exact hend.trans (h _)

theorem hostCommand_keeps {run : State → Answered} (h : ∀ s, Keeps s (run s).1) (x : Xfer) (code : Byte)
    (args : List Byte) (s : State) : KeepsNext s (hostCommand x code args run s) :=
  hostFrame_keeps (fun s => (h s).trans (respond_keeps ..)) x code args s

/-- A read changes nothing. -/
theorem hostRead_keeps {run : State → Answered} (h : ∀ s, (run s).1 = s) (x : Xfer) (code : Byte) (args : List Byte)
    (s : State) : KeepsNext s (hostCommand x code args run s) :=
  hostCommand_keeps (fun s => by rw [h s]; exact .refl s) x code args s

theorem linkCommand_keeps {act : State → State} (h : ∀ s, Works s (act s)) (s : State) :
    KeepsNext s (linkCommand act s) := Keeps.nextIf (.refl s) (h s).toKeeps

theorem execRequest_keeps (reply : Reply) (request : Request) (s : State) : KeepsNext s (execRequest reply request s) :=
  linkCommand_keeps (takeReply_works _ _) s

theorem execPbusyChange_keeps (high : Bool) (s : State) : KeepsNext s (execPbusyChange high s) := by
  have hpin : Works s (setPbusy high s) := .of_shrunk
  refine Keeps.nextIf hpin.toKeeps ?_
  split
  · exact .refl s
  · exact (hpin.trans (busyEdge_works _ _)).toKeeps

theorem execPfaultChange_keeps (asserted : Bool) (s : State) : KeepsNext s (execPfaultChange asserted s) := by
  have hpin (v : Bool) : Works s (setPfault v s) := .of_shrunk
  refine Keeps.nextIf (hpin _).toKeeps ?_
  split
  · exact .refl s
  · split
    · exact ((hpin _).trans (faultAsserted_works _)).toKeeps
    · exact ((hpin _).trans (faultCleared_works _)).toKeeps

theorem execReplyTimerExpiry_keeps (s : State) : KeepsNext s (execReplyTimerExpiry s) := by
  refine linkCommand_keeps (fun s => ?_) s
  split
  · exact missPoll_works s
  · exact .refl s

theorem execTransactionBegin_keeps (s : State) : KeepsNext s (execTransactionBegin s) := by
  refine Keeps.nextIf (.refl s) ?_
  split
  · exact .of_shrunk
  · exact .of_shrunk

theorem execBadFrame_keeps (mosi : List Byte) (s : State) : KeepsNext s (execBadFrame mosi s) := by
  unfold execBadFrame
  split
  · exact (raiseSs_keeps s).next
  · split
    · exact (endTransfer_keeps _ _ s).next
    · dsimp only
      split
      · exact ((endTransfer_keeps _ _ s).trans (respond_keeps ..)).next
      · exact ⟨fun _ hrefused => by cases hrefused⟩

theorem emptyHistory_keeps (s : State) : Keeps s (emptyHistory { s with stall := none }) where
  inRange hs := hs.of_params rfl
  bounded _ hs := ⟨hs.infeed, hs.moulder, hs.watch, hs.fifo, Nat.zero_le _⟩
  tools hs := hs.of_tools rfl
  speed _ := ⟨fun _ => rfl, Nat.zero_le _, fun _ => ⟨rfl, rfl⟩⟩

theorem exec_keeps (c : Instr) (s : State) : KeepsNext s (exec c s) := by
  cases c with
  | sampleTick raw order => exact Keeps.nextIf (.refl s) (sampleTick_keeps raw order s)
  | jamTimerExpiry i => exact Keeps.nextIf (jamExpiry_works i s).toKeeps (.refl s)
  | encoderCount unit a b order =>
    exact Keeps.nextIf (setPair_works unit a b s).toKeeps (encoderCount_works unit a b order s).toKeeps
  | speedStallTimeout => exact Keeps.nextIf (emptyHistory_keeps s) (.refl s)
  | timePulseExpiry p => exact Keeps.nextIf .of_shrunk (.refl s)
  | gapTimerExpiry => exact Keeps.nextIf (Keeps.trans .of_shrunk (releaseTest_keeps _)) (.refl s)
  | moulderTransitExpiry => exact Keeps.nextIf (.refl s) (transitTest_keeps _ s)
  | evaluationStart => exact Keeps.nextIf (.refl s) (startEvaluation_works s).toKeeps
  | evaluationCompletion =>
    exact Keeps.nextIf ((finishEvaluation_works s).toKeeps.trans (releaseTest_keeps _)) (.refl s)
  | dropWatchExpiry l => exact Keeps.nextIf (expireWatch_works l s).toKeeps (.refl s)
  | strobeEnd => exact Keeps.nextIf (endStrobe_works s).toKeeps (.refl s)
  | pbusyChange high => exact execPbusyChange_keeps high s
  | pfaultChange asserted => exact execPfaultChange_keeps asserted s
  | handshakeTimeout => exact Keeps.nextIf (portTimeout_works s).toKeeps (.refl s)
  | pollSent => exact linkCommand_keeps pollSent_works s
  | idleReply arrival => exact linkCommand_keeps (takeReply_works arrival .idle) s
  | replyTimerExpiry => exact execReplyTimerExpiry_keeps s
  | queryAt reply => exact execRequest_keeps ..
  | queryTicket reply ticket => exact execRequest_keeps ..
  | scanReport reply args => exact execRequest_keeps ..
  | gradeOverride reply ticket value => exact execRequest_keeps ..
  | dropSeen reply lane => exact execRequest_keeps ..
  | bundleCleared reply lane => exact execRequest_keeps ..
  | unknownRequest reply kind args => exact execRequest_keeps ..
  | transactionBegin => exact execTransactionBegin_keeps s
  | emptyTransaction clocks => exact Keeps.nextIf (endTransfer_keeps _ _ s) (raiseSs_keeps s)
  | badFrame mosi => exact execBadFrame_keeps mosi s
  | resetAssert => exact Keeps.next .of_shrunk
  | powerOnReset => exact (resetBlocks_keeps _ s).next
  | nop x => exact hostFrame_keeps .refl ..
  | lineStart x => exact hostCommand_keeps lineStart_keeps ..
  | lineHold x => exact hostCommand_keeps lineHold_keeps ..
  | lineStop x => exact hostCommand_keeps lineStop_keeps ..
  | faultAck x => exact hostCommand_keeps faultAck_keeps ..
  | softReset x => exact hostFrame_keeps (resetBlocks_keeps _) ..
  | trackClear x => exact hostCommand_keeps trackClear_keeps ..
  | setParam x code value => exact hostCommand_keeps (setParam_keeps code value) ..
  | getParam x code => exact hostRead_keeps (getParam_same code) ..
  | setGrade x row enabled maxDensity maxSize price => exact hostCommand_keeps (setGrade_keeps row enabled maxDensity maxSize price) ..
  | getGrade x row => exact hostRead_keeps (getGrade_same row) ..
  | setWeights x weights => exact hostCommand_keeps (setWeights_keeps weights) ..
  | setSawMap x count bytes => exact hostCommand_keeps (setSawMap_keeps bytes) ..
  | setLane => exact hostCommand_keeps (setLane_keeps _ _ _ _ _ _ _ _ _ _ _) ..
  | getLane x lane => exact hostRead_keeps (getLane_same lane) ..
  | setFilter x channel mode threshold jamMs => exact hostCommand_keeps (setFilter_keeps channel mode threshold jamMs) ..
  | setLot x lot species => exact hostCommand_keeps (setLot_keeps lot species) ..
  | setStation x address role stationPos => exact hostCommand_keeps (setStation_keeps address role stationPos) ..
  | clearGlitch x channel => exact hostCommand_keeps (clearGlitch_keeps channel) ..
  | readStrip x ticket => exact hostRead_keeps (readStrip_same _) ..
  | listQueue x place => exact hostRead_keeps (listQueue_same place) ..
  | readLug x lug => exact hostRead_keeps (readLug_same lug) ..
  | regrade x ticket value => exact hostCommand_keeps (regrade_keeps _ value) ..
  | purge x ticket => exact hostCommand_keeps (purge_keeps _) ..
  | ejectHead x => exact hostCommand_keeps ejectHead_keeps ..
  | setTool x set profile width life warnPct => exact hostCommand_keeps (setTool_keeps set profile width life warnPct) ..
  | readTool x set => exact hostRead_keeps (readTool_same set) ..
  | changeTools x set => exact hostCommand_keeps (changeTools_keeps set) ..
  | cancelChange x => exact hostCommand_keeps cancelChange_keeps ..
  | resetWear x set => exact hostCommand_keeps (resetWear_keeps set) ..
  | readBundle x lane => exact hostRead_keeps (readBundle_same lane) ..
  | forceClose x lane => exact hostCommand_keeps (forceClose_keeps lane) ..
  | laneEnable x lane value => exact hostCommand_keeps (laneEnable_keeps lane value) ..
  | confirmClear x lane => exact hostCommand_keeps (confirmClear_keeps lane) ..
  | readLabel x lane => exact hostRead_keeps (readLabel_same lane) ..
  | labelRetry x lane => exact hostCommand_keeps (labelRetry_keeps lane) ..
  | labelDiscard x lane => exact hostCommand_keeps (labelDiscard_keeps lane) ..
  | portMode x mode => exact hostCommand_keeps (portMode_keeps mode) ..
  | portWrite x count bytes => exact hostCommand_keeps (portWrite_keeps bytes) ..
  | portStatus x => exact hostRead_keeps (fun _ => rfl) ..
  | readEvents x => exact hostRead_keeps (fun _ => rfl) ..
  | clearEvents x count bytes => exact hostCommand_keeps (clearEvents_keeps bytes) ..
  | setEventRoute x kind route masked severity => exact hostCommand_keeps (setEventRoute_keeps kind route masked severity) ..
  | setEscalation x value => exact hostCommand_keeps (setEscalation_keeps value) ..
  | setOutputs x setCount bytes => exact hostCommand_keeps (setOutputs_keeps setCount bytes) ..
  | readIo x => exact hostRead_keeps (fun _ => rfl) ..
  | stationEnable x address value => exact hostCommand_keeps (stationEnable_keeps address value) ..
  | readStation x address => exact hostRead_keeps (readStation_same address) ..

theorem step_keeps (s : State) : KeepsNext s (step s) := by
  unfold step
  split
  · next c rest _ =>
    have hpop : Keeps s { s with pending := rest } := .of_shrunk
    exact ⟨fun t ht => hpop.trans ((exec_keeps c _).keeps t ht)⟩
  · exact (tick_keeps s).next

end Sys2Proof.Machine

/-- Settles O53, by reading each invariant off State.reset. -/
theorem theInvariantsHoldAtReset : Obligations.TheInvariantsHoldAtReset :=
  ⟨Sys2Proof.Machine.reset_bounded, Sys2Proof.Machine.reset_inRange, Sys2Proof.Machine.reset_outputsAgree,
    Sys2Proof.Machine.reset_speedSound, Sys2Proof.Machine.reset_toolsSound, Sys2Proof.Machine.reset_ringSound,
    fun _ => rfl, Sys2Proof.Machine.reset_accounts, Sys2Proof.Machine.reset_tracked,
    Sys2Proof.Machine.reset_labelsSound⟩

/-- Settles O54, by what each operation keeps. -/
theorem everyStepKeepsCapacitiesAndRanges : Obligations.EveryStepKeepsCapacitiesAndRanges := by
  intro s t hstep
  have h := Sys2Proof.Machine.step_keeps s |>.keeps t hstep
  exact ⟨h.inRange, h.bounded⟩

/-- Settles O59, by what each operation keeps. -/
theorem everyStepKeepsToolsAndSpeed : Obligations.EveryStepKeepsToolsAndSpeed := by
  intro s t hstep
  have h := Sys2Proof.Machine.step_keeps s |>.keeps t hstep
  exact ⟨h.tools, h.speed⟩

/-! PROOFS. Sensing: the steps of the filter modes (R3 to R5) and the jam monitor (R9). -/

namespace Sys2Proof.Machine

open Sys2Proof

set_option Elab.async false

/-! ### The steps of a filter channel (R3 to R5) -/

theorem edgeOf_isSome {a b : Level} : (edgeOf a b).isSome ↔ a ≠ b := by
  cases a <;> cases b <;> decide

/-- The channel with the sample of a tick, as its mode's step finds it (R2). -/
abbrev sampled (asserted : Bool) (c : Channel) : Channel := { c with prevSample := c.sample, sample := levelOf asserted }

theorem stepChannel_bypass {c : Channel} (h : c.mode = .bypass ∨ c.threshold = 0) (asserted : Bool) :
    stepChannel asserted c = stepBypass (sampled asserted c) := by
  unfold stepChannel stepMode
  split
  · rfl
  · next hthreshold =>
    have hmode : c.mode = .bypass := h.resolve_right hthreshold
    simp [sampled, hmode]

theorem stepChannel_delayed {c : Channel} (hmode : c.mode = .delayed) (hthreshold : 1 ≤ c.threshold) (asserted : Bool) :
    stepChannel asserted c = stepDelayed (sampled asserted c) := by
  have hne : c.threshold ≠ 0 := Nat.ne_of_gt hthreshold
  simp [stepChannel, stepMode, sampled, hmode, hne]

theorem stepChannel_immediate {c : Channel} (hmode : c.mode = .immediate) (hthreshold : 1 ≤ c.threshold)
    (asserted : Bool) : stepChannel asserted c = stepImmediate (sampled asserted c) := by
  have hne : c.threshold ≠ 0 := Nat.ne_of_gt hthreshold
  simp [stepChannel, stepMode, sampled, hmode, hne]

theorem bypassFollowsTheLine : Claims.BypassFollowsTheLine := by
  intro c asserted h
  rw [stepChannel_bypass h]
  exact ⟨rfl, edgeOf_isSome⟩

theorem delayedStep : Claims.DelayedStep := by
  intro c asserted hmode hthreshold
  rw [stepChannel_delayed hmode hthreshold]
  refine ⟨fun hdiffers hfull => ?_, fun hdiffers hfull => ?_, fun hequal hcounts => ?_, fun hequal hzero => ?_, ?edge⟩
  · simp [stepDelayed, hdiffers, hfull]
  · simp [stepDelayed, hdiffers, hfull]
  · simp [stepDelayed, hequal, Nat.ne_of_gt hcounts]
  · simp [stepDelayed, hequal, hzero]
  case edge =>
    rw [edgeOf_isSome]
    by_cases hdiffers : levelOf asserted = c.level
    · by_cases hzero : c.counter = 0 <;> simp [stepDelayed, hdiffers, hzero]
    · by_cases hfull : c.counter + 1 = c.threshold
      · simp [stepDelayed, hdiffers, hfull, Ne.symm hdiffers]
      · simp [stepDelayed, hdiffers, hfull]

theorem immediateStep : Claims.ImmediateStep := by
  intro c asserted hmode hthreshold
  rw [stepChannel_immediate hmode hthreshold]
  refine ⟨fun hends => ?_, fun hpos hbelow => ?_, ?edge⟩
  · simp [stepImmediate, startInhibit, hends]
  · have hinside : ¬ (c.counter = 0 ∨ c.counter = c.threshold) := by omega
    simp [stepImmediate, hinside]
  case edge =>
    rw [edgeOf_isSome]
    by_cases hends : c.counter = 0 ∨ c.counter = c.threshold
    · by_cases hdiffers : levelOf asserted = c.level
      · simp [stepImmediate, startInhibit, hends, hdiffers]
      · simp [stepImmediate, startInhibit, hends, hdiffers, Ne.symm hdiffers]
    · simp [stepImmediate, hends]

/-! ### The jam monitor (R9) -/

theorem exec_jamTimerExpiry (i : Fin 6) (s : State) :
    exec (.jamTimerExpiry i) s = .next (if !s.resetHeld && jamDue s i then jamExpiry i s else s) := rfl

/-- A step of the filter leaves the jam monitor as it is. -/
theorem stepChannel_jam (asserted : Bool) (c : Channel) : (stepChannel asserted c).jam = c.jam := by
  unfold stepChannel stepMode
  split
  · rfl
  · split
    · unfold stepDelayed
      split_ifs <;> rfl
    · unfold stepImmediate startInhibit
      split_ifs <;> rfl
    · rfl

theorem tickChannel_jam (asserted : Bool) (c : Channel) :
    (tickChannel asserted c).jam =
      match edgeOf c.level (stepChannel asserted c).level with
      | none => c.jam
      | some k => c.jam.map (jamAtEdge k) := by
  unfold tickChannel
  dsimp only
  split <;> simp only [stepChannel_jam, *]

theorem tickChannel_jam_some {c : Channel} {j : Jam} (hjam : c.jam = some j) (asserted : Bool) :
    let next : JamState := match edgeOf c.level (stepChannel asserted c).level with
      | some .leading => .timing j.limitMs
      | some .trailing => .clear
      | none => j.state
    (tickChannel asserted c).jam = some { j with state := next } := by
  rw [tickChannel_jam, hjam]
  cases edgeOf c.level (stepChannel asserted c).level with
  | none => rfl
  | some k => cases k <;> rfl

theorem jamTimerExpiry_due {i : Fin 6} {s : State} {j : Jam} {k : EventKind} (hreset : s.resetHeld = false)
    (hjam : s.channels[i].jam = some j) (hstate : j.state = .timing 0) (hevent : jamEvent i = some k) :
    exec (.jamTimerExpiry i) s = .next (raise k
      { s with channels := s.channels.set i { s.channels[i] with jam := some { j with state := .jammed } } }) := by
  have hdue : jamDue s i = true := jamDue_iff.2 ⟨j, hjam, hstate⟩
  simp only [exec_jamTimerExpiry, hreset, hdue, jamExpiry, hevent, updateChannel, modifyAt]
  simp only [Fin.getElem_fin] at hjam
  simp [hjam]

theorem jamTimerExpiry_early {i : Fin 6} {s : State}
    (hrunning : ∀ j, s.channels[i].jam = some j → j.state ≠ .timing 0) : exec (.jamTimerExpiry i) s = .next s := by
  have hnot : jamDue s i = false := by
    rw [Bool.eq_false_iff]
    intro hdue
    obtain ⟨j, hjam, hstate⟩ := jamDue_iff.1 hdue
    exact hrunning j hjam hstate
  simp [exec_jamTimerExpiry, hnot]

end Sys2Proof.Machine

section

open Sys2Proof Sys2Proof.Machine

/-- Settles O7, by the equation of each mode's step. -/
theorem filterSteps : Obligations.FilterSteps :=
  ⟨bypassFollowsTheLine, delayedStep, immediateStep⟩

/-- Settles O10, by whether the timer has run out and what edge the tick makes. -/
theorem jamMonitor : Obligations.JamMonitor :=
  ⟨fun _ _ _ _ => jamTimerExpiry_due, fun _ _ => jamTimerExpiry_early,
    fun _ _ asserted hjam => tickChannel_jam_some hjam asserted⟩

end

/-! PROOFS. A SAMPLE_TICK as the ticks of its channels, and the work of an edge's consumer (R2, R6, R14). -/

namespace Sys2Proof.Machine

open Sys2Proof

set_option Elab.async false

variable {s t u : State}

/-! ### A tick of every channel, in any order (R2) -/

theorem CountFrame.channels (h : CountFrame s t) : t.channels = s.channels := by
  unfold CountFrame LineFrame at h
  rw [h]

/-- Frames that free the channels, one after the other. -/
theorem LineFrame.trans_channels (h : LineFrame { s with channels := t.channels } t)
    (g : LineFrame { t with channels := u.channels } u) : LineFrame { s with channels := u.channels } u := by
  unfold LineFrame at *
  rw [g, h]

theorem CountFrame.trans_channels (h : CountFrame { s with channels := t.channels } t)
    (g : CountFrame { t with channels := u.channels } u) : CountFrame { s with channels := u.channels } u := by
  unfold CountFrame LineFrame at *
  rw [g, h]

/-- A channel after its tick, with its glitch notice: what is done before its edge is handed on. -/
def sampleNotice (raw : BitVec 6) (s : State) (i : Fin 6) : State :=
  let after := tickChannel (raw.getLsbD i.val) s.channels[i]
  glitchNotice i s.channels[i] after (updateChannel i (fun _ => after) s)

theorem sampleChannel_eq (raw : BitVec 6) (parts : List AdvancePart) (s : State) (i : Fin 6) :
    sampleChannel raw parts s i =
      match edgeOf s.channels[i].level (tickChannel (raw.getLsbD i.val) s.channels[i]).level with
      | none => sampleNotice raw s i
      | some k => deliverEdge parts i k (sampleNotice raw s i) := rfl

theorem glitchNotice_frame (i : Fin 6) (before after : Channel) (s : State) : LineFrame s (glitchNotice i before after s) := by
  unfold glitchNotice
  split
  · exact doubtMeasuring_frame s
  · rfl

theorem sampleNotice_frame (raw : BitVec 6) (s : State) (i : Fin 6) :
    LineFrame { s with channels := s.channels.set i (tickChannel (raw.getLsbD i.val) s.channels[i]) }
      (sampleNotice raw s i) :=
  glitchNotice_frame i _ _ (updateChannel i (fun _ => tickChannel (raw.getLsbD i.val) s.channels[i]) s)

theorem sampleChannel_frame (raw : BitVec 6) (parts : List AdvancePart) (s : State) (i : Fin 6) :
    CountFrame { s with channels := s.channels.set i (tickChannel (raw.getLsbD i.val) s.channels[i]) }
      (sampleChannel raw parts s i) := by
  rw [sampleChannel_eq]
  split
  · exact (sampleNotice_frame raw s i).count
  · exact (sampleNotice_frame raw s i).count.trans (deliverEdge_frame _ _ _ _)

theorem sampleChannel_frame_of_pieces (raw : BitVec 6) {parts : List AdvancePart} (h : ∀ p ∈ parts, ∃ k, p = .piece k)
    (s : State) (i : Fin 6) :
    LineFrame { s with channels := s.channels.set i (tickChannel (raw.getLsbD i.val) s.channels[i]) }
      (sampleChannel raw parts s i) := by
  rw [sampleChannel_eq]
  split
  · exact sampleNotice_frame raw s i
  · exact (sampleNotice_frame raw s i).trans (deliverEdge_frame_of_pieces _ _ _ _ h)

theorem sampleChannel_table (raw : BitVec 6) (parts : List AdvancePart) (s : State) (i : Fin 6) :
    (sampleChannel raw parts s i).channels = s.channels.set i (tickChannel (raw.getLsbD i.val) s.channels[i]) :=
  (sampleChannel_frame raw parts s i).channels

theorem sampleChannel_channels (raw : BitVec 6) (parts : List AdvancePart) (s : State) (i j : Fin 6) :
    (sampleChannel raw parts s i).channels[j] =
      if j = i then tickChannel (raw.getLsbD i.val) s.channels[i] else s.channels[j] := by
  rw [sampleChannel_table]
  by_cases h : j = i
  · subst h; simp
  · simp [h, Vector.getElem_set_ne, Fin.val_ne_of_ne (Ne.symm h)]

/-- Each channel of the order takes its own tick, the others none. -/
theorem sampleChannels_channels (raw : BitVec 6) (parts : List AdvancePart) {order : List (Fin 6)} (hnodup : order.Nodup)
    (s : State) (j : Fin 6) :
    (order.foldl (sampleChannel raw parts) s).channels[j] =
      if j ∈ order then tickChannel (raw.getLsbD j.val) s.channels[j] else s.channels[j] := by
  induction order generalizing s with
  | nil => rfl
  | cons i rest ih =>
    obtain ⟨hi, hrest⟩ := List.nodup_cons.1 hnodup
    rw [List.foldl_cons, ih hrest]
    simp only [sampleChannel_channels, List.mem_cons]
    by_cases hj : j = i
    · subst hj; simp [hi]
    · simp [hj]

theorem sampleChannels_frame (raw : BitVec 6) (parts : List AdvancePart) (order : List (Fin 6)) (s : State) :
    CountFrame { s with channels := (order.foldl (sampleChannel raw parts) s).channels }
      (order.foldl (sampleChannel raw parts) s) := by
  induction order generalizing s with
  | nil => rfl
  | cons i rest ih =>
    have h := sampleChannel_frame raw parts s i
    rw [← sampleChannel_table raw parts s i] at h
    exact h.trans_channels (ih _)

theorem sampleChannels_frame_of_pieces (raw : BitVec 6) {parts : List AdvancePart} (hp : ∀ p ∈ parts, ∃ k, p = .piece k)
    (order : List (Fin 6)) (s : State) :
    LineFrame { s with channels := (order.foldl (sampleChannel raw parts) s).channels }
      (order.foldl (sampleChannel raw parts) s) := by
  induction order generalizing s with
  | nil => rfl
  | cons i rest ih =>
    have h := sampleChannel_frame_of_pieces raw hp s i
    rw [← sampleChannel_table raw parts s i] at h
    exact h.trans_channels (ih _)

theorem exec_sampleTick (raw : BitVec 6) (order : TickOrder) {s : State} (h : s.resetHeld = false) :
    exec (.sampleTick raw order) s = .next (sampleTick raw order s) := by
  simp [exec, execSampleTick, h]

/-! ### The edge of one channel (R6, R14, R31) -/

/-- The DOUBT of a glitch or of a reverse count, as one equation (R31). -/
theorem doubtMeasuring_eq (s : State) : doubtMeasuring s = s.doubted := by
  unfold doubtMeasuring State.doubted
  split
  · next h => simp [h]
  · next t h =>
    simp only [h, updateStrip, Option.some.injEq, eq_comm (a := t)]

/-- The channels, those of `order` after their ticks. -/
def tickedChannels (raw : BitVec 6) (order : List (Fin 6)) (s : State) : Vector Channel 6 :=
  Vector.ofFn fun j : Fin 6 => if j ∈ order then tickChannel (raw.getLsbD j.val) s.channels[j] else s.channels[j]

/-- SI0 is among the channels of `order`, and its tick sets its GLITCH (R6). -/
abbrev Glitches (raw : BitVec 6) (order : List (Fin 6)) (s : State) : Prop :=
  0 ∈ order ∧ s.channels[0].glitch = false ∧ (tickChannel (raw.getLsbD 0) s.channels[0]).glitch = true

/-- The ticks of the channels `order`, with the doubt of a glitch of SI0 among them, as though they made no edge. -/
def quietTick (raw : BitVec 6) (order : List (Fin 6)) (s : State) : State :=
  let u := { s with channels := tickedChannels raw order s }
  if Glitches raw order s then u.doubted else u

theorem quietTick_channels (raw : BitVec 6) (order : List (Fin 6)) (s : State) (j : Fin 6) :
    (quietTick raw order s).channels[j] =
      if j ∈ order then tickChannel (raw.getLsbD j.val) s.channels[j] else s.channels[j] := by
  have htable : (quietTick raw order s).channels = tickedChannels raw order s := by
    unfold quietTick
    dsimp only
    split <;> rfl
  simp [htable, tickedChannels]

theorem quietTick_nil (raw : BitVec 6) (s : State) : quietTick raw [] s = s := by
  simp [quietTick, tickedChannels]

theorem tickedChannels_append (raw : BitVec 6) (order : List (Fin 6)) (i : Fin 6) (s : State) :
    (tickedChannels raw order s).set i (tickChannel (raw.getLsbD i.val) s.channels[i]) =
      tickedChannels raw (order ++ [i]) s := by
  ext j hj
  by_cases h : i.val = j
  · subst h
    simp [tickedChannels]
  · have hne : (⟨j, hj⟩ : Fin 6) ≠ i := fun e => h (congrArg Fin.val e).symm
    simp [tickedChannels, Vector.getElem_set_ne, h, hne]

/-- One channel more takes its tick. -/
theorem sampleNotice_quietTick (raw : BitVec 6) {order : List (Fin 6)} {i : Fin 6} (hi : i ∉ order) (s : State) :
    sampleNotice raw (quietTick raw order s) i = quietTick raw (order ++ [i]) s := by
  have hbefore : (quietTick raw order s).channels[i] = s.channels[i] := by rw [quietTick_channels, if_neg hi]
  have htick (u : State) (hu : u.channels = tickedChannels raw order s) :
      updateChannel i (fun _ => tickChannel (raw.getLsbD i.val) s.channels[i]) u =
        { u with channels := tickedChannels raw (order ++ [i]) s } := by
    rw [← tickedChannels_append, ← hu]; rfl
  unfold sampleNotice
  rw [hbefore]
  by_cases h0 : i = 0
  · subst h0
    have hplain : quietTick raw order s = { s with channels := tickedChannels raw order s } := if_neg fun h => hi h.1
    have hglitch : Glitches raw (order ++ [0]) s ↔
        s.channels[0].glitch = false ∧ (tickChannel (raw.getLsbD 0) s.channels[0]).glitch = true := by
      simp [Glitches]
    dsimp only
    rw [hplain, htick { s with channels := tickedChannels raw order s } rfl]
    simp only [glitchNotice, quietTick, hglitch, doubtMeasuring_eq, true_and]
    rfl
  · have hglitch : Glitches raw (order ++ [i]) s ↔ Glitches raw order s := by
      simp [Glitches, Ne.symm h0]
    simp only [glitchNotice, h0, false_and, if_false, quietTick, hglitch]
    split
    · exact htick _ rfl
    · exact htick _ rfl

/-- Channels that make no edge only tick. -/
theorem sampleChannels_quiet (raw : BitVec 6) (parts : List AdvancePart) (s : State) (order : List (Fin 6))
    (hnodup : order.Nodup)
    (hquiet : ∀ j ∈ order, edgeOf s.channels[j].level (tickChannel (raw.getLsbD j.val) s.channels[j]).level = none) :
    order.foldl (sampleChannel raw parts) s = quietTick raw order s := by
  induction order using List.reverseRecOn with
  | nil => exact (quietTick_nil raw s).symm
  | append_singleton before i ih =>
    obtain ⟨hbefore, -, hdisjoint⟩ := List.nodup_append.1 hnodup
    have hi : i ∉ before := fun h => hdisjoint i h i (by simp) rfl
    rw [List.foldl_append, ih hbefore fun j hj => hquiet j (by simp [hj])]
    simp only [List.foldl_cons, List.foldl_nil]
    rw [sampleChannel_eq, quietTick_channels, if_neg hi, hquiet i (by simp), sampleNotice_quietTick raw hi]

/-- A channel that makes an edge, after channels that make none. -/
theorem sampleChannels_edge (raw : BitVec 6) (parts : List AdvancePart) (s : State) {before : List (Fin 6)} {i : Fin 6}
    {k : EdgeKind} (hnodup : (before ++ [i]).Nodup)
    (hedge : ∀ j, edgeOf s.channels[j].level (tickChannel (raw.getLsbD j.val) s.channels[j]).level =
      if j = i then some k else none) :
    (before ++ [i]).foldl (sampleChannel raw parts) s = deliverEdge parts i k (quietTick raw (before ++ [i]) s) := by
  obtain ⟨hbefore, -, hdisjoint⟩ := List.nodup_append.1 hnodup
  have hi : i ∉ before := fun h => hdisjoint i h i (by simp) rfl
  have hquiet := sampleChannels_quiet raw parts s before hbefore fun j hj => by
    rw [hedge, if_neg]; rintro rfl; exact hi hj
  rw [List.foldl_append, hquiet]
  simp only [List.foldl_cons, List.foldl_nil]
  rw [sampleChannel_eq, quietTick_channels, if_neg hi, hedge i, if_pos rfl, sampleNotice_quietTick raw hi]

/-- With every channel in the order, the ticks of all. -/
theorem quietTick_all (raw : BitVec 6) {order : List (Fin 6)} (hall : ∀ j, j ∈ order) (s : State) :
    quietTick raw order s =
      let u := { s with channels := Vector.ofFn fun j : Fin 6 => tickChannel (raw.getLsbD j.val) s.channels[j] }
      if s.channels[0].glitch = false ∧ (tickChannel (raw.getLsbD (0 : Fin 6).val) s.channels[0]).glitch = true then
        u.doubted
      else u := by
  have hglitch : Glitches raw order s ↔
      s.channels[0].glitch = false ∧ (tickChannel (raw.getLsbD (0 : Fin 6).val) s.channels[0]).glitch = true :=
    and_iff_right (hall 0)
  simp only [quietTick, tickedChannels, hall, if_true, hglitch]

theorem lugEdge_eq (parts : List AdvancePart) (s : State) :
    lugEdge parts s = if s.ch.direction = .forward then advance s.ch.position parts s else retreat s := by
  unfold lugEdge
  cases s.ch.direction <;> rfl

end Sys2Proof.Machine

section

open Sys2Proof Sys2Proof.Machine

/-- Settles O8, by the frames of the channels' ticks, one after another. -/
theorem channelsTickIndependently : Obligations.ChannelsTickIndependently := by
  intro raw order s hreset
  refine ⟨_, exec_sampleTick raw order hreset,
    sampleChannels_frame raw order.parts _ s,
    fun hparts => sampleChannels_frame_of_pieces raw hparts _ s, fun i => ?_⟩
  have h := sampleChannels_channels raw order.parts (fullOrder_nodup order.channels) s i
  rwa [if_pos (mem_fullOrder order.channels i)] at h

/-- Settles O9, by the ticks of channels that make no edge. -/
theorem anEdgeReachesItsConsumer : Obligations.AnEdgeReachesItsConsumer := by
  intro raw order s hreset
  have hall := quietTick_all raw (mem_fullOrder order.channels) s
  have hnodup := fullOrder_nodup order.channels
  refine ⟨fun hquiet => ?_, fun i k before horder hedge => ?_⟩
  · rw [exec_sampleTick raw order hreset, sampleTick,
      sampleChannels_quiet raw order.parts s _ hnodup fun j _ => hquiet j, hall]
    rfl
  · rw [horder] at hall hnodup
    rw [exec_sampleTick raw order hreset, sampleTick, horder,
      sampleChannels_edge raw order.parts s hnodup hedge, hall]
    match i, k with
    | 0, .leading => rfl
    | 0, .trailing => rfl
    | 1, .leading => rfl
    | 1, .trailing => rfl
    | 2, .leading => rfl
    | 2, .trailing => rfl
    | 3, .leading => rfl
    | 3, .trailing => rfl
    | 4, .leading => exact congrArg Host.Outcome.next (lugEdge_eq order.parts _)
    | 4, .trailing => rfl
    | 5, .leading => rfl
    | 5, .trailing => rfl

end

/-! PROOFS. The encoders: quadrature, the reverse monitors, the doubt of a reverse count of INF (R11 to R13, R31). -/

namespace Sys2Proof.Machine

open Sys2Proof

set_option Elab.async false

variable {s t u : State}

/-! ### Quadrature decoding (R11) -/

theorem countOf_forward_iff {e : Encoder} {a b : Bool} :
    countOf e a b = some .forward ↔ (a, b) = (!e.pairB, e.pairA) := by
  unfold countOf
  cases e.pairA <;> cases e.pairB <;> cases a <;> cases b <;> decide

theorem countOf_reverse_iff {e : Encoder} {a b : Bool} :
    countOf e a b = some .reverse ↔ (a, b) = (e.pairB, !e.pairA) := by
  unfold countOf
  cases e.pairA <;> cases e.pairB <;> cases a <;> cases b <;> decide

theorem exec_encoderCount (unit : EncUnit) (a b : Bool) (order : CountOrder) {s : State} (h : s.resetHeld = false) :
    exec (.encoderCount unit a b order) s = .next (encoderCount unit a b order s) := by
  simp [exec, execEncoderCount, h]

/-- An encoder after the pair of its unit reads `a`, `b`, its reverse monitor's report aside. -/
structure Decoded (a b : Bool) (e f : Encoder) : Prop where
  pairA : f.pairA = a
  pairB : f.pairB = b
  forward : (a, b) = (!e.pairB, e.pairA) →
    f.position = e.position + 1 ∧ f.direction = .forward ∧ f.excursion = e.excursion - 1 ∧
      f.reverseReported = (e.reverseReported && decide (1 < e.excursion))
  reverse : (a, b) = (e.pairB, !e.pairA) →
    f.position = e.position - 1 ∧ f.direction = .reverse ∧ f.excursion = min 8388607 (e.excursion + 1)
  other : (a, b) ≠ (!e.pairB, e.pairA) → (a, b) ≠ (e.pairB, !e.pairA) →
    f.position = e.position ∧ f.direction = e.direction ∧ f.excursion = e.excursion ∧
      f.reverseReported = e.reverseReported

theorem not_forward_and_reverse {e : Encoder} {a b : Bool} (hf : (a, b) = (!e.pairB, e.pairA))
    (hr : (a, b) = (e.pairB, !e.pairA)) : False := by
  have h : Direction.forward = .reverse := Option.some.inj ((countOf_forward_iff.2 hf).symm.trans (countOf_reverse_iff.2 hr))
  cases h

theorem decoded_none {e : Encoder} {a b : Bool} (h : countOf e a b = none) :
    Decoded a b e { e with pairA := a, pairB := b } where
  pairA := rfl
  pairB := rfl
  forward hf := by rw [countOf_forward_iff.2 hf] at h; cases h
  reverse hr := by rw [countOf_reverse_iff.2 hr] at h; cases h
  other _ _ := ⟨rfl, rfl, rfl, rfl⟩

/-- A count, with a report of the reverse monitor made at a reverse one alone. -/
theorem decoded_count {e f : Encoder} {a b : Bool} {d : Direction} (h : countOf e a b = some d)
    (hf : f = { countEncoder a b d e with reverseReported := f.reverseReported })
    (hreport : d = .forward → f.reverseReported = (countEncoder a b d e).reverseReported) : Decoded a b e f := by
  cases d with
  | forward =>
    have hdir := countOf_forward_iff.1 h
    have hexc : (e.excursion - 1 != 0) = decide (1 < e.excursion) := by
      rw [Bool.eq_iff_iff]; simp; omega
    refine ⟨by rw [hf]; rfl, by rw [hf]; rfl, fun _ => ?_, fun hr => (not_forward_and_reverse hdir hr).elim,
      fun hn => absurd hdir hn⟩
    refine ⟨by rw [hf]; rfl, by rw [hf]; rfl, by rw [hf]; rfl, ?_⟩
    rw [hreport rfl, ← hexc]
    rfl
  | reverse =>
    have hdir := countOf_reverse_iff.1 h
    refine ⟨by rw [hf]; rfl, by rw [hf]; rfl, fun hn => (not_forward_and_reverse hn hdir).elim, fun _ => ?_,
      fun _ hn => absurd hdir hn⟩
    exact ⟨by rw [hf]; rfl, by rw [hf]; rfl, by rw [hf]; rfl⟩

/-! ### A count of INF (R12, R13, R31) -/

theorem encoderCount_inf_none {a b : Bool} (h : countOf s.inf a b = none) (order : CountOrder) :
    encoderCount .inf a b order s = { s with inf := { s.inf with pairA := a, pairB := b } } := by
  simp [encoderCount, h, setPair]

theorem encoderCount_inf_some {a b : Bool} {d : Direction} (h : countOf s.inf a b = some d) (order : CountOrder) :
    encoderCount .inf a b order s = infCount a b d s := by
  simp [encoderCount, h]

theorem infCount_forward (a b : Bool) (s : State) :
    infCount a b .forward s = { s with inf := countEncoder a b .forward s.inf } := by
  simp [infCount, reverseRaises]

/-- The encoder INF after a reverse count. -/
def infReversed (a b : Bool) (s : State) : Encoder :=
  { countEncoder a b .reverse s.inf with
    reverseReported := s.inf.reverseReported ||
      decide (getPar s .infeedReverseLimit < min 8388607 (s.inf.excursion + 1)) }

/-- A reverse count takes EXCURSION off 0, so it clears no report. -/
theorem countEncoder_reverse_reported (a b : Bool) (e : Encoder) :
    (countEncoder a b .reverse e).reverseReported = e.reverseReported := by
  have hpos : (min Config.excursionMax (e.excursion + 1) != 0) = true := by
    simp [Config.excursionMax]
  simp [countEncoder, excursionAfter, hpos]

theorem infCount_reverse (a b : Bool) (s : State) :
    infCount a b .reverse s =
      if getPar s .infeedReverseLimit < min 8388607 (s.inf.excursion + 1) ∧ s.inf.reverseReported = false then
        raise .infeedReverse { s.doubted with inf := infReversed a b s }
      else { s.doubted with inf := infReversed a b s } := by
  have hreported := countEncoder_reverse_reported a b s.inf
  have hraises : reverseRaises (getPar s .infeedReverseLimit) .reverse (countEncoder a b .reverse s.inf) = true ↔
      getPar s .infeedReverseLimit < min 8388607 (s.inf.excursion + 1) ∧ s.inf.reverseReported = false := by
    simp only [reverseRaises, hreported, beq_self_eq_true, Bool.true_and, Bool.and_eq_true, decide_eq_true_eq,
      Bool.not_eq_true']
    rfl
  have hdoubted : infCount a b .reverse s =
      if reverseRaises (getPar s .infeedReverseLimit) .reverse (countEncoder a b .reverse s.inf) = true then
        raise .infeedReverse { s.doubted with inf := { countEncoder a b .reverse s.inf with reverseReported := true } }
      else { s.doubted with inf := countEncoder a b .reverse s.inf } := by
    simp only [infCount, if_true, doubtMeasuring_eq]
    rfl
  rw [hdoubted]
  by_cases h : getPar s .infeedReverseLimit < min 8388607 (s.inf.excursion + 1) ∧ s.inf.reverseReported = false
  · have hreports : infReversed a b s = { countEncoder a b .reverse s.inf with reverseReported := true } := by
      simp [infReversed, h.1]
    rw [if_pos (hraises.2 h), if_pos h, hreports]
  · have hkeeps : infReversed a b s = countEncoder a b .reverse s.inf := by
      have hno : (s.inf.reverseReported || decide (getPar s .infeedReverseLimit < min 8388607 (s.inf.excursion + 1))) =
          s.inf.reverseReported := by
        cases hr : s.inf.reverseReported with
        | true => rfl
        | false => simpa [hr] using h
      rw [infReversed, hno, ← hreported]
    rw [if_neg (hraises.not.2 h), if_neg h, hkeeps]

/-- Raising an event changes no encoder. -/
theorem raise_inf (k : EventKind) (s : State) : (raise k s).inf = s.inf := by
  have h := raise_frame k s
  unfold RaiseFrame at h
  rw [h]

theorem raise_ch (k : EventKind) (s : State) : (raise k s).ch = s.ch := by
  have h := raise_frame k s
  unfold RaiseFrame at h
  rw [h]

/-- The encoder INF, after a count of either direction or none. -/
theorem encoderCount_inf_decoded (a b : Bool) (order : CountOrder) (s : State) :
    Decoded a b s.inf (encoderCount .inf a b order s).inf ∧ (encoderCount .inf a b order s).ch = s.ch := by
  cases h : countOf s.inf a b with
  | none => rw [encoderCount_inf_none h]; exact ⟨decoded_none h, rfl⟩
  | some d =>
    rw [encoderCount_inf_some h]
    cases d with
    | forward => rw [infCount_forward]; exact ⟨decoded_count h rfl fun _ => rfl, rfl⟩
    | reverse =>
      have hinf : (infCount a b .reverse s).inf = infReversed a b s ∧ (infCount a b .reverse s).ch = s.ch := by
        rw [infCount_reverse]
        split
        · exact ⟨raise_inf _ _, raise_ch _ _⟩
        · exact ⟨rfl, rfl⟩
      rw [hinf.1, hinf.2]
      exact ⟨decoded_count h rfl (fun hd => by cases hd), rfl⟩

/-! ### A count of CH (R12, R16, R17) -/

theorem encoderCount_ch_none {a b : Bool} (h : countOf s.ch a b = none) (order : CountOrder) :
    encoderCount .ch a b order s = { s with ch := { s.ch with pairA := a, pairB := b } } := by
  simp [encoderCount, h, setPair]

theorem encoderCount_ch_some {a b : Bool} {d : Direction} (h : countOf s.ch a b = some d) (order : CountOrder) :
    encoderCount .ch a b order s = chCount a b d order s := by
  simp [encoderCount, h]

/-- The encoder and the speed monitor after a count of CH, before its pieces. -/
def chCounted (a b : Bool) (d : Direction) (s : State) : State :=
  speedCount d { s with ch := countEncoder a b d s.ch }

theorem chCounted_ch (a b : Bool) (d : Direction) (s : State) : (chCounted a b d s).ch = countEncoder a b d s.ch := by
  cases d <;> rfl

theorem chCount_eq (a b : Bool) (d : Direction) (order : CountOrder) (s : State) :
    chCount a b d order s =
      (fullOrder 3 order.pieces).foldl (chPiece d (s.ch.direction == .forward && d == .reverse) order.outputs)
        (chCounted a b d s) := rfl

theorem LineFrame.ch (h : LineFrame s t) : t.ch = s.ch := by
  unfold LineFrame at h
  rw [h]

theorem settleCount_ch (outputs : List (Fin 24)) (s : State) : (settleCount outputs s).ch = s.ch :=
  (settleCount_frame outputs s).ch

theorem turnToReverse_ch (s : State) : (turnToReverse s).ch = s.ch := (turnToReverse_frame s).ch

theorem chReverseEvent_raises {d : Direction} (h : reverseRaises (getPar s .chainReverseLimit) d s.ch = true) :
    chReverseEvent d s = raise .chainReverse { s with ch := { s.ch with reverseReported := true } } := if_pos h

theorem chReverseEvent_quiet {d : Direction} (h : reverseRaises (getPar s .chainReverseLimit) d s.ch = false) :
    chReverseEvent d s = s := if_neg (by simp [h])

/-- `f` is the encoder `e` but for a report that is made at a reverse count alone, and not taken back (R12). -/
structure Reported (d : Direction) (e f : Encoder) : Prop where
  same    : f = { e with reverseReported := f.reverseReported }
  forward : d = .forward → f.reverseReported = e.reverseReported
  kept    : e.reverseReported = true → f.reverseReported = true

theorem Reported.refl (d : Direction) (e : Encoder) : Reported d e e := ⟨rfl, fun _ => rfl, id⟩

theorem Reported.trans {d : Direction} {e f g : Encoder} (h : Reported d e f) (k : Reported d f g) : Reported d e g where
  same := by rw [k.same, h.same]
  forward hd := (k.forward hd).trans (h.forward hd)
  kept := k.kept ∘ h.kept

/-- A piece of a count changes, of the encoder CH, at most the report. -/
theorem chPiece_ch (d : Direction) (turns : Bool) (outputs : List (Fin 24)) (s : State) (k : Fin 3) :
    Reported d s.ch (chPiece d turns outputs s k).ch := by
  match k with
  | 0 => simp only [chPiece, settleCount_ch]; exact .refl _ _
  | 1 =>
    simp only [chPiece]
    split
    · rw [turnToReverse_ch]; exact .refl _ _
    · exact .refl _ _
  | 2 =>
    cases h : reverseRaises (getPar s .chainReverseLimit) d s.ch with
    | true =>
      simp only [chPiece, chReverseEvent_raises h, raise_ch]
      refine ⟨rfl, ?_, fun _ => rfl⟩
      rintro rfl
      simp [reverseRaises] at h
    | false => simp only [chPiece, chReverseEvent_quiet h]; exact .refl _ _

theorem chPieces_ch (d : Direction) (turns : Bool) (outputs : List (Fin 24)) (pieces : List (Fin 3)) (s : State) :
    Reported d s.ch (pieces.foldl (chPiece d turns outputs) s).ch := by
  induction pieces generalizing s with
  | nil => exact .refl _ _
  | cons k rest ih => exact (chPiece_ch d turns outputs s k).trans (ih _)

theorem chCount_ch (a b : Bool) (d : Direction) (order : CountOrder) (s : State) :
    Reported d (countEncoder a b d s.ch) (chCount a b d order s).ch := by
  have h := chPieces_ch d (s.ch.direction == .forward && d == .reverse) order.outputs (fullOrder 3 order.pieces)
    (chCounted a b d s)
  rwa [chCounted_ch] at h

theorem encoderCount_ch_decoded (a b : Bool) (order : CountOrder) (s : State) :
    Decoded a b s.ch (encoderCount .ch a b order s).ch ∧ (encoderCount .ch a b order s).inf = s.inf := by
  refine ⟨?_, ?inf⟩
  · cases h : countOf s.ch a b with
    | none => rw [encoderCount_ch_none h]; exact decoded_none h
    | some d =>
      rw [encoderCount_ch_some h]
      have hch := chCount_ch a b d order s
      exact decoded_count h hch.same hch.forward
  case inf =>
    have h := encoderCount_ch_frame a b order s
    unfold CountFrame LineFrame at h
    rw [h]

theorem quadratureDecoding : Claims.QuadratureDecoding := by
  intro unit a b order s hreset
  refine ⟨_, exec_encoderCount unit a b order hreset, ?_⟩
  cases unit with
  | inf =>
    obtain ⟨⟨hA, hB, hf, hr, ho⟩, hch⟩ := encoderCount_inf_decoded a b order s
    exact ⟨hch, hA, hB, hf, hr, ho⟩
  | ch =>
    obtain ⟨⟨hA, hB, hf, hr, ho⟩, hinf⟩ := encoderCount_ch_decoded a b order s
    exact ⟨hinf, hA, hB, hf, hr, ho⟩

/-! ### The reverse monitors (R12) -/

/-- Raising a kind leaves its flag set (R193). -/
theorem raise_flag (k : EventKind) (s : State) : (raise k s).events[eventIdx k].flag = true := by
  have hset : (setFlag k s).events[eventIdx k].flag = true := by rw [setFlag_events, if_pos rfl]
  unfold raise
  dsimp only
  split
  · exact hset
  · next after _ =>
    have hnote : (noteEscalation k after (setFlag k s)).events[eventIdx k].flag = true := hset
    exact (enterLine_flags after _).flags k hnote

theorem infReversed_reported (a b : Bool) (s : State) :
    (infReversed a b s).reverseReported =
      if getPar s .infeedReverseLimit < min 8388607 (s.inf.excursion + 1) ∧ s.inf.reverseReported = false then true
      else s.inf.reverseReported := by
  unfold infReversed
  cases s.inf.reverseReported with
  | true => simp
  | false => by_cases h : getPar s .infeedReverseLimit < min 8388607 (s.inf.excursion + 1) <;> simp [h]

theorem infeedReverseMonitor {a b : Bool} (hpair : (a, b) = (s.inf.pairB, !s.inf.pairA)) (order : CountOrder) :
    let t := encoderCount .inf a b order s
    if getPar s .infeedReverseLimit < min 8388607 (s.inf.excursion + 1) ∧ s.inf.reverseReported = false then
      t.events[eventIdx .infeedReverse].flag = true ∧ t.inf.reverseReported = true
    else t.events = s.events ∧ t.inf.reverseReported = s.inf.reverseReported := by
  have hreported := infReversed_reported a b s
  intro t
  have ht : t = infCount a b .reverse s := encoderCount_inf_some (countOf_reverse_iff.2 hpair) order
  rw [ht, infCount_reverse]
  split
  · next h => exact ⟨raise_flag _ _, by rw [raise_inf, hreported, if_pos h]⟩
  · next h => exact ⟨rfl, by rw [hreported, if_neg h]⟩

theorem chPiece_params (d : Direction) (turns : Bool) (outputs : List (Fin 24)) (s : State) (k : Fin 3) :
    (chPiece d turns outputs s k).params = s.params := by
  have h := chPiece_frame d turns outputs s k
  unfold LineFrame at h
  rw [h]

/-- CHAIN_REVERSE has been raised and reported. -/
def ChainReported (s : State) : Prop := s.events[eventIdx .chainReverse].flag = true ∧ s.ch.reverseReported = true

theorem chPieces_keep_chainReported (d : Direction) (turns : Bool) (outputs : List (Fin 24)) (pieces : List (Fin 3))
    (h : ChainReported s) : ChainReported (pieces.foldl (chPiece d turns outputs) s) :=
  ⟨(Works.foldl (chPiece_works d turns outputs) pieces s).flags _ h.1, (chPieces_ch d turns outputs pieces s).kept h.2⟩

/-- The reverse event is raised when its turn comes, wherever it stands among the pieces (log 5). -/
theorem chPieces_report {d : Direction} (turns : Bool) (outputs : List (Fin 24)) {pieces : List (Fin 3)}
    (hmem : 2 ∈ pieces) (h : reverseRaises (getPar s .chainReverseLimit) d s.ch = true) :
    ChainReported (pieces.foldl (chPiece d turns outputs) s) := by
  induction pieces generalizing s with
  | nil => cases hmem
  | cons k rest ih =>
    rw [List.foldl_cons]
    by_cases hk : k = 2
    · subst hk
      refine chPieces_keep_chainReported d turns outputs rest ?_
      simp only [chPiece, chReverseEvent_raises h, ChainReported, raise_flag, raise_ch, true_and]
    · refine ih ((List.mem_cons.1 hmem).resolve_left (Ne.symm hk)) ?_
      have hch : (chPiece d turns outputs s k).ch = s.ch := by
        match k with
        | 0 => exact settleCount_ch outputs s
        | 1 =>
          simp only [chPiece]
          split
          · exact turnToReverse_ch s
          · rfl
        | 2 => exact absurd rfl hk
      rw [hch, getPar_of_params (chPiece_params d turns outputs s k)]
      exact h

theorem chainReverseMonitor {a b : Bool} (hpair : (a, b) = (s.ch.pairB, !s.ch.pairA)) (order : CountOrder)
    (hlimit : getPar s .chainReverseLimit < min 8388607 (s.ch.excursion + 1)) (hreported : s.ch.reverseReported = false) :
    ChainReported (encoderCount .ch a b order s) := by
  rw [encoderCount_ch_some (countOf_reverse_iff.2 hpair), chCount_eq]
  refine chPieces_report _ _ (mem_fullOrder _ 2) ?_
  rw [chCounted_ch]
  simp only [reverseRaises, countEncoder_reverse_reported, hreported, beq_self_eq_true, Bool.true_and, Bool.not_false,
    Bool.and_true, decide_eq_true_eq]
  exact hlimit

theorem reverseMonitors : Claims.ReverseMonitors := by
  refine ⟨fun a b order s hreset hpair => ?_, fun a b order s hreset hpair hlimit hreported => ?_⟩
  · exact ⟨_, exec_encoderCount .inf a b order hreset, infeedReverseMonitor hpair order⟩
  · exact ⟨_, exec_encoderCount .ch a b order hreset, chainReverseMonitor hpair order hlimit hreported⟩

theorem reverseCountsDoubtTheMeasurement : Claims.ReverseCountsDoubtTheMeasurement := by
  intro a b order s hreset
  refine ⟨(encoderCount .inf a b order s).inf, fun hpair => ?_, fun hpair => ?_⟩
  · have hcount := encoderCount_inf_some (countOf_reverse_iff.2 hpair) order
    have hinf : (infCount a b .reverse s).inf = infReversed a b s := by
      rw [infCount_reverse]
      split
      · exact raise_inf _ _
      · rfl
    rw [exec_encoderCount .inf a b order hreset, hcount, hinf, infCount_reverse]
  · rw [exec_encoderCount .inf a b order hreset]
    cases h : countOf s.inf a b with
    | none => rw [encoderCount_inf_none h]
    | some d =>
      cases d with
      | forward => rw [encoderCount_inf_some h, infCount_forward]
      | reverse => exact absurd (countOf_reverse_iff.1 h) hpair

end Sys2Proof.Machine

section

open Sys2Proof Sys2Proof.Machine

/-- Settles O11, by the encoder after a count and the reverse event's place among the pieces of one. -/
theorem encodersCount : Obligations.EncodersCount :=
  ⟨quadratureDecoding, reverseMonitors, reverseCountsDoubtTheMeasurement⟩

end

/-! PROOFS. The speed monitor (R16, R17), and the turn to reverse at a count, also within an advance (R115). -/

namespace Sys2Proof.Machine

open Sys2Proof

set_option Elab.async false

variable {s t u : State}

/-! ### The speed monitor (R16, R17) -/

/-- A history that ends with the time just appended; it is dropped to its last 65 (R16). -/
theorem appendTime_eq {history : List Clock} (h : history.length ≤ 65) (t : Clock) :
    appendTime t history = (history ++ [t]).drop ((history ++ [t]).length - 65) := by
  unfold appendTime
  dsimp only
  split
  · next hlong =>
    have hone : (history ++ [t]).length - 65 = 1 := by
      have hlong' : 65 < (history ++ [t]).length := hlong
      simp only [List.length_append, List.length_singleton] at hlong' ⊢
      omega
    rw [hone, List.drop_one]
  · next hfits =>
    have hzero : (history ++ [t]).length - 65 = 0 := Nat.sub_eq_zero_of_le (Nat.not_lt.1 hfits)
    rw [hzero, List.drop_zero]

theorem appendTime_last (t : Clock) (history : List Clock) : ∃ before, appendTime t history = before ++ [t] := by
  unfold appendTime
  dsimp only
  split
  · cases history with
    | nil => exact ⟨[], by simp_all [Config.speedHistory]⟩
    | cons first rest => exact ⟨rest, rfl⟩
  · exact ⟨history, rfl⟩

/-- SPEED of a history by its ends (R16). -/
theorem speedOf_append (before : List Clock) (t : Clock) :
    speedOf (before ++ [t]) =
      if (before ++ [t]).length < 65 then 0 else 64000000 / max 1 (t - (before ++ [t]).headD 0).toNat := by
  have hlast (first : Clock) : (before ++ [t]).getLastD first = t := by simp
  cases before with
  | nil => rfl
  | cons first rest =>
    have hspeed : speedOf (first :: rest ++ [t]) =
        if (first :: rest ++ [t]).length < 65 then 0
        else 64000000 / max 1 ((first :: rest ++ [t]).getLastD first - first).toNat := rfl
    rw [hspeed, hlast]
    rfl

/-- What the pieces of a count leave of the speed monitor. -/
theorem chCount_speed (a b : Bool) (d : Direction) (order : CountOrder) (s : State) :
    (chCount a b d order s).stall = (chCounted a b d s).stall ∧
    (chCount a b d order s).history = (chCounted a b d s).history ∧
    (chCount a b d order s).speed = (chCounted a b d s).speed := by
  have h := chPieces_frame d (s.ch.direction == .forward && d == .reverse) order.outputs (fullOrder 3 order.pieces)
    (chCounted a b d s)
  rw [← chCount_eq] at h
  unfold LineFrame at h
  rw [h]
  exact ⟨rfl, rfl, rfl⟩

theorem exec_speedStallTimeout (s : State) :
    exec .speedStallTimeout s =
      .next (if !s.resetHeld && s.stall == some 0 then emptyHistory { s with stall := none } else s) := rfl

theorem speedMonitor : Claims.SpeedMonitor := by
  refine ⟨fun a b order s hreset hlength => ⟨fun hpair => ?_, fun hpair => ?_⟩, fun s hreset => ⟨fun hdue => ?_, fun hdue => ?_⟩⟩
  · obtain ⟨hstall, hhistory, hspeed⟩ := chCount_speed a b .forward order s
    obtain ⟨before, hbefore⟩ := appendTime_last s.us s.history
    have hkept : (chCounted a b .forward s).history = appendTime s.us s.history := rfl
    refine ⟨_, exec_encoderCount .ch a b order hreset, ?_⟩
    rw [encoderCount_ch_some (countOf_forward_iff.2 hpair), hstall, hhistory, hspeed, hkept]
    refine ⟨rfl, appendTime_eq hlength s.us, ?_⟩
    have hvalue : (chCounted a b .forward s).speed = speedOf (appendTime s.us s.history) := rfl
    rw [hvalue, hbefore]
    exact speedOf_append before s.us
  · obtain ⟨hstall, hhistory, hspeed⟩ := chCount_speed a b .reverse order s
    refine ⟨_, exec_encoderCount .ch a b order hreset, ?_⟩
    rw [encoderCount_ch_some (countOf_reverse_iff.2 hpair), hstall, hhistory, hspeed]
    exact ⟨rfl, rfl, rfl⟩
  · simp [exec_speedStallTimeout, hreset, hdue, emptyHistory]
  · simp [exec_speedStallTimeout, hdue]

/-! ### No pulse on any counted output (R115) -/

/-- Every counted output is IDLE with ACTIVE and NEXT absent. -/
def State.Unscheduled (s : State) : Prop :=
  ∀ o : Fin 24, s.outs[o].state = .idle ∧ s.outs[o].active = none ∧ s.outs[o].waiting = none

theorem State.Unscheduled.of_outs (hs : s.Unscheduled) (h : t.outs = s.outs) : t.Unscheduled := by
  unfold State.Unscheduled
  rw [h]
  exact hs

theorem State.Unscheduled.updateOut (hs : s.Unscheduled) (o : Fin 24) : (updateOut o idleOut s).Unscheduled := by
  intro p
  simp only [Machine.updateOut, modifyAt_get]
  split
  · exact ⟨rfl, rfl, rfl⟩
  · exact hs p

/-- A line stop finds nothing to report on an output with no pulse (R117). -/
theorem State.Unscheduled.stopOut (hs : s.Unscheduled) (o : Fin 24) : (stopOut s o).Unscheduled := by
  obtain ⟨-, hactive, hwaiting⟩ := hs o
  have hstop : Machine.stopOut s o = Machine.updateOut o idleOut s := by
    simp only [Machine.stopOut, stopActive, hactive, hwaiting]
  rw [hstop]
  exact hs.updateOut o

theorem State.Unscheduled.stopOuts (hs : s.Unscheduled) (order : List (Fin 24)) :
    (order.foldl Machine.stopOut s).Unscheduled := by
  induction order generalizing s with
  | nil => exact hs
  | cons o rest ih => exact ih (hs.stopOut o)

theorem State.Unscheduled.releaseForced (hs : s.Unscheduled) : (releaseForced s).Unscheduled := by
  intro o
  have h := hs o
  simpa [Machine.releaseForced] using h

theorem State.Unscheduled.stopPulses (hs : s.Unscheduled) : (stopPulses s).Unscheduled := hs.of_outs rfl

theorem State.Unscheduled.enterLine (hs : s.Unscheduled) (after : LineState) : (enterLine after s).Unscheduled := by
  have hline : State.Unscheduled { s with line := after } := hs.of_outs rfl
  have hstopped := (hline.stopOuts (indices 24)).stopPulses
  unfold Machine.enterLine
  dsimp only
  split <;> split
  · exact hstopped.releaseForced
  · exact hline.releaseForced
  · exact hstopped
  · exact hline

theorem State.Unscheduled.raise (hs : s.Unscheduled) (k : EventKind) : (raise k s).Unscheduled := by
  have hflag : (setFlag k s).Unscheduled := hs.of_outs rfl
  unfold Machine.raise
  dsimp only
  split
  · exact hflag
  · next after _ =>
    have hnote : (noteEscalation k after (setFlag k s)).Unscheduled := hflag.of_outs rfl
    exact hnote.enterLine after

/-- No point is due on an output that is IDLE. -/
theorem State.Unscheduled.settle (hs : s.Unscheduled) (order : List (Fin 24)) (atCount : Bool) (n : Nat) :
    settle order atCount n s = s := by
  have hdue (o : Fin 24) : dueAt atCount s o = none := by
    unfold dueAt
    split
    · rfl
    · dsimp only; rw [(hs o).1]
  have hnone : firstDue order atCount s = none := by
    simp [firstDue, hdue]
  cases n with
  | zero => rfl
  | succ n => simp [Machine.settle, hnone]

theorem reverseOut_outs (s : State) (o p : Fin 24) :
    (reverseOut s o).outs[p] = if p = o then idleOut s.outs[p] else s.outs[p] := by
  have houts : (reverseOut s o).outs = (updateOut o idleOut s).outs := by
    unfold reverseOut
    dsimp only
    split
    · split <;> rfl
    · rfl
  rw [houts]
  exact modifyAt_get _ _ _ _

theorem reverseOuts_outs (order : List (Fin 24)) (s : State) (p : Fin 24) :
    (order.foldl reverseOut s).outs[p] = if p ∈ order then idleOut s.outs[p] else s.outs[p] := by
  induction order generalizing s with
  | nil => rfl
  | cons o rest ih =>
    rw [List.foldl_cons, ih, reverseOut_outs]
    by_cases hp : p = o <;> by_cases hin : p ∈ rest <;> simp [hp, hin, idleOut]

theorem turnToReverse_outs (s : State) (o : Fin 24) : (turnToReverse s).outs[o] = idleOut s.outs[o] := by
  rw [turnToReverse, reverseOuts_outs, if_pos (mem_indices o)]

theorem turnToReverse_unscheduled (s : State) : (turnToReverse s).Unscheduled := by
  intro o
  rw [turnToReverse_outs]
  exact ⟨rfl, rfl, rfl⟩

/-! ### The turn to reverse among the pieces of a count (R115) -/

theorem State.Unscheduled.chPiece (hs : s.Unscheduled) (d : Direction) (turns : Bool) (outputs : List (Fin 24))
    (k : Fin 3) : (chPiece d turns outputs s k).Unscheduled := by
  match k with
  | 0 =>
    have hsame : Machine.chPiece d turns outputs s 0 = s := hs.settle _ true _
    rwa [hsame]
  | 1 =>
    simp only [Machine.chPiece]
    split
    · exact turnToReverse_unscheduled s
    · exact hs
  | 2 =>
    simp only [Machine.chPiece, chReverseEvent]
    split
    · have hreported : State.Unscheduled { s with ch := { s.ch with reverseReported := true } } := hs.of_outs rfl
      exact hreported.raise _
    · exact hs

theorem State.Unscheduled.chPieces (hs : s.Unscheduled) (d : Direction) (turns : Bool) (outputs : List (Fin 24))
    (pieces : List (Fin 3)) : (pieces.foldl (Machine.chPiece d turns outputs) s).Unscheduled := by
  induction pieces generalizing s with
  | nil => exact hs
  | cons k rest ih => exact ih (hs.chPiece d turns outputs k)

/-- The notice ends every pulse when its turn comes, and nothing after it schedules one (log 5). -/
theorem chPieces_unscheduled (d : Direction) (outputs : List (Fin 24)) {pieces : List (Fin 3)} (hmem : 1 ∈ pieces)
    (s : State) : (pieces.foldl (chPiece d true outputs) s).Unscheduled := by
  induction pieces generalizing s with
  | nil => cases hmem
  | cons k rest ih =>
    rw [List.foldl_cons]
    rcases List.mem_cons.1 hmem with rfl | hrest
    · exact (turnToReverse_unscheduled s).chPieces d true outputs rest
    · exact ih hrest _

/-- No pulse is left, and CH runs in reverse. -/
def State.Turned (s : State) : Prop := s.Unscheduled ∧ s.ch.direction = .reverse

theorem encoderCount_turned {a b : Bool} (hforward : s.ch.direction = .forward) (hpair : (a, b) = (s.ch.pairB, !s.ch.pairA))
    (order : CountOrder) : (encoderCount .ch a b order s).Turned := by
  rw [encoderCount_ch_some (countOf_reverse_iff.2 hpair)]
  refine ⟨?_, ?_⟩
  · have hturns : (s.ch.direction == .forward && Direction.reverse == .reverse) = true := by rw [hforward]; rfl
    rw [chCount_eq, hturns]
    exact chPieces_unscheduled .reverse order.outputs (mem_fullOrder _ 1) _
  · rw [(chCount_ch a b .reverse order s).same]
    rfl

theorem theTurnToReverseEndsEveryPulse : Claims.TheTurnToReverseEndsEveryPulse := by
  intro a b order s hreset hforward hpair
  exact ⟨_, exec_encoderCount .ch a b order hreset, (encoderCount_turned hforward hpair order).1⟩

/-! ### Armings on their way (R115, log 38) -/

/-- An arming that arrives in reverse is not taken; in a stopped line it is a missed pulse (R115, R118). -/
theorem arm_of_reverse (h : s.ch.direction = .reverse) (o : Fin 24) (j : Fin 40) (t : Nat) (c0 : Pos) :
    arm o j t c0 s = if actuatorsAct s then s else missPulse raise o (buildPulse o j t c0 s) s := by
  cases ha : actuatorsAct s <;> simp [arm, ha, h]

theorem State.Turned.arm (hs : s.Turned) (o : Fin 24) (j : Fin 40) (t : Nat) (c0 : Pos) :
    (arm o j t c0 s).Turned ∧ FlagsStay s (Machine.arm o j t c0 s) := by
  obtain ⟨hidle, hreverse⟩ := hs
  have hdir : (Machine.arm o j t c0 s).ch.direction = .reverse := by rw [(arm_frame o j t c0 s).ch, hreverse]
  refine ⟨⟨?_, hdir⟩, ?_⟩
  · rw [arm_of_reverse hreverse]
    split
    · exact hidle
    · unfold missPulse
      split
      · have hmarked : (markMissedCut (buildPulse o j t c0 s) s).Unscheduled := hidle.of_outs rfl
        exact hmarked.raise _
      · exact hidle.raise _
  · rw [arm_of_reverse hreverse]
    split
    · exact .refl s
    · exact missPulse_flags (raise_flags (by decide)) o _ s

/-- A piece of an advance arms an output or does nothing. -/
theorem advancePiece_cases (c0 : Pos) (s : State) (k : Fin 9) :
    advancePiece c0 s k = s ∨ ∃ o j t, advancePiece c0 s k = arm o j t c0 s := by
  unfold advancePiece
  dsimp only
  split
  · unfold sawArming
    dsimp only
    split
    · split
      · exact .inr ⟨_, _, _, rfl⟩
      · exact .inl rfl
    · exact .inl rfl
  · split
    · unfold present
      dsimp only
      split
      · exact .inl rfl
      · split
        · exact .inl rfl
        · split
          · exact .inr ⟨_, _, _, rfl⟩
          · exact .inl rfl
    · exact .inl rfl

theorem State.Turned.advancePiece (hs : s.Turned) (c0 : Pos) (k : Fin 9) :
    (advancePiece c0 s k).Turned ∧ FlagsStay s (Machine.advancePiece c0 s k) := by
  rcases advancePiece_cases c0 s k with h | ⟨o, j, t, h⟩
  · rw [h]; exact ⟨hs, .refl s⟩
  · rw [h]; exact hs.arm o j t c0

theorem State.Turned.advancePieces (hs : s.Turned) (c0 : Pos) {parts : List AdvancePart}
    (hparts : ∀ p ∈ parts, ∃ k, p = .piece k) :
    (parts.foldl (advancePart c0) s).Turned ∧ FlagsStay s (parts.foldl (advancePart c0) s) := by
  induction parts generalizing s with
  | nil => exact ⟨hs, .refl s⟩
  | cons p rest ih =>
    obtain ⟨k, rfl⟩ := hparts p (by simp)
    obtain ⟨hturned, hflags⟩ := hs.advancePiece c0 k
    obtain ⟨hrest, hrestFlags⟩ := ih hturned fun q hq => hparts q (by simp [hq])
    exact ⟨hrest, hflags.trans hrestFlags⟩

/-- A count among pieces keeps its place in the order of an advance; what stands around it are pieces. -/
theorem fullParts_count {before rest : List AdvancePart} (hparts : ∀ p ∈ before ++ rest, ∃ k, p = .piece k)
    (a b : Bool) (order : CountOrder) :
    ∃ early late, fullParts (before ++ .count a b order :: rest) = early ++ .count a b order :: late ∧
      (∀ p ∈ early, ∃ k, p = .piece k) ∧ (∀ p ∈ late, ∃ k, p = .piece k) ∧ (before = [] → early = []) := by
  have hnot : AdvancePart.count a b order ∉ before := fun hmem => by
    obtain ⟨k, hk⟩ := hparts _ (List.mem_append_left _ hmem)
    cases hk
  have hkeep : (AdvancePart.count a b order :: rest).removeAll before = .count a b order :: rest.removeAll before := by
    simp [List.removeAll, hnot]
  refine ⟨before.eraseDups, ((rest.removeAll before).filter (fun p => !p == .count a b order)).eraseDups ++
    ((indices 9).map .piece).filter (fun p => !(before ++ .count a b order :: rest).contains p), ?_, fun p hp => ?_,
    fun p hp => ?_, ?_⟩
  · rw [fullParts, List.eraseDups_append, hkeep, List.eraseDups_cons, List.append_assoc, List.cons_append]
  · exact hparts p (List.mem_append_left _ (List.mem_eraseDups.1 hp))
  · rcases List.mem_append.1 hp with h | h
    · have hrest : p ∈ rest := (List.mem_filter.1 (List.mem_of_mem_filter (List.mem_eraseDups.1 h))).1
      exact hparts p (List.mem_append_right _ hrest)
    · obtain ⟨k, -, rfl⟩ := List.mem_map.1 (List.mem_of_mem_filter h)
      exact ⟨k, rfl⟩
  · rintro rfl
    rfl

/-- Pieces, a count that turns the chain, and pieces after it. -/
theorem advanceParts_turn {c0 : Pos} {early late : List AdvancePart} {a b : Bool} {order : CountOrder}
    (hforward : s.ch.direction = .forward) (hpair : (a, b) = (s.ch.pairB, !s.ch.pairA))
    (hearly : ∀ p ∈ early, ∃ k, p = .piece k) (hlate : ∀ p ∈ late, ∃ k, p = .piece k) :
    ((early ++ .count a b order :: late).foldl (advancePart c0) s).Turned ∧
    (early = [] → FlagsStay s ((early ++ .count a b order :: late).foldl (advancePart c0) s)) := by
  have hch := (advancePieces_frame c0 early s hearly).ch
  rw [List.foldl_append, List.foldl_cons]
  have hturned : (advancePart c0 (early.foldl (advancePart c0) s) (.count a b order)).Turned :=
    encoderCount_turned (by rw [hch, hforward]) (by rw [hch, hpair]) order
  obtain ⟨hend, hflags⟩ := hturned.advancePieces c0 hlate
  refine ⟨hend, ?_⟩
  rintro rfl
  exact (encoderCount_works .ch a b order s).toFlagsStay.trans hflags

theorem theTurnCancelsArmingsOnTheirWay : Claims.TheTurnCancelsArmingsOnTheirWay := by
  intro c0 before rest a b order s hforward hpair hparts
  obtain ⟨early, late, hsplit, hearly, hlate, hfirst⟩ := fullParts_count hparts a b order
  have hch := (advanceSteps_frame c0 s).ch
  obtain ⟨hturned, hflags⟩ := advanceParts_turn (c0 := c0) (order := order) (by rw [hch, hforward]) (by rw [hch, hpair])
    hearly hlate
  simp only [advance, hsplit]
  exact ⟨hturned.1, fun hempty => ((advanceSteps_works c0 s).toFlagsStay.trans (hflags (hfirst hempty))).late⟩

end Sys2Proof.Machine

section

open Sys2Proof Sys2Proof.Machine

/-- Settles O12: the speed monitor by the history after a count, the turn by the notice's place among the pieces. -/
theorem chainCounts : Obligations.ChainCounts :=
  ⟨speedMonitor, theTurnToReverseEndsEveryPulse, theTurnCancelsArmingsOnTheirWay⟩

end

/-! PROOFS. The pulse of an arming (R18, R107) and what an arming does (R108, R112, R115, R118). -/

namespace Sys2Proof.Machine

open Sys2Proof

set_option Elab.async false

variable {s t u : State}

/-! ### Outputs and points -/

theorem isSaw_iff {o : Fin 24} : isSaw o = true ↔ o.val < 16 := by simp [isSaw]

@[simp] theorem isSaw_sawOut (i : Fin 16) : isSaw (sawOut i) = true := isSaw_iff.2 i.isLt

@[simp] theorem isSaw_divOut (l : Fin 8) : isSaw (divOut l) = false := by simp [isSaw, divOut]

theorem laneOfOut_saw {o : Fin 24} (h : o.val < 16) : laneOfOut o = none := dif_neg (Nat.not_le.2 h)

@[simp] theorem laneOfOut_sawOut (i : Fin 16) : laneOfOut (sawOut i) = none := laneOfOut_saw i.isLt

theorem laneOfOut_lane {o : Fin 24} {l : Fin 8} (h : o.val = 16 + l.val) : laneOfOut o = some l := by
  have hlow : 16 ≤ o.val := by omega
  have hlane : (⟨o.val - 16, by omega⟩ : Fin 8) = l := Fin.ext (by simp only; omega)
  rw [laneOfOut, dif_pos hlow, hlane]

@[simp] theorem laneOfOut_divOut (l : Fin 8) : laneOfOut (divOut l) = some l := laneOfOut_lane rfl

theorem reached_iff {position point : Pos} : reached position point = true ↔ 0 ≤ (position - point).toInt := by
  simp [reached, signedDiff]

theorem reached_false_iff {position point : Pos} : reached position point = false ↔ (position - point).toInt < 0 := by
  simp [reached, signedDiff]

/-! ### The pulse of an arming (R18, R107) -/

theorem add_half_div (n : Nat) : (n + 500) / 1000 = n / 1000 + if 500 ≤ n % 1000 then 1 else 0 := by
  split <;> omega

/-- A point ahead of another by `fire` and back by `lead`, modulo 2^24. -/
theorem toNat_add_sub_ofNat (c0 : Pos) (fire lead : Nat) :
    ((c0 + BitVec.ofNat 24 fire - BitVec.ofNat 24 lead).toNat : Int) =
      ((c0.toNat : Int) + (fire : Int) - (lead : Int)) % 16777216 := by
  rw [BitVec.toNat_sub, BitVec.toNat_add, BitVec.toNat_ofNat, BitVec.toNat_ofNat]
  omega

theorem pulsesAreBuiltFromTheSettings : Claims.PulsesAreBuiltFromTheSettings := by
  intro o lug t c0 s saw latency fire hold rounded p
  have hsaw : isSaw o = true ↔ saw := isSaw_iff
  have hlead : p.lead = min rounded (getPar s .chainPitch / 2) := by
    have hlatency : getPar s (if isSaw o then .sawLatencyMs else .divertLatencyMs) = latency := by
      simp only [latency, hsaw]; split <;> rfl
    simp only [p, buildPulse, leadOf, hlatency, add_half_div, rounded]
  have hset : p.setAt = c0 + BitVec.ofNat 24 fire - BitVec.ofNat 24 p.lead := by
    have hfire : fireOf s o = fire := by
      simp only [fireOf, fire, hsaw]; split <;> rfl
    simp only [p, buildPulse, hfire]
  have hclear : p.clearAt = p.setAt + BitVec.ofNat 24 hold := by
    have hhold : holdOf s o = hold := by
      simp only [holdOf, hold, hsaw]; split <;> rfl
    simp only [p, buildPulse, hhold]
  refine ⟨hlead, rfl, rfl, fun h => laneOfOut_saw h, fun l h => laneOfOut_lane h, ?_, ?_⟩
  · rw [hset]
    exact toNat_add_sub_ofNat c0 fire p.lead
  · rw [hclear, BitVec.toNat_add, BitVec.toNat_ofNat, Nat.add_mod_mod]

/-! ### An arming (R108, R112, R115, R118) -/

theorem actuatorsAct_iff : actuatorsAct s = true ↔ s.line = .running ∨ s.line = .hold := by
  simp [actuatorsAct]

theorem actuatorsAct_stopped (h : s.line = .stopped ∨ s.line = .faultStop) : actuatorsAct s = false := by
  rcases h with h | h <;> simp [actuatorsAct, h]

theorem missPulse_raise (o : Fin 24) (p : Pulse) (s : State) :
    missPulse raise o p s = raise .missedActuation (if o.val < 16 then markMissedCut p s else s) := by
  simp only [missPulse, isSaw_iff]

/-- An arming in a stopped line (R118). -/
theorem arm_stopped (h : s.line = .stopped ∨ s.line = .faultStop) (o : Fin 24) (lug : Fin 40) (t : Nat) (c0 : Pos) :
    arm o lug t c0 s = missPulse raise o (buildPulse o lug t c0 s) s := by
  simp [arm, actuatorsAct_stopped h]

/-- LATE_FIRE, for a set point already reached (R108). -/
def raiseLate (p : Pulse) (s u : State) : State := if reached s.ch.position p.setAt then raise .lateFire u else u

theorem arm_idle (hact : s.line = .running ∨ s.line = .hold) (hdir : s.ch.direction = .forward) {o : Fin 24}
    (hstate : s.outs[o].state = .idle) (lug : Fin 40) (t : Nat) (c0 : Pos) :
    arm o lug t c0 s = settleSets (raiseLate (buildPulse o lug t c0 s) s (updateOut o (fun c =>
      { c with state := .armed, active := some (placedPulse o (buildPulse o lug t c0 s) s), waiting := none }) s)) := by
  simp only [Fin.getElem_fin] at hstate
  simp [arm, actuatorsAct_iff.2 hact, hdir, hstate, raiseLate]

theorem arm_next (hact : s.line = .running ∨ s.line = .hold) (hdir : s.ch.direction = .forward) {o : Fin 24}
    (hstate : s.outs[o].state ≠ .idle) (hwaiting : s.outs[o].waiting = none) (lug : Fin 40) (t : Nat) (c0 : Pos) :
    arm o lug t c0 s = settleSets (raiseLate (buildPulse o lug t c0 s) s (updateOut o (fun c =>
      { c with waiting := some (placedPulse o (buildPulse o lug t c0 s) s) }) s)) := by
  simp only [Fin.getElem_fin] at hstate hwaiting
  cases hc : s.outs[o.val].state with
  | idle => exact absurd hc hstate
  | armed => simp [arm, actuatorsAct_iff.2 hact, hdir, hc, hwaiting, raiseLate]
  | on => simp [arm, actuatorsAct_iff.2 hact, hdir, hc, hwaiting, raiseLate]

theorem arm_full (hact : s.line = .running ∨ s.line = .hold) (hdir : s.ch.direction = .forward) {o : Fin 24}
    (hstate : s.outs[o].state ≠ .idle) (hwaiting : s.outs[o].waiting ≠ none) (lug : Fin 40) (t : Nat) (c0 : Pos) :
    arm o lug t c0 s =
      missPulse raise o (buildPulse o lug t c0 s) (raiseLate (buildPulse o lug t c0 s) s s) := by
  obtain ⟨q, hq⟩ := Option.ne_none_iff_exists'.1 hwaiting
  simp only [Fin.getElem_fin] at hstate hq
  cases hc : s.outs[o.val].state with
  | idle => exact absurd hc hstate
  | armed => simp [arm, actuatorsAct_iff.2 hact, hdir, hc, hq, raiseLate]
  | on => simp [arm, actuatorsAct_iff.2 hact, hdir, hc, hq, raiseLate]

theorem placedPulse_eq (o : Fin 24) (p : Pulse) (s : State) :
    placedPulse o p s =
      if 0 ≤ (s.ch.position - p.setAt).toInt then
        { p with setAt := s.ch.position,
                 clearAt := s.ch.position +
                   BitVec.ofNat 24 (if o.val < 16 then getPar s .sawHoldCounts else getPar s .divertHoldCounts) }
      else p := by
  have hhold : holdOf s o = if o.val < 16 then getPar s .sawHoldCounts else getPar s .divertHoldCounts := by
    simp only [holdOf, isSaw_iff]; split <;> rfl
  simp only [placedPulse, reached_iff, hhold]

theorem raiseLate_eq (p : Pulse) (s u : State) :
    raiseLate p s u = if 0 ≤ (s.ch.position - p.setAt).toInt then raise .lateFire u else u := by
  simp only [raiseLate, reached_iff]

theorem armingsAreTakenOrSkipped : Claims.ArmingsAreTakenOrSkipped := by
  intro o lug t c0 s
  refine ⟨fun hline => ?_, fun hact hdir => ?_, fun hact hdir => ⟨fun hstate => ?_, fun hstate hwaiting => ?_,
    fun hstate hwaiting => ?_⟩⟩
  · rw [arm_stopped hline, missPulse_raise]
  · rw [arm_of_reverse hdir, if_pos (actuatorsAct_iff.2 hact)]
  · rw [arm_idle hact hdir hstate, raiseLate_eq, placedPulse_eq]
    rfl
  · rw [arm_next hact hdir hstate hwaiting, raiseLate_eq, placedPulse_eq]
    rfl
  · rw [arm_full hact hdir hstate hwaiting, missPulse_raise, raiseLate_eq]

end Sys2Proof.Machine

section

open Sys2Proof Sys2Proof.Machine

/-- Settles O33: the pulse by the arithmetic of its points, an arming by the cases of the line, the direction and the
output. -/
theorem armingsAndTheirPulses : Obligations.ArmingsAndTheirPulses :=
  ⟨pulsesAreBuiltFromTheSettings, armingsAreTakenOrSkipped⟩

end

/-! PROOFS. The points of saws and pushers, and the counts that take them (R15, R109 to R113). -/

namespace Sys2Proof.Machine

open Sys2Proof

set_option Elab.async false

variable {s t u : State}

/-! ### The points of a saw and of a pusher (R109 to R111, R113) -/

theorem takePoint_setPoint_saw {i : Fin 16} {p : Pulse} (h : s.outs[sawOut i].active = some p) :
    takePoint (sawOut i) .setPoint s = updateOut (sawOut i) (fun c => { c with state := .on }) s := by
  simp only [takePoint, h, laneOfOut_sawOut]

theorem takePoint_mergePoint_saw {i : Fin 16} {p q : Pulse} (h : s.outs[sawOut i].active = some p)
    (hnext : s.outs[sawOut i].waiting = some q) :
    takePoint (sawOut i) .mergePoint s = updateOut (sawOut i) (mergeNext p q) (setSawDone p.lug p.ticket s) := by
  simp only [takePoint, h, hnext, laneOfOut_sawOut]

theorem takePoint_clearPoint_saw {i : Fin 16} {p : Pulse} (h : s.outs[sawOut i].active = some p) :
    takePoint (sawOut i) .clearPoint s = updateOut (sawOut i) takeUpNext (setSawDone p.lug p.ticket s) := by
  simp only [takePoint, h, isSaw_sawOut, if_true]

theorem takePoint_setPoint_pusher {l : Fin 8} {p : Pulse} (h : s.outs[divOut l].active = some p) :
    takePoint (divOut l) .setPoint s = pusherSetPoint (divOut l) l p s := by
  simp only [takePoint, h, laneOfOut_divOut]

theorem takePoint_mergePoint_pusher {l : Fin 8} {p q : Pulse} (h : s.outs[divOut l].active = some p)
    (hnext : s.outs[divOut l].waiting = some q) :
    takePoint (divOut l) .mergePoint s = pusherMerge (divOut l) l p q s := by
  simp only [takePoint, h, hnext, laneOfOut_divOut]

theorem takePoint_clearPoint_pusher {l : Fin 8} {p : Pulse} (h : s.outs[divOut l].active = some p) :
    takePoint (divOut l) .clearPoint s = updateOut (divOut l) takeUpNext s := by
  simp only [takePoint, h, isSaw_divOut, Bool.false_eq_true, if_false]

theorem takeUpNext_none {c : CountedOut} (h : c.waiting = none) : takeUpNext c = { c with state := .idle, active := none } := by
  simp only [takeUpNext, h]

theorem takeUpNext_some {c : CountedOut} {q : Pulse} (h : c.waiting = some q) :
    takeUpNext c = { c with state := .armed, active := some q, waiting := none } := by
  simp only [takeUpNext, h]

theorem pointsOfASaw : Claims.PointsOfASaw := by
  intro i p s h
  refine ⟨takePoint_setPoint_saw h, fun q hq => ?_, fun hnext => ?_, fun q hq => ?_⟩
  · rw [takePoint_mergePoint_saw h hq]
    rfl
  · rw [takePoint_clearPoint_saw h, ← takeUpNext_none hnext]
    rfl
  · rw [takePoint_clearPoint_saw h, ← takeUpNext_some hq]
    rfl

theorem acceptedStrip_accepts {l : Fin 8} {p : Pulse} {r : Strip} (hr : findStrip p.ticket s = some r)
    (h : laneAccepts s.lanes[l] r = true) : acceptedStrip l p s = some r := by
  rw [acceptedStrip, hr, Option.filter_some, if_pos h]

theorem acceptedStrip_refuses {l : Fin 8} {p : Pulse}
    (h : ∀ r, findStrip p.ticket s = some r → laneAccepts s.lanes[l] r = false) : acceptedStrip l p s = none := by
  rw [acceptedStrip, Option.filter_eq_none_iff]
  intro r hr
  rw [h r hr]
  exact Bool.false_ne_true

theorem pointsOfAPusher : Claims.PointsOfAPusher := by
  intro l p s h
  refine ⟨fun r hr hlane => ?_, fun hlane => ⟨_, rfl, ?_⟩, fun q hq => ⟨fun r hr hlane => ?_, fun hlane => ?_⟩, ?_⟩
  · rw [takePoint_setPoint_pusher h]
    simp only [pusherSetPoint, acceptedStrip_accepts hr hlane]
    rfl
  · rw [takePoint_setPoint_pusher h]
    simp only [pusherSetPoint, acceptedStrip_refuses hlane]
    rfl
  · rw [takePoint_mergePoint_pusher h hq]
    simp only [pusherMerge, acceptedStrip_accepts hr hlane]
    rfl
  · rw [takePoint_mergePoint_pusher h hq]
    simp only [pusherMerge, acceptedStrip_refuses hlane]
    rfl
  · exact takePoint_clearPoint_pusher h

/-! ### The points due at a count (R15, 06 section 6.1) -/

theorem dueAt_inactive (h : actuatorsAct s = false) (atCount : Bool) (o : Fin 24) : dueAt atCount s o = none := by
  simp [dueAt, h]

theorem any_reached_false {position : Pos} {c : Option Pulse} {f : Pulse → Pos}
    (h : ∀ p, c = some p → (position - f p).toInt < 0) : c.any (fun p => reached position (f p)) = false := by
  cases c with
  | none => rfl
  | some p => exact reached_false_iff.2 (h p rfl)

theorem any_reached_true {position : Pos} {c : Option Pulse} {p : Pulse} {f : Pulse → Pos} (hc : c = some p)
    (h : 0 ≤ (position - f p).toInt) : c.any (fun p => reached position (f p)) = true := by
  rw [hc]
  exact reached_iff.2 h

theorem dueAt_quiet {o : Fin 24} (h : s.outs[o].Quiet s.ch.position) (atCount : Bool) : dueAt atCount s o = none := by
  obtain ⟨harmed, hon⟩ := h
  unfold dueAt
  split
  · rfl
  · dsimp only
    cases hstate : s.outs[o].state with
    | idle => rfl
    | armed => simp only [any_reached_false (harmed hstate), Bool.false_eq_true, if_false]
    | on =>
      obtain ⟨hactive, hwaiting⟩ := hon hstate
      simp only [any_reached_false hactive, any_reached_false hwaiting, Bool.and_false, Bool.false_eq_true, if_false]

theorem dueAt_setPoint (hact : actuatorsAct s = true) {o : Fin 24} {p : Pulse} (hstate : s.outs[o].state = .armed)
    (hactive : s.outs[o].active = some p) (hset : 0 ≤ (s.ch.position - p.setAt).toInt) (atCount : Bool) :
    dueAt atCount s o = some .setPoint := by
  have hreached := any_reached_true (f := Pulse.setAt) hactive hset
  simp only [dueAt, hact, hstate, hreached, Bool.not_true, Bool.false_eq_true, if_false, if_true]

theorem dueAt_mergePoint (hact : actuatorsAct s = true) {o : Fin 24} {q : Pulse} (hstate : s.outs[o].state = .on)
    (hwaiting : s.outs[o].waiting = some q) (hset : 0 ≤ (s.ch.position - q.setAt).toInt) (atCount : Bool) :
    dueAt atCount s o = some .mergePoint := by
  have hreached := any_reached_true (f := Pulse.setAt) hwaiting hset
  simp only [dueAt, hact, hstate, hreached, Bool.not_true, Bool.false_eq_true, if_false, if_true]

theorem dueAt_clearPoint (hact : actuatorsAct s = true) {o : Fin 24} {p : Pulse} (hstate : s.outs[o].state = .on)
    (hactive : s.outs[o].active = some p) (hclear : 0 ≤ (s.ch.position - p.clearAt).toInt)
    (hnext : ∀ q, s.outs[o].waiting = some q → (s.ch.position - q.setAt).toInt < 0) :
    dueAt true s o = some .clearPoint := by
  have hreached := any_reached_true (f := Pulse.clearAt) hactive hclear
  simp only [dueAt, hact, hstate, hreached, any_reached_false hnext, Bool.not_true, Bool.and_self, Bool.false_eq_true,
    if_false, if_true]

theorem settle_none {order : List (Fin 24)} {atCount : Bool} (h : ∀ o, dueAt atCount s o = none) (n : Nat) :
    settle order atCount n s = s := by
  have hnone : firstDue order atCount s = none := by simp [firstDue, h]
  cases n with
  | zero => rfl
  | succ n => simp only [settle, hnone]

/-- With a point due on one output alone, that output is the first of any order that holds it. -/
theorem firstDue_alone {order : List (Fin 24)} {atCount : Bool} {o : Fin 24} {k : Point}
    (hothers : ∀ j, j ≠ o → dueAt atCount s j = none) (hdue : dueAt atCount s o = some k) (ho : o ∈ order) :
    firstDue order atCount s = some (o, k) := by
  unfold firstDue
  induction order with
  | nil => cases ho
  | cons j rest ih =>
    by_cases hj : j = o
    · subst hj
      simp [hdue]
    · have hrest : o ∈ rest := (List.mem_cons.1 ho).resolve_left (Ne.symm hj)
      simpa [hothers j hj] using ih hrest

theorem settleCount_alone {outputs : List (Fin 24)} {o : Fin 24} {k : Point}
    (hothers : ∀ j, j ≠ o → dueAt true s j = none) (hdue : dueAt true s o = some k)
    (hafter : ∀ j, dueAt true (takePoint o k s) j = none) : settleCount outputs s = takePoint o k s := by
  have hfirst : firstDue (fullOrder 24 outputs) true s = some (o, k) := firstDue_alone hothers hdue (mem_fullOrder _ o)
  have hstep : settleCount outputs s = settle (fullOrder 24 outputs) true 95 (takePoint o k s) := by
    simp only [settleCount, settleFuel, settle, hfirst]
  rw [hstep, settle_none hafter]

/-! ### A forward count of CH and the point it reaches -/

/-- A piece of a forward count other than the points does nothing: no turn, no reverse event (R12, R115). -/
theorem chPiece_forward (outputs : List (Fin 24)) (s : State) {k : Fin 3} (hk : k ≠ 0) :
    chPiece .forward false outputs s k = s := by
  match k with
  | 0 => exact absurd rfl hk
  | 1 => rfl
  | 2 => exact chReverseEvent_quiet (by simp [reverseRaises])

theorem chPieces_forward {outputs : List (Fin 24)} {pieces : List (Fin 3)} (hnodup : pieces.Nodup) (s : State) :
    pieces.foldl (chPiece .forward false outputs) s = if 0 ∈ pieces then settleCount outputs s else s := by
  induction pieces generalizing s with
  | nil => rfl
  | cons k rest ih =>
    obtain ⟨hfresh, hrest⟩ := List.nodup_cons.1 hnodup
    rw [List.foldl_cons, ih hrest]
    by_cases hk : k = 0
    · subst hk
      simp [hfresh, chPiece]
    · simp [chPiece_forward outputs s hk, Ne.symm hk]

/-- A forward count is the encoder and the speed monitor, and then the points it reaches, whatever the order. -/
theorem chCount_forward (a b : Bool) (order : CountOrder) (s : State) :
    chCount a b .forward order s = settleCount order.outputs (chCounted a b .forward s) := by
  have hturns : (s.ch.direction == .forward && Direction.forward == Direction.reverse) = false := by simp
  rw [chCount_eq, hturns, chPieces_forward (fullOrder_nodup _), if_pos (mem_fullOrder _ _)]

theorem exec_forwardCount {a b : Bool} {order : CountOrder} (hreset : s.resetHeld = false)
    (hpair : (a, b) = (!s.ch.pairB, s.ch.pairA)) :
    exec (.encoderCount .ch a b order) s = .next (settleCount order.outputs (chCounted a b .forward s)) := by
  rw [exec_encoderCount .ch a b order hreset, encoderCount_ch_some (countOf_forward_iff.2 hpair), chCount_forward]

theorem chCounted_forward (a b : Bool) (s : State) :
    chCounted a b .forward s =
      { s with ch := (chCounted a b .forward s).ch, history := (chCounted a b .forward s).history,
               speed := (chCounted a b .forward s).speed, stall := (chCounted a b .forward s).stall } := rfl

@[simp] theorem chCounted_forward_position (a b : Bool) (s : State) :
    (chCounted a b .forward s).ch.position = s.ch.position + 1 := rfl

@[simp] theorem chCounted_forward_outs (a b : Bool) (s : State) : (chCounted a b .forward s).outs = s.outs := rfl

theorem chCounted_forward_acts (a b : Bool) (s : State) : actuatorsAct (chCounted a b .forward s) = actuatorsAct s := rfl

/-- No point of an output that is quiet at the next position is due after the count. -/
theorem dueAt_chCounted_quiet {o : Fin 24} (h : s.outs[o].Quiet (s.ch.position + 1)) (a b : Bool) :
    dueAt true (chCounted a b .forward s) o = none := by
  have hquiet : (chCounted a b .forward s).outs[o].Quiet (chCounted a b .forward s).ch.position := by
    rwa [chCounted_forward_outs, chCounted_forward_position]
  exact dueAt_quiet hquiet true

theorem dueAt_chCounted_stopped (h : s.line = .stopped ∨ s.line = .faultStop) (a b : Bool) (o : Fin 24) :
    dueAt true (chCounted a b .forward s) o = none := by
  have hact : actuatorsAct (chCounted a b .forward s) = false := by
    rw [chCounted_forward_acts, actuatorsAct_stopped h]
  exact dueAt_inactive hact true o

/-- A count that leaves no point reached once the one point it reaches is taken. -/
theorem exec_forwardCount_takes {a b : Bool} {order : CountOrder} (hreset : s.resetHeld = false)
    (hpair : (a, b) = (!s.ch.pairB, s.ch.pairA)) {o : Fin 24} {k : Point}
    (hothers : ∀ j, j ≠ o → s.outs[j].Quiet (s.ch.position + 1))
    (hdue : dueAt true (chCounted a b .forward s) o = some k)
    (hafter : ∀ j : Fin 24, (takePoint o k (chCounted a b .forward s)).outs[j].Quiet (s.ch.position + 1)) :
    exec (.encoderCount .ch a b order) s = .next (takePoint o k (chCounted a b .forward s)) := by
  have hposition : (takePoint o k (chCounted a b .forward s)).ch.position = s.ch.position + 1 := by
    rw [(takePoint_frame o k _).ch, chCounted_forward_position]
  rw [exec_forwardCount hreset hpair]
  have htaken (j : Fin 24) : dueAt true (takePoint o k (chCounted a b .forward s)) j = none := by
    have hquiet := hafter j
    rw [← hposition] at hquiet
    exact dueAt_quiet hquiet true
  rw [settleCount_alone (fun j hj => dueAt_chCounted_quiet (hothers j hj) a b) hdue htaken]

theorem reachedPointsAreTaken : Claims.ReachedPointsAreTaken := by
  intro a b order s hreset hpair
  refine ⟨chCounted a b .forward s, chCounted_forward a b s, chCounted_forward_position a b s, fun hnone => ?_,
    fun hline o p hothers hactive => ?_⟩
  · have hdue (j : Fin 24) : dueAt true (chCounted a b .forward s) j = none := by
      rcases hnone with hstopped | hfault | hquiet
      · exact dueAt_chCounted_stopped (.inl hstopped) a b j
      · exact dueAt_chCounted_stopped (.inr hfault) a b j
      · exact dueAt_chCounted_quiet (hquiet j) a b
    rw [exec_forwardCount hreset hpair, settleCount, settle_none hdue]
  · have hact : actuatorsAct (chCounted a b .forward s) = true := by
      rw [chCounted_forward_acts, actuatorsAct_iff.2 hline]
    refine ⟨fun hstate hset => ?_, fun hstate q hnext hset => ?_, fun hstate hnext hclear => ?_⟩
    · exact exec_forwardCount_takes hreset hpair hothers (dueAt_setPoint hact hstate hactive hset true)
    · exact exec_forwardCount_takes hreset hpair hothers (dueAt_mergePoint hact hstate hnext hset true)
    · exact exec_forwardCount_takes hreset hpair hothers (dueAt_clearPoint hact hstate hactive hclear hnext)

/-! ### A saw's pulse at its counts (R109, R111) -/

theorem updateOut_outs_get (o j : Fin 24) (f : CountedOut → CountedOut) (s : State) :
    (updateOut o f s).outs[j] = if j = o then f s.outs[j] else s.outs[j] := modifyAt_get _ _ _ _

theorem updateOut_quiet {position : Pos} {o : Fin 24} {f : CountedOut → CountedOut} (hf : (f s.outs[o]).Quiet position)
    (hothers : ∀ j, j ≠ o → s.outs[j].Quiet position) (j : Fin 24) : (updateOut o f s).outs[j].Quiet position := by
  rw [updateOut_outs_get]
  split
  · next hj => rw [hj]; exact hf
  · next hj => exact hothers j hj

theorem setSawDone_lugs (lug j : Fin 40) (ticket : Nat) (s : State) :
    (setSawDone lug ticket s).lugs[j] =
      if j = lug ∧ s.lugs[j].ticket = some ticket then { s.lugs[j] with sawDone := true } else s.lugs[j] := by
  have hget : (setSawDone lug ticket s).lugs[j] =
      if j = lug then (if s.lugs[j].ticket = some ticket then { s.lugs[j] with sawDone := true } else s.lugs[j])
      else s.lugs[j] :=
    modifyAt_get s.lugs lug j (fun l => if l.ticket = some ticket then { l with sawDone := true } else l)
  rw [hget]
  by_cases hj : j = lug <;> simp [hj]

theorem sawsActAtTheirCounts : Claims.SawsActAtTheirCounts := by
  intro a b order s i p hreset hpair hline o now hothers hactive hwaiting
  have hact : actuatorsAct (chCounted a b .forward s) = true := by
    rw [chCounted_forward_acts, actuatorsAct_iff.2 hline]
  refine ⟨fun hstate hset hclear => ?set, fun hstate hclear => ?clear⟩
  case set =>
    have hpoint := takePoint_setPoint_saw (s := chCounted a b .forward s) (i := i) hactive
    have hquiet : CountedOut.Quiet now { s.outs[o] with state := .on } := quiet_of_on rfl hactive hwaiting hclear
    refine ⟨_, exec_forwardCount_takes hreset hpair hothers (dueAt_setPoint hact hstate hactive hset true) fun j => ?_, ?_, ?_⟩
    · rw [hpoint]
      exact updateOut_quiet hquiet hothers j
    · rw [hpoint]; rfl
    · rw [hpoint]; rfl
  case clear =>
    have hpoint := takePoint_clearPoint_saw (s := chCounted a b .forward s) (i := i) hactive
    have hnext := takeUpNext_none hwaiting
    have hquiet : (takeUpNext s.outs[o]).Quiet now := quiet_of_idle (by rw [hnext])
    have hdue := dueAt_clearPoint hact (o := o) hstate hactive hclear fun q hq => by
      rw [chCounted_forward_outs, hwaiting] at hq; cases hq
    refine ⟨_, exec_forwardCount_takes hreset hpair hothers hdue fun j => ?_, ?_, fun j => ?_⟩
    · rw [hpoint]
      exact updateOut_quiet (s := setSawDone p.lug p.ticket (chCounted a b .forward s)) hquiet hothers j
    · rw [hpoint, ← hnext]; rfl
    · rw [hpoint]
      exact setSawDone_lugs p.lug j p.ticket (chCounted a b .forward s)

end Sys2Proof.Machine

section

open Sys2Proof Sys2Proof.Machine

/-- Settles O34: each point by its case of `takePoint`; the counts by the one point that is due at them. -/
theorem pointsAreTaken : Obligations.PointsAreTaken :=
  ⟨pointsOfASaw, pointsOfAPusher, reachedPointsAreTaken, sawsActAtTheirCounts⟩

end

/-! PROOFS. The commands that write the tables (R6, R7, R39, R50 to R52). -/

namespace Sys2Proof.Machine

open Sys2Proof

set_option Elab.async false

variable {s t : State} {x : Xfer}

/-! ### A command and its answer (R202) -/

/-- A command whose run leaves `t` but for the transaction. -/
theorem hostCommand_answers {code : Byte} {args : List Byte} {run : State → Answered} {status : Status}
    {payload : List Byte} (hs : s.Listens) (hlength : args.length ≤ Config.maxArgs) (hargs : argsAgree code args = true)
    (hrun : run (s.taken x code args) = (t.taken x code args, status, payload)) :
    hostCommand x code args run s = .next (t.answered x code args status payload) := by
  rw [hostCommand_listens x code args run s hs hlength hargs, hrun]
  exact congrArg _ (taken_responds x code args status payload t)

theorem fixedArgs_fit {code : Byte} {n : Nat} (h : fixedArgs.lookup code = some n) : n ≤ Config.maxArgs := by
  have hall : ∀ code : Byte, (fixedArgs.lookup code).all (· ≤ Config.maxArgs) = true := by decide +kernel
  simpa [h] using hall code

theorem argsAgree_fixed {code : Byte} {args : List Byte} (h : fixedArgs.lookup code = some args.length) :
    argsAgree code args = true := by
  simp [argsAgree, h]

/-- The same of a command with a fixed number of argument bytes (R210). -/
theorem fixedCommand_answers {code : Byte} {args : List Byte} {run : State → Answered} {status : Status}
    {payload : List Byte} (hs : s.Listens) (hcode : fixedArgs.lookup code = some args.length)
    (hrun : run (s.taken x code args) = (t.taken x code args, status, payload)) :
    hostCommand x code args run s = .next (t.answered x code args status payload) :=
  hostCommand_answers hs (fixedArgs_fit hcode) (argsAgree_fixed hcode) hrun

theorem okOr_eq {P : Prop} [Decidable P] {clamped : Bool} (h : clamped = true ↔ P) :
    okOr clamped = if P then .okClamped else .ok := by
  simp only [okOr, h]

theorem clampNat_eq {lo hi : Nat} (h : lo ≤ hi) (v : Nat) : clampNat lo hi v = max lo (min hi v) := by
  unfold clampNat
  split
  · omega
  · split <;> omega

/-! ### SET_GRADE (R50) -/

theorem flagOf_flag {b : Byte} (h : b.toNat ≤ 1) : flagOf b = some (decide (b = 1)) := by
  have hflag : b = 0 ∨ b = 1 := by bv_omega
  rcases hflag with rfl | rfl <;> rfl

theorem flagOf_bad {b : Byte} (h : 1 < b.toNat) : flagOf b = none := by
  have hzero : b ≠ 0 := by bv_omega
  have hone : b ≠ 1 := by bv_omega
  simp only [flagOf, hzero, hone, if_false]

section setGrade

variable {row enabled price : Byte} {maxDensity : BitVec 16} {maxSize : Vector Byte 8}

theorem setGrade_bad (h : row = 0 ∨ 6 < row.toNat ∨ 1 < enabled.toNat) :
    setGrade row enabled maxDensity maxSize price s = refuse .badArgument s := by
  rcases or_assoc.2 h with hrow | hflag
  · simp only [setGrade, finFrom1_bad hrow]
  · cases hrow : finFrom1 6 row <;> simp only [setGrade, hrow, flagOf_bad hflag]

/-- The row SET_GRADE stores. -/
def givenRow (enabled : Byte) (maxDensity : BitVec 16) (maxSize : Vector Byte 8) (price : Byte) : GradeRow :=
  { enabled := decide (enabled = 1), maxDensity := maxDensity.toNat, maxSize := mapTable BitVec.toNat maxSize,
    price := price.toNat }

theorem setGrade_busy {g : Fin 6} (hrow : row.toNat = g.val + 1) (hflag : enabled.toNat ≤ 1) (hbusy : s.engine.isSome) :
    setGrade row enabled maxDensity maxSize price s = refuse .busy s := by
  simp only [setGrade, finFrom1_eq hrow, flagOf_flag hflag, hbusy, if_true]

theorem setGrade_stored {g : Fin 6} (hrow : row.toNat = g.val + 1) (hflag : enabled.toNat ≤ 1) (hfree : s.engine = none) :
    setGrade row enabled maxDensity maxSize price s =
      okay { s with grades := s.grades.set g (givenRow enabled maxDensity maxSize price) } := by
  simp only [setGrade, finFrom1_eq hrow, flagOf_flag hflag, hfree]
  rfl

theorem gradeArgs_fixed : fixedArgs.lookup 0x12 =
    some (row :: enabled :: (be16 maxDensity ++ maxSize.toList ++ [price])).length := by
  simp only [be16, List.length_cons, List.length_append, Vector.length_toList, List.length_nil]
  rfl

end setGrade

/-! ### SET_WEIGHTS and SET_SAW_MAP (R51, R52) -/

theorem any_toList_iff {weights : Vector Byte 8} :
    weights.toList.any (fun b => 15 < b.toNat) = true ↔ ∃ k : Fin 8, 15 < weights[k].toNat := by
  simp only [List.any_eq_true, decide_eq_true_eq, Vector.mem_toList_iff, Vector.mem_iff_getElem]
  constructor
  · rintro ⟨_, ⟨k, hk, rfl⟩, hlarge⟩
    exact ⟨⟨k, hk⟩, hlarge⟩
  · rintro ⟨k, hlarge⟩
    exact ⟨_, ⟨k.val, k.isLt, rfl⟩, hlarge⟩

theorem increasing_iff (l : List Nat) : increasing l = true ↔ l.Pairwise (· < ·) := by
  rw [← List.isChain_iff_pairwise]
  induction l using increasing.induct with
  | case1 a b rest ih => simp only [increasing, Bool.and_eq_true, decide_eq_true_eq, ih, List.isChain_cons_cons]
  | case2 l hshort =>
    match l with
    | [] => simp [increasing]
    | [a] => simp [increasing]
    | a :: b :: rest => exact absurd rfl (hshort a b rest)

theorem clampedPositions_eq (bytes : List Byte) :
    (positionsOf bytes).map (clampNat 50 4000) = (positionsOf bytes).map (fun p => max 50 (min 4000 p)) :=
  List.map_congr_left fun p _ => clampNat_eq (by decide) p

theorem setSawMap_wrongState {bytes : List Byte} (h : s.line ≠ .stopped ∨ s.strips ≠ []) :
    setSawMap bytes s = refuse .wrongState s := by
  simp only [setSawMap, h, if_true]

theorem okOr_bne {l m : List Nat} : okOr (l != m) = if l = m then .ok else .okClamped := by
  rw [okOr_eq (P := ¬ l = m) bne_iff_ne, ite_not]

theorem setSawMap_bad {bytes : List Byte} (hline : s.line = .stopped) (hstrips : s.strips = [])
    (hfall : ¬ ((positionsOf bytes).map (fun p => max 50 (min 4000 p))).Pairwise (· < ·)) :
    setSawMap bytes s = refuse .badArgument s := by
  rw [← increasing_iff] at hfall
  simp only [setSawMap, hline, hstrips, clampedPositions_eq, hfall, ne_eq, not_true_eq_false, or_self, if_false,
    Bool.false_eq_true]

theorem setSawMap_stored {bytes : List Byte} (hline : s.line = .stopped) (hstrips : s.strips = [])
    (hrise : ((positionsOf bytes).map (fun p => max 50 (min 4000 p))).Pairwise (· < ·)) :
    setSawMap bytes s =
      ({ s with sawMap := (positionsOf bytes).map (fun p => max 50 (min 4000 p)) },
        if (positionsOf bytes).map (fun p => max 50 (min 4000 p)) = positionsOf bytes then .ok else .okClamped, []) := by
  rw [← increasing_iff] at hrise
  simp only [setSawMap, hline, hstrips, clampedPositions_eq, hrise, okOr_bne, ne_eq, not_true_eq_false, or_self, if_false,
    if_true]

theorem sawMapArgs_fit {bytes : List Byte} (hmost : bytes.length ≤ 32) (n : Byte) :
    (n :: bytes).length ≤ Config.maxArgs := Nat.succ_le_succ hmost

/-- Up to sixteen positions agree with their count (R210). -/
theorem sawMap_argsAgree {bytes : List Byte} (heven : bytes.length % 2 = 0) (hmost : bytes.length ≤ 32) :
    argsAgree 0x15 (BitVec.ofNat 8 (bytes.length / 2) :: bytes) = true := by
  have hcounted (args : List Byte) : argsAgree 0x15 args = countAgrees 16 2 args := rfl
  have hcount : (BitVec.ofNat 8 (bytes.length / 2)).toNat = bytes.length / 2 := by
    rw [BitVec.toNat_ofNat]; omega
  have hmost' : bytes.length / 2 ≤ 16 := by omega
  have hpairs : bytes.length = 2 * (bytes.length / 2) := by omega
  simp only [hcounted, countAgrees, hcount, hmost', ← hpairs, decide_true, beq_self_eq_true, Bool.and_self]

/-! ### SET_FILTER and CLEAR_GLITCH (R6, R7) -/

theorem setFilter_bad {channel mode : Byte} {threshold jamMs : BitVec 16} (h : 6 ≤ channel.toNat ∨ 3 ≤ mode.toNat) :
    setFilter channel mode threshold jamMs s = refuse .badArgument s := by
  rcases h with hchannel | hmode
  · simp only [setFilter, finOf_ge hchannel]
  · have henum : enumOf filterModes mode = none := enumOf_bad hmode
    cases hchannel : finOf 6 channel <;> simp only [setFilter, hchannel, henum]

theorem setFilter_channel {channel mode : Byte} {threshold jamMs : BitVec 16} {i : Fin 6} {m : FilterMode}
    (hchannel : channel.toNat = i.val) (hmode : filterModes[mode.toNat]? = some m) :
    setFilter channel mode threshold jamMs s =
      (updateChannel i (filteredChannel m threshold.toNat (max 100 (min 60000 jamMs.toNat))) s,
        if s.channels[i].jam ≠ none ∧ max 100 (min 60000 jamMs.toNat) ≠ jamMs.toNat then .okClamped else .ok, []) := by
  have henum : enumOf filterModes mode = some m := hmode
  have hclamped : (s.channels[i].jam.isSome && max 100 (min 60000 jamMs.toNat) != jamMs.toNat) = true ↔
      s.channels[i].jam ≠ none ∧ max 100 (min 60000 jamMs.toNat) ≠ jamMs.toNat := by
    rw [Bool.and_eq_true, bne_iff_ne, Option.isSome_iff_ne_none]
  simp only [setFilter, finOf_eq hchannel, henum, clampNat_eq (show 100 ≤ 60000 by decide), okOr_eq hclamped]

end Sys2Proof.Machine

section

open Sys2Proof Sys2Proof.Machine

/-- Settles O41: each command by the case of its operands and of the state. -/
theorem tablesAreWritten : Obligations.TablesAreWritten := by
  refine ⟨fun x row enabled maxDensity maxSize price s hs => ⟨fun hbad => ?gradeBad, fun g hrow hflag =>
      ⟨fun hbusy => ?gradeBusy, fun hfree => ?gradeStored⟩⟩,
    fun x weights s hs => ?weights,
    fun x bytes s hs heven hmost => ⟨fun hstate => ?mapState, fun hline hstrips hfall => ?mapBad,
      fun hline hstrips hrise => ?mapStored⟩,
    fun x channel mode threshold jamMs s hs => ⟨fun hbad => ?filterBad, fun i m hchannel hmode => ?filterStored⟩,
    fun x s hs => ⟨fun channel hbad => ?glitchBad, fun channel i hchannel => ?glitchCleared, fun lot species => ?lot⟩⟩
  case gradeBad => exact fixedCommand_answers hs gradeArgs_fixed (setGrade_bad hbad)
  case gradeBusy => exact fixedCommand_answers hs gradeArgs_fixed (setGrade_busy hrow hflag hbusy)
  case gradeStored =>
    refine ⟨givenRow enabled maxDensity maxSize price, rfl, rfl, rfl, mapTable_get maxSize BitVec.toNat,
      fixedCommand_answers hs gradeArgs_fixed (setGrade_stored hrow hflag hfree)⟩
  case weights =>
    refine ⟨mapTable (fun b : Byte => min 15 b.toNat) weights, mapTable_get weights _,
      fixedCommand_answers hs (by rw [Vector.length_toList]; rfl) ?_⟩
    rw [← okOr_eq any_toList_iff]
    rfl
  case mapState =>
    exact hostCommand_answers hs (sawMapArgs_fit hmost _) (sawMap_argsAgree heven hmost) (setSawMap_wrongState hstate)
  case mapBad =>
    exact hostCommand_answers hs (sawMapArgs_fit hmost _) (sawMap_argsAgree heven hmost) (setSawMap_bad hline hstrips hfall)
  case mapStored =>
    exact hostCommand_answers hs (sawMapArgs_fit hmost _) (sawMap_argsAgree heven hmost)
      (setSawMap_stored hline hstrips hrise)
  case filterBad => exact fixedCommand_answers hs rfl (setFilter_bad hbad)
  case filterStored =>
    refine fixedCommand_answers hs rfl ?_
    rw [setFilter_channel hchannel hmode]
    rfl
  case glitchBad => exact fixedCommand_answers hs rfl (by simp only [clearGlitch, finOf_ge hbad]; rfl)
  case glitchCleared => exact fixedCommand_answers hs rfl (by simp only [clearGlitch, finOf_eq hchannel]; rfl)
  case lot =>
    refine fixedCommand_answers hs rfl ?_
    rw [← okOr_eq decide_eq_true_iff]
    rfl

end

/-! PROOFS. The commands that read: their payloads and their refusals. -/

namespace Sys2Proof.Machine

open Sys2Proof

set_option Elab.async false

variable {s : State} {b : Byte}

/-! ### The reads: of an operand in range its payload, else a refusal -/

theorem readStrip_found {ticket : Nat} {r : Strip} (h : findStrip ticket s = some r) :
    readStrip ticket s = report (stripPayload s r) s := by simp only [readStrip, h]

theorem readStrip_none {ticket : Nat} (h : findStrip ticket s = none) : readStrip ticket s = refuse .notFound s := by
  simp only [readStrip, h]

theorem getParam_param {p : Param} (h : paramOf b = some p) :
    getParam b s = report (b :: (u32 (getPar s p) ++ u32 (paramLow p) ++ u32 (paramHigh s p))) s := by
  have hcode : u8 (paramCode p) = [b] := congrArg (fun c => [c]) (paramCode_of h)
  simp only [getParam, h, paramPayload, hcode]
  rfl

theorem getParam_bad (h : b = 0 ∨ 33 < b.toNat) : getParam b s = refuse .badArgument s := by
  simp only [getParam, paramOf_bad h]

theorem getGrade_row {g : Fin 6} (h : b.toNat = g.val + 1) : getGrade b s = report (gradePayload s g) s := by
  simp only [getGrade, finFrom1_eq h]

theorem getGrade_bad (h : b = 0 ∨ 6 < b.toNat) : getGrade b s = refuse .badArgument s := by
  simp only [getGrade, finFrom1_bad h]

theorem listQueue_place {p : Place} (h : places[b.toNat]? = some p) : listQueue b s = report (listPayload s p) s := by
  have henum : enumOf places b = some p := h
  simp only [listQueue, henum]

theorem listQueue_bad (h : 4 ≤ b.toNat) : listQueue b s = refuse .badArgument s := by
  have henum : enumOf places b = none := enumOf_bad h
  simp only [listQueue, henum]

theorem readLug_lug {j : Fin 40} (h : b.toNat = j.val) : readLug b s = report (lugPayload s j) s := by
  simp only [readLug, finOf_eq h]

theorem readLug_bad (h : 40 ≤ b.toNat) : readLug b s = refuse .badArgument s := by
  simp only [readLug, finOf_ge h]

theorem readTool_set {m : Fin 4} (h : b.toNat = m.val) : readTool b s = report (toolPayload s m) s := by
  simp only [readTool, finOf_eq h]

theorem readTool_bad (h : 4 ≤ b.toNat) : readTool b s = refuse .badArgument s := by
  simp only [readTool, finOf_ge h]

theorem readStation_address {a : Fin 4} (h : b.toNat = a.val + 1) : readStation b s = report (stationPayload s a) s := by
  simp only [readStation, stationOf, finFrom1_eq h]

theorem readStation_bad (h : b = 0 ∨ 4 < b.toNat) : readStation b s = refuse .badArgument s := by
  simp only [readStation, stationOf, finFrom1_bad h]

theorem getLane_lane {l : Fin 8} (h : b.toNat = l.val) : getLane b s = report (lanePayload s l) s := by
  simp only [getLane, finOf_eq h]

theorem getLane_bad (h : 8 ≤ b.toNat) : getLane b s = refuse .badArgument s := by
  simp only [getLane, finOf_ge h]

theorem readBundle_bad (h : 8 ≤ b.toNat) : readBundle b s = refuse .badArgument s := by
  simp only [readBundle, finOf_ge h]

theorem readBundle_some {l : Fin 8} {k : Bundle} (h : b.toNat = l.val) (hbundle : s.lanes[l].bundle = some k) :
    readBundle b s = report (bundlePayload s.lanes[l].state k) s := by
  simp only [readBundle, finOf_eq h, hbundle]

theorem readBundle_none {l : Fin 8} (h : b.toNat = l.val) (hbundle : s.lanes[l].bundle = none) :
    readBundle b s = refuse .empty s := by
  simp only [readBundle, finOf_eq h, hbundle]

theorem readLabel_bad (h : 8 ≤ b.toNat) : readLabel b s = refuse .badArgument s := by
  simp only [readLabel, finOf_ge h]

theorem readLabel_some {l : Fin 8} {k : Label} (h : b.toNat = l.val) (hlabel : labelOf l s = some k) :
    readLabel b s = report (labelPayload s k) s := by
  simp only [readLabel, finOf_eq h, hlabel]

theorem readLabel_none {l : Fin 8} (h : b.toNat = l.val) (hlabel : labelOf l s = none) :
    readLabel b s = refuse .empty s := by
  simp only [readLabel, finOf_eq h, hlabel]

end Sys2Proof.Machine

section

open Sys2Proof Sys2Proof.Machine

/-- Settles O42: each read by the case of its operand; a payload is about what the transaction leaves as it was. -/
theorem readingChangesNothing : Obligations.ReadingChangesNothing := by
  intro x s hs
  refine ⟨fixedCommand_answers hs rfl rfl, fixedCommand_answers hs rfl rfl, fixedCommand_answers hs rfl rfl,
    fun t => ?strip, fun b => ⟨fun p hp => ?param, fun hbad => ?paramBad, fun g hg => ?grade, fun hbad => ?gradeBad,
      fun p hp => ?queue, fun hbad => ?queueBad, fun j hj => ?lug, fun hbad => ?lugBad, fun m hm => ?tool,
      fun hbad => ?toolBad, fun a ha => ?station, fun hbad => ?stationBad, fun hbad => ⟨?laneBad, ?bundleBad, ?labelBad⟩,
      fun l hl => ⟨?lane, ?bundle, ?label⟩⟩⟩
  case strip =>
    cases hr : findStrip t.toNat s with
    | some r => exact fixedCommand_answers hs rfl (readStrip_found hr)
    | none => exact fixedCommand_answers hs rfl (readStrip_none hr)
  case param => exact fixedCommand_answers hs rfl (getParam_param hp)
  case paramBad => exact fixedCommand_answers hs rfl (getParam_bad hbad)
  case grade => exact fixedCommand_answers hs rfl (getGrade_row hg)
  case gradeBad => exact fixedCommand_answers hs rfl (getGrade_bad hbad)
  case queue => exact fixedCommand_answers hs rfl (listQueue_place hp)
  case queueBad => exact fixedCommand_answers hs rfl (listQueue_bad hbad)
  case lug => exact fixedCommand_answers hs rfl (readLug_lug hj)
  case lugBad => exact fixedCommand_answers hs rfl (readLug_bad hbad)
  case tool => exact fixedCommand_answers hs rfl (readTool_set hm)
  case toolBad => exact fixedCommand_answers hs rfl (readTool_bad hbad)
  case station => exact fixedCommand_answers hs rfl (readStation_address ha)
  case stationBad => exact fixedCommand_answers hs rfl (readStation_bad hbad)
  case laneBad => exact fixedCommand_answers hs rfl (getLane_bad hbad)
  case bundleBad => exact fixedCommand_answers hs rfl (readBundle_bad hbad)
  case labelBad => exact fixedCommand_answers hs rfl (readLabel_bad hbad)
  case lane => exact fixedCommand_answers hs rfl (getLane_lane hl)
  case bundle =>
    cases hbundle : s.lanes[l].bundle with
    | some k => exact fixedCommand_answers hs rfl (readBundle_some hl hbundle)
    | none => exact fixedCommand_answers hs rfl (readBundle_none hl hbundle)
  case label =>
    cases hlabel : s.labels.find? (fun k => k.lane == l) with
    | some k => exact fixedCommand_answers hs rfl (readLabel_some hl hlabel)
    | none => exact fixedCommand_answers hs rfl (readLabel_none hl hlabel)

end

/-! PROOFS. The Strip Table and the infeed queue: the tickets of the sequence (R21, R22), the record of a ticket after an
update, the edges of PE1 (R26 to R29, R46), arrivals at PE2 (R34, R35), the permit latch (R30), the lookup of QUERY_AT
(R33). -/

namespace Sys2Proof.Machine

open Sys2Proof

set_option Elab.async false

variable {s t u : State}

/-! ### The sequence of tickets (R22) -/

/-- The numbers of the sequence from `n`, counted round from 1 to 65,535. -/
theorem iterate_nextNumber {n : Nat} (hlow : 1 ≤ n) (hhigh : n ≤ 65535) (k : Nat) :
    nextNumber^[k] n = (n - 1 + k) % 65535 + 1 := by
  induction k with
  | zero => simp only [Function.iterate_zero, id_eq]; omega
  | succ k ih =>
    rw [Function.iterate_succ_apply', ih]
    unfold nextNumber
    split <;> omega

/-- Fewer than 65,535 steps along the sequence never come to a number twice. -/
theorem iterate_nextNumber_injOn {n : Nat} (hlow : 1 ≤ n) (hhigh : n ≤ 65535) {i j : Nat} (hi : i < 65535) (hj : j < 65535)
    (h : nextNumber^[i] n = nextNumber^[j] n) : i = j := by
  rw [iterate_nextNumber hlow hhigh, iterate_nextNumber hlow hhigh] at h
  omega

/-- What is offered is a number of the sequence; those before it are live, and it is not, unless all that the offer may
pass over have been. -/
theorem offer_eq_iterate (live : List Nat) (fuel n : Nat) :
    ∃ k ≤ fuel, offer live fuel n = nextNumber^[k] n ∧ (∀ i < k, nextNumber^[i] n ∈ live) ∧
      (k < fuel → nextNumber^[k] n ∉ live) := by
  induction fuel generalizing n with
  | zero => exact ⟨0, Nat.le_refl 0, rfl, fun _ h => absurd h (Nat.not_lt_zero _), fun h => absurd h (Nat.not_lt_zero _)⟩
  | succ fuel ih =>
    by_cases hn : n ∈ live
    · obtain ⟨k, hk, heq, hbefore, hfresh⟩ := ih (nextNumber n)
      refine ⟨k + 1, by omega, by simp [offer, hn, heq], fun i hi => ?_, fun h => hfresh (by omega)⟩
      cases i with
      | zero => exact hn
      | succ i => exact hbefore i (by omega)
    · exact ⟨0, Nat.zero_le _, by simp [offer, hn], fun _ h => absurd h (Nat.not_lt_zero _), fun _ => hn⟩

/-- The offer that may pass over as many numbers as are live finds one that is not: the sequence does not come round to a
number within them. -/
theorem offer_fresh {live : List Nat} {n : Nat} (hlow : 1 ≤ n) (hhigh : n ≤ 65535) (hroom : live.length < 65535) :
    ∃ k, offer live live.length n = nextNumber^[k] n ∧ (∀ i < k, nextNumber^[i] n ∈ live) ∧ nextNumber^[k] n ∉ live := by
  obtain ⟨k, hk, heq, hbefore, hfresh⟩ := offer_eq_iterate live live.length n
  refine ⟨k, heq, hbefore, fun hlive => ?_⟩
  have hfull : k = live.length := by
    by_contra hne
    exact hfresh (by omega) hlive
  have hsubset : (Finset.range (k + 1)).image (fun i => nextNumber^[i] n) ⊆ live.toFinset := by
    intro m hm
    obtain ⟨i, hi, rfl⟩ := Finset.mem_image.1 hm
    rcases Nat.lt_succ_iff_lt_or_eq.1 (Finset.mem_range.1 hi) with h | rfl
    · exact List.mem_toFinset.2 (hbefore i h)
    · exact List.mem_toFinset.2 hlive
  have hdistinct : ((Finset.range (k + 1)).image (fun i => nextNumber^[i] n)).card = k + 1 := by
    rw [Finset.card_image_of_injOn, Finset.card_range]
    intro i hi j hj h
    have hi' := Finset.mem_range.1 (Finset.mem_coe.1 hi)
    have hj' := Finset.mem_range.1 (Finset.mem_coe.1 hj)
    exact iterate_nextNumber_injOn hlow hhigh (by omega) (by omega) h
  have hcard := (Finset.card_le_card hsubset).trans (List.toFinset_card_le live)
  omega

/-! ### The record of a ticket after an update (R23) -/

/-- What an update of one record leaves of the record of any ticket. -/
theorem findStrip_updateStrip {f : Strip → Strip} (hf : ∀ r, (f r).ticket = r.ticket) (n m : Nat) (s : State) :
    findStrip m (updateStrip n f s) = (findStrip m s).map (fun r => if m = n then f r else r) := by
  have hkept (r : Strip) : (if r.ticket = n then f r else r).ticket = r.ticket := by
    split
    · exact hf r
    · rfl
  simp only [findStrip, updateStrip, List.find?_map, Function.comp_def, hkept]
  cases hfind : s.strips.find? (fun r => r.ticket == m) with
  | none => rfl
  | some r =>
    have hr : r.ticket = m := by simpa using List.find?_some hfind
    simp [hr]

theorem findStrip_updateStrip_same {f : Strip → Strip} (hf : ∀ r, (f r).ticket = r.ticket) {n : Nat} {r : Strip}
    (h : findStrip n s = some r) : findStrip n (updateStrip n f s) = some (f r) := by
  simp [findStrip_updateStrip hf, h]

theorem findStrip_updateStrip_other {f : Strip → Strip} (hf : ∀ r, (f r).ticket = r.ticket) {n m : Nat} (h : m ≠ n)
    (s : State) : findStrip m (updateStrip n f s) = findStrip m s := by
  simp [findStrip_updateStrip hf, h]

/-! ### Plans written and joined (R46, R60) -/

theorem findStrip_joinPlan_same {n : Nat} {r : Strip} (h : findStrip n s = some r) :
    findStrip n (joinPlan n s) = some { r with plan := .pending } :=
  findStrip_updateStrip_same (s := { s with planQueue := s.planQueue ++ [n] }) (f := fun r => { r with plan := .pending })
    (fun _ => rfl) h

theorem findStrip_joinPlan_other {n m : Nat} (h : m ≠ n) (s : State) : findStrip m (joinPlan n s) = findStrip m s :=
  findStrip_updateStrip_other (f := fun r => { r with plan := .pending }) (fun _ => rfl) h _

/-- The record with the default plan, as settings, saw map and MANUAL_GRADE stand (R60). -/
def withDefault (s : State) (r : Strip) : Strip :=
  writePlan .default
    (defaultPlan s.sawMap (getPar s .fenceTrim) (getPar s .farMargin) (getPar s .minKept) r.length r.manualGrade) r

theorem findStrip_writeDefault_same {n : Nat} {r : Strip} (h : findStrip n s = some r) :
    findStrip n (writeDefault n s) = some (withDefault s r) :=
  findStrip_updateStrip_same (f := withDefault s) (fun _ => rfl) h

theorem findStrip_writeDefault_other {n m : Nat} (h : m ≠ n) (s : State) :
    findStrip m (writeDefault n s) = findStrip m s :=
  findStrip_updateStrip_other (f := withDefault s) (fun _ => rfl) h s

/-- A record that holds a report joins the plan queue; any other stays as it is (R28, R46). -/
theorem joinIfReported_eq {n : Nat} {r : Strip} (h : findStrip n s = some r) :
    joinIfReported n s = if r.reportFrom.isSome then joinPlan n s else s := by
  simp [joinIfReported, h]

/-! ### The length of a record (R29) -/

theorem completeLength_eq (cpm : Nat) (capture : Pos) (r : Strip) :
    completeLength cpm capture r =
      { r with length := some (min (travelMm cpm (r.leadPos.getD 0) capture) 4095),
               doubt := r.doubt || decide (4095 < travelMm cpm (r.leadPos.getD 0) capture) } := by
  unfold completeLength
  by_cases h : Config.lengthMax < travelMm cpm (r.leadPos.getD 0) capture
  · have h' : 4095 < travelMm cpm (r.leadPos.getD 0) capture := h
    simp only [if_pos h, decide_eq_true h', Bool.or_true, Nat.min_eq_right h'.le]
    rfl
  · have h' : ¬ 4095 < travelMm cpm (r.leadPos.getD 0) capture := h
    simp only [if_neg h, decide_eq_false h', Bool.or_false, Nat.min_eq_left (Nat.not_lt.1 h')]

/-- The record as its trailing edge leaves it, before it joins the plan queue (R28, R29). -/
def measuredStrip (s : State) (capture : Pos) (r : Strip) : Strip :=
  { completeLength (getPar s .infeedCpm) capture r with stage := .infeed }

theorem measuredStrip_ticket (s : State) (capture : Pos) (r : Strip) : (measuredStrip s capture r).ticket = r.ticket := by
  simp [measuredStrip, completeLength_eq]

theorem pe1Trailing_eq {n : Nat} (h : measuringTicket s = some n) (capture : Pos) :
    pe1Trailing capture s = joinIfReported n (updateStrip n (measuredStrip s capture) s) := by
  simp only [pe1Trailing, h]
  rfl

/-! ### The edges of PE1 (R26 to R29, R46) -/

/-- A record created joins the infeed queue (R25). -/
theorem joinInfeed_eq (stage : Stage) (add : Strip → Strip) (s : State) :
    joinInfeed stage add s = evalPermit
      { s with strips := s.strips ++ [add (freshStrip (nextTicketOf s) s.lot s.species stage)],
               nextTicket := nextNumber (nextTicketOf s), infeed := s.infeed ++ [nextTicketOf s] } := rfl

theorem measuringStartsAtPe1 : Claims.MeasuringStartsAtPe1 := by
  intro capture s
  have hfull (h : 16 ≤ s.infeed.length) : pe1Leading capture s = overrun s := if_neg (Nat.not_lt.2 h)
  refine ⟨fun hroom => ?_, fun hlong hline => ?_, fun hlong hline => ?_⟩
  · exact (if_pos hroom).trans (joinInfeed_eq ..)
  · rw [hfull hlong, overrun, if_pos (actuatorsAct_iff.2 hline)]
    rfl
  · simp [hfull hlong, overrun, actuatorsAct_stopped hline]

theorem lengthIsMeasuredAtPe1 : Claims.LengthIsMeasuredAtPe1 := by
  refine ⟨fun capture lead s r hmeasuring hfind hlead => ?_, fun capture s hnone => by simp [pe1Trailing, hnone]⟩
  have hticket := measuredStrip_ticket s capture
  have hmeasured := findStrip_updateStrip_same hticket hfind
  have hothers (n : Nat) (hn : n ≠ r.ticket) := findStrip_updateStrip_other hticket hn s
  have hrecord : measuredStrip s capture r =
      { r with stage := .infeed, length := some (min ((capture - lead).toNat * 1000 / getPar s .infeedCpm) 4095),
               doubt := r.doubt || decide (4095 < (capture - lead).toNat * 1000 / getPar s .infeedCpm) } := by
    simp [measuredStrip, completeLength_eq, travelMm, hlead]
  have hreport : (measuredStrip s capture r).reportFrom = r.reportFrom := by rw [hrecord]
  dsimp only
  rw [pe1Trailing_eq hmeasuring, joinIfReported_eq hmeasured, hreport]
  split
  · exact ⟨by rw [findStrip_joinPlan_same hmeasured, hrecord], rfl,
      fun n hn => (findStrip_joinPlan_other hn _).trans (hothers n hn), rfl⟩
  · exact ⟨by rw [hmeasured, hrecord], rfl, hothers, rfl⟩

/-! ### Arrivals at PE2 (R34, R35) -/

/-- What an arrival makes of a record in INFEED, and of one in MEASURING (R34). -/
theorem arrivedStrip_infeed (cpm : Nat) (position : Pos) {r : Strip} (h : r.stage = .infeed) :
    arrivedStrip cpm position r = { r with stage := .waiting } := by
  simp [arrivedStrip, h]

theorem arrivedStrip_measuring (cpm : Nat) (position : Pos) {r : Strip} (h : r.stage = .measuring) :
    arrivedStrip cpm position r =
      { r with stage := .waiting, doubt := true,
               length := some (min ((position - r.leadPos.getD 0).toNat * 1000 / cpm) 4095) } := by
  simp [arrivedStrip, h, completeLength_eq, travelMm]

theorem arrivedStrip_ticket (cpm : Nat) (position : Pos) (r : Strip) :
    (arrivedStrip cpm position r).ticket = r.ticket := by
  simp only [arrivedStrip]
  split
  · rw [completeLength_eq]
  · rfl

/-- The state with the arriving record WAITING, before its plan. -/
def arrivedState (r : Strip) (s : State) : State :=
  updateStrip r.ticket (arrivedStrip (getPar s .infeedCpm) s.inf.position) s

theorem arriveStrip_unreported {r : Strip} (h : r.reportFrom = none) (s : State) :
    arriveStrip r s = writeDefault r.ticket (arrivedState r s) := by
  simp [arriveStrip, arrivedState, h]

theorem arriveStrip_measuring {r : Strip} (hstage : r.stage = .measuring) (h : r.reportFrom.isSome) (s : State) :
    arriveStrip r s = joinPlan r.ticket (arrivedState r s) := by
  obtain ⟨a, ha⟩ := Option.isSome_iff_exists.1 h
  simp [arriveStrip, arrivedState, ha, hstage]

theorem arriveStrip_infeed {r : Strip} (hstage : r.stage = .infeed) (h : r.reportFrom.isSome) (s : State) :
    arriveStrip r s = arrivedState r s := by
  obtain ⟨a, ha⟩ := Option.isSome_iff_exists.1 h
  simp [arriveStrip, arrivedState, ha, hstage]

theorem findStrip_arrivedState_same {r : Strip} (h : findStrip r.ticket s = some r) :
    findStrip r.ticket (arrivedState r s) = some (arrivedStrip (getPar s .infeedCpm) s.inf.position r) :=
  findStrip_updateStrip_same (arrivedStrip_ticket _ _) h

theorem findStrip_arriveStrip_other {r : Strip} {n : Nat} (hn : n ≠ r.ticket) (s : State) :
    findStrip n (arriveStrip r s) = findStrip n s := by
  have harrived : findStrip n (arrivedState r s) = findStrip n s :=
    findStrip_updateStrip_other (arrivedStrip_ticket _ _) hn s
  rw [← harrived]
  unfold arriveStrip
  dsimp only
  split
  · exact findStrip_writeDefault_other hn _
  · split
    · exact findStrip_joinPlan_other hn _
    · rfl

/-- An arrival changes records and the plan queue alone. -/
theorem arriveStrip_changes (r : Strip) (s : State) :
    arriveStrip r s = { s with strips := (arriveStrip r s).strips, planQueue := (arriveStrip r s).planQueue } := by
  unfold arriveStrip
  dsimp only
  split
  · rfl
  · split <;> rfl

theorem arrivalAtTheGate : Claims.ArrivalAtTheGate := by
  intro s r hoffered hfind
  have harrived := findStrip_arrivedState_same hfind
  refine ⟨arriveStrip r s, by simp only [pe2Arrival, hoffered], fun n hn => findStrip_arriveStrip_other hn s,
    arriveStrip_changes r s, fun hstage hreport => ?_, fun hstage hreport => ?_, fun hstage => ⟨fun hreport => ?_,
    fun hreport => ?_⟩⟩
  · rw [arriveStrip_infeed hstage hreport, harrived, arrivedStrip_infeed _ _ hstage]
    exact ⟨rfl, rfl⟩
  · rw [arriveStrip_unreported hreport, findStrip_writeDefault_same harrived, arrivedStrip_infeed _ _ hstage]
    exact ⟨rfl, rfl⟩
  · rw [arriveStrip_unreported hreport, findStrip_writeDefault_same harrived, arrivedStrip_measuring _ _ hstage]
    exact ⟨rfl, rfl⟩
  · rw [arriveStrip_measuring hstage hreport, findStrip_joinPlan_same harrived, arrivedStrip_measuring _ _ hstage]
    exact ⟨rfl, rfl⟩

theorem RaiseFrame.infeed (h : RaiseFrame s t) : t.infeed = s.infeed := by
  unfold RaiseFrame at h
  rw [h]

theorem phantomAtTheGate : Claims.PhantomAtTheGate := by
  intro s hnone
  have harrival : pe2Arrival s = releaseTest (phantomGate s) := by simp only [pe2Arrival, hnone]
  have hlength := congrArg List.length (raise_frame .phantomGate s).infeed
  refine ⟨fun hroom => ?_, fun hfull => ?_⟩
  · have hroom' : (raise .phantomGate s).infeed.length < Config.infeedCapacity := hlength ▸ hroom
    simp only [harrival, phantomGate, if_pos hroom', joinInfeed_eq]
    rfl
  · have hfull' : ¬ (raise .phantomGate s).infeed.length < Config.infeedCapacity := Nat.not_lt.2 (hlength ▸ hfull)
    simp only [harrival, phantomGate, if_neg hfull']

/-! ### The lookup of QUERY_AT (R33) -/

theorem covers_iff {pos : Nat} {r : Strip} :
    covers s pos r = true ↔
      pos ≤ frontOf s r ∧
        (r.stage = .measuring ∨ r.stage = .infeed ∧ (frontOf s r : Int) - (r.length.getD 0 : Int) < (pos : Int)) := by
  have hbehind : (frontOf s r : Int) - (r.length.getD 0 : Int) < (pos : Int) ↔ frontOf s r < pos + r.length.getD 0 := by
    omega
  rw [hbehind]
  simp only [covers, unarrived, Bool.and_eq_true, Bool.or_eq_true, beq_iff_eq, decide_eq_true_eq]
  cases r.stage <;> simp

end Sys2Proof.Machine

section

open Sys2Proof Sys2Proof.Machine

/-- Settles O13: an offer may pass over as many numbers as there are live records, and the sequence has more. -/
theorem ticketsAreFresh : Obligations.TicketsAreFresh := by
  intro stage add s hadd hroom hlow hhigh live
  have hlength : live.length = s.strips.length := List.length_map ..
  obtain ⟨n, hoffer, hbefore, hfresh⟩ := offer_fresh hlow hhigh (hlength ▸ hroom)
  have hticket : nextTicketOf s = nextNumber^[n] s.nextTicket := by rw [← hoffer, hlength]; rfl
  have hrange : 1 ≤ nextNumber^[n] s.nextTicket ∧ nextNumber^[n] s.nextTicket ≤ 65535 := by
    rw [iterate_nextNumber hlow hhigh]
    omega
  have hnext : nextNumber (nextTicketOf s) = if nextTicketOf s = 65535 then 1 else nextTicketOf s + 1 := by
    unfold nextNumber
    split <;> split <;> omega
  refine ⟨n, nextTicketOf s, hbefore, hticket, hticket ▸ hfresh, hticket ▸ hrange.1, hticket ▸ hrange.2, fun hnodup => ?_,
    by rw [← hnext]; rfl⟩
  have htickets : (createStrip stage add s).strips.map (·.ticket) = live ++ [nextTicketOf s] := by
    simp [createStrip, hadd, freshStrip, live]
  rw [htickets]
  exact hnodup.append (List.nodup_singleton _) (by simpa using hticket ▸ hfresh)

/-- Settles O14, by the three cases of an evaluation. -/
theorem permitLatch : Obligations.PermitLatch := by
  intro s hmarks
  refine ⟨fun hhigh => if_pos hhigh, fun hlow => ?_, fun hlow hhigh => ?_, ?_⟩
  · rw [evalPermit, if_neg (by omega), if_pos hlow]
  · rw [evalPermit, if_neg (by omega), if_neg (by omega)]
  · simp [infeedPermit, and_assoc]

/-- Settles O15, by the leading and the trailing edge. -/
theorem pe1EdgesMeasure : Obligations.Pe1EdgesMeasure := ⟨measuringStartsAtPe1, lengthIsMeasuredAtPe1⟩

/-- Settles O16, by the arrivals that find an unarrived record and those that find none. -/
theorem arrivalsAtTheGate : Obligations.ArrivalsAtTheGate := ⟨arrivalAtTheGate, phantomAtTheGate⟩

/-- Settles O17: the first of a list that covers the position, in the rule's own words. -/
theorem lookupNamesTheOldestCoveringRecord : Obligations.LookupNamesTheOldestCoveringRecord := by
  intro s pos front covers'
  have hcovers (r : Strip) : covers' r ↔ covers s pos r = true := covers_iff.symm
  refine ⟨fun r => ?_, ?_⟩
  · simp only [lookup, List.find?_eq_some_iff_append, hcovers, Bool.not_eq_true', Bool.not_eq_true]
    constructor
    · rintro ⟨hr, older, younger, hsplit, holder⟩
      exact ⟨older, younger, hsplit, hr, holder⟩
    · rintro ⟨older, younger, hsplit, hr, holder⟩
      exact ⟨hr, older, younger, hsplit, holder⟩
  · simp only [lookup, List.find?_eq_none, hcovers]

end

/-! PROOFS. That every step keeps the tracking (O55) is refuted. `Tracked` says nothing of the schedules of the outputs, so
in a tracked state a pulse may serve a strip that is on no lug. A PE3 edge takes the head of the moulder queue, and before
it puts that strip into transfer holding it writes off the strip that is there (R90). At that retirement the Scheduler takes
the set points already reached (R114), and a pusher's set point commits, and so retires, the very strip on its way:
transfer holding then names no live record. The state shown breaks nothing else that `Tracked` asks for; what it lacks is
that a pulse still to be taken serves a record ON_LUG, as R95 and R97 arm it. -/

namespace Sys2Proof.Machine

open Sys2Proof

set_option Elab.async false

/-- Strip 1 at the head of the moulder queue, strip 2 in transfer holding. -/
def strayStrips : List Strip :=
  [{ freshStrip 1 0 0 .inMoulder with plan := .done .default, disposition := some .hold },
   { freshStrip 2 0 0 .atTransfer with plan := .done .default, disposition := some .hold }]

/-- A pusher's pulse for strip 1, its set point reached at POSITION 0 of CH. -/
def strayPulse : Pulse := { lug := 0, ticket := 1, lane := some 0, lead := 0, setAt := 0, clearAt := 700 }

/-- A sample tick that finds SI2 asserted: the leading edge of PE3. -/
def strayEdge : Instr := .sampleTick 4 { channels := [], parts := [] }

/-- RUNNING, with the pulse ARMED on DIV0, an OPEN hold bin there, SI2 in BYPASS, and the edge of PE3 waiting. -/
def strayState : State :=
  { State.reset with
    line := .running, nextTicket := 3, strips := strayStrips, moulder := [{ ticket := 1, age := 0 }], holding := some 2,
    window := 3, channels := State.reset.channels.set 2 { resetChannel true with mode := .bypass },
    outs := State.reset.outs.set 16 { state := .armed, active := some strayPulse, waiting := none, forced := false },
    lanes := State.reset.lanes.set 0 { resetLane with kind := .holdBin, enabled := true, state := .opened },
    pending := [strayEdge] }

/-- The state after that edge. -/
def strayAfter : State := sampleTick 4 { channels := [], parts := [] } { strayState with pending := [] }

theorem strayState_bounded : strayState.Bounded where
  infeed := by decide
  moulder := by decide
  watch := by decide
  fifo := by decide
  history := by decide

theorem strayState_placed : strayState.Placed where
  tickets := by decide
  range := by decide
  infeed := ⟨List.nodup_nil, fun _ h => absurd h List.not_mem_nil⟩
  moulder := by unfold State.Live; decide
  holding t h := by
    obtain rfl : 2 = t := Option.some.inj h
    unfold State.Live
    decide
  lugs j t h := by
    obtain ⟨r, hr, -⟩ := reset_placed.lugs j t h
    cases hr
  held := by
    intro r hr
    obtain rfl | rfl : r = strayStrips[0] ∨ r = strayStrips[1] := by
      simpa [strayState, strayStrips] using hr
    · exact List.mem_singleton.2 rfl
    · rfl

theorem strayState_planned : strayState.Planned where
  queue := ⟨List.nodup_nil, fun _ h => absurd h List.not_mem_nil⟩
  measuring := by decide
  reported := by decide
  engine _ h := by cases h

theorem strayState_tracked : strayState.Tracked :=
  ⟨strayState_bounded, reset_inRange.of_params rfl, ⟨reset_ringSound.last, reset_ringSound.empty⟩, strayState_placed,
    strayState_planned⟩

theorem step_strayState : step strayState = .next strayAfter := rfl

/-- Both strips are gone, and transfer holding names the one that was committed on its way there. -/
theorem strayAfter_holds_no_record : strayAfter.holding = some 1 ∧ strayAfter.strips = [] := by decide +kernel

end Sys2Proof.Machine

section

open Sys2Proof Sys2Proof.Machine

/-- Refutes O55: a pusher's pulse that serves a strip still in the moulder commits it at the PE3 edge that takes it to
transfer holding, which then names no live record. -/
theorem not_everyStepKeepsTheTracking : ¬ Obligations.EveryStepKeepsTheTracking := by
  rintro ⟨hkeeps, -⟩
  obtain ⟨hholding, hstrips⟩ := strayAfter_holds_no_record
  have htracked : strayAfter.Tracked := hkeeps _ _ strayState_tracked step_strayState
  obtain ⟨r, hr, -⟩ := htracked.placed.holding 1 hholding
  rw [hstrips] at hr
  cases hr

end

/-! PROOFS. A retirement forgets its ticket (R24, R49, R114). Retiring a record takes the ticket out of every place; what
follows in the same event, the points that a withdrawal lets an output take and the event of the reason, only takes
tickets out of places (`Fades`) and so brings it back to none. -/

namespace Sys2Proof.Machine

open Sys2Proof

set_option Elab.async false

variable {s t u : State} {n : Nat}

/-! ### The pulses still to be taken (R110, R113) -/

/-- A pulse of the ticket waits for its set point: it is the ARMED one, or NEXT. -/
def CountedOut.Awaits (n : Nat) (c : CountedOut) : Prop :=
  c.state = .armed ∧ serves n c.active = true ∨ serves n c.waiting = true

@[simp] theorem serves_none (n : Nat) : serves n none = false := rfl

theorem serves_some {p : Pulse} : serves n (some p) = true ↔ p.ticket = n := by simp [serves]

theorem CountedOut.Awaits.takeUpNext {c : CountedOut} (h : (takeUpNext c).Awaits n) : serves n c.waiting = true := by
  unfold Machine.takeUpNext at h
  split at h
  · simpa [CountedOut.Awaits] using h
  · next hwaiting => simpa [CountedOut.Awaits, hwaiting] using h

theorem CountedOut.Awaits.idleOut {c : CountedOut} (h : (idleOut c).Awaits n) : False := by
  simp [CountedOut.Awaits, Machine.idleOut] at h

/-- NEXT at its merge becomes the pulse performed: no other ticket is awaited (R113). -/
theorem CountedOut.Awaits.mergeNext {c : CountedOut} {p q : Pulse} (hq : c.waiting = some q)
    (h : (mergeNext p q c).Awaits n) : c.Awaits n := by
  have hserves : serves n c.waiting = true := by
    simpa [CountedOut.Awaits, Machine.mergeNext, hq, serves_some] using h.imp And.right id
  exact .inr hserves

/-- A withdrawal leaves what was awaited but for the pulses of its ticket (R114). -/
theorem CountedOut.Awaits.withdrawOut {m : Nat} {c : CountedOut} (h : (withdrawOut m c).Awaits n) :
    c.Awaits n ∧ n ≠ m := by
  have hserves (p : Option Pulse) (hn : serves n p = true) (hm : ¬ serves m p = true) : n ≠ m := fun heq => hm (heq ▸ hn)
  unfold Machine.withdrawOut at h
  by_cases hnext : serves m c.waiting = true
  · simp only [if_pos hnext] at h
    split at h
    · exact absurd h.takeUpNext (by simp)
    · next hkept =>
      obtain ⟨harmed, hactive⟩ | hwaiting := h
      · exact ⟨.inl ⟨harmed, hactive⟩, hserves _ hactive fun hm => hkept ⟨harmed, hm⟩⟩
      · simp at hwaiting
  · simp only [if_neg hnext] at h
    split at h
    · exact ⟨.inr h.takeUpNext, hserves _ h.takeUpNext hnext⟩
    · next hkept =>
      refine ⟨h, ?_⟩
      obtain ⟨harmed, hactive⟩ | hwaiting := h
      · exact hserves _ hactive fun hm => hkept ⟨harmed, hm⟩
      · exact hserves _ hwaiting hnext

/-! ### Tickets leave places -/

/-- From `s` to `t` no place, plan queue entry or pulse still to be taken names a ticket that it did not name before; an
evaluation in progress stays, at most marked DISCARD. -/
structure Fades (s t : State) : Prop where
  strips    : ∀ r ∈ t.strips, ∃ q ∈ s.strips, q.ticket = r.ticket
  infeed    : t.infeed ⊆ s.infeed
  planQueue : t.planQueue ⊆ s.planQueue
  moulder   : t.moulder ⊆ s.moulder
  holding   : ∀ n, t.holding = some n → s.holding = some n
  lugs      : ∀ (j : Fin 40) n, t.lugs[j].ticket = some n → s.lugs[j].ticket = some n
  outs      : ∀ (o : Fin 24) n, t.outs[o].Awaits n → s.outs[o].Awaits n
  engine    : ∀ e, s.engine = some e → t.engine = some e ∨ t.engine = some { e with discard := true }

theorem Fades.refl (s : State) : Fades s s where
  strips r hr := ⟨r, hr, rfl⟩
  infeed _ h := h
  planQueue _ h := h
  moulder _ h := h
  holding _ h := h
  lugs _ _ h := h
  outs _ _ h := h
  engine _ h := .inl h

theorem Fades.trans (h : Fades s t) (g : Fades t u) : Fades s u where
  strips r hr := by
    obtain ⟨q, hq, hqr⟩ := g.strips r hr
    obtain ⟨p, hp, hpq⟩ := h.strips q hq
    exact ⟨p, hp, hpq.trans hqr⟩
  infeed := List.Subset.trans g.infeed h.infeed
  planQueue := List.Subset.trans g.planQueue h.planQueue
  moulder := List.Subset.trans g.moulder h.moulder
  holding n hn := h.holding n (g.holding n hn)
  lugs j n hn := h.lugs j n (g.lugs j n hn)
  outs o n hn := h.outs o n (g.outs o n hn)
  engine e he := by
    rcases h.engine e he with ht | ht
    · exact g.engine e ht
    · exact (g.engine _ ht).elim .inr .inr

theorem Fades.foldl {α : Type} {f : State → α → State} (h : ∀ s a, Fades s (f s a)) (xs : List α) (s : State) :
    Fades s (xs.foldl f s) := by
  induction xs generalizing s with
  | nil => exact .refl s
  | cons a as ih => exact (h s a).trans (ih _)

/-- An update away from tracking, plans and schedules. -/
theorem Fades.of_same (hstrips : t.strips = s.strips := by rfl) (hinfeed : t.infeed = s.infeed := by rfl)
    (hplan : t.planQueue = s.planQueue := by rfl) (hmoulder : t.moulder = s.moulder := by rfl)
    (hholding : t.holding = s.holding := by rfl) (hlugs : t.lugs = s.lugs := by rfl) (houts : t.outs = s.outs := by rfl)
    (hengine : t.engine = s.engine := by rfl) : Fades s t where
  strips r hr := ⟨r, hstrips ▸ hr, rfl⟩
  infeed := by rw [hinfeed]; exact fun _ h => h
  planQueue := by rw [hplan]; exact fun _ h => h
  moulder := by rw [hmoulder]; exact fun _ h => h
  holding := by rw [hholding]; exact fun _ h => h
  lugs := by rw [hlugs]; exact fun _ _ h => h
  outs := by rw [houts]; exact fun _ _ h => h
  engine e he := .inl (hengine.trans he)

/-! ### Records, lugs and outputs -/

theorem updateStrip_fades (m : Nat) {f : Strip → Strip} (hf : ∀ r, (f r).ticket = r.ticket) (s : State) :
    Fades s (updateStrip m f s) := by
  refine { Fades.refl s with strips := fun r hr => ?_ }
  obtain ⟨q, hq, rfl⟩ := List.mem_map.1 hr
  refine ⟨q, hq, ?_⟩
  split
  · exact (hf q).symm
  · rfl

theorem Fades.of_lugs {lugs : Vector Lug 40}
    (h : ∀ (j : Fin 40) n, lugs[j].ticket = some n → s.lugs[j].ticket = some n) : Fades s { s with lugs := lugs } :=
  { Fades.refl s with lugs := h }

theorem Fades.of_outs {outs : Vector CountedOut 24} (h : ∀ (o : Fin 24) n, outs[o].Awaits n → s.outs[o].Awaits n) :
    Fades s { s with outs := outs } :=
  { Fades.refl s with outs := h }

theorem setSawDone_fades (lug : Fin 40) (m : Nat) (s : State) : Fades s (setSawDone lug m s) := by
  refine .of_lugs fun j n hn => ?_
  rw [modifyAt_get] at hn
  split at hn
  · split at hn <;> exact hn
  · exact hn

theorem updateOut_fades {o : Fin 24} {f : CountedOut → CountedOut}
    (hf : ∀ n, (f s.outs[o]).Awaits n → s.outs[o].Awaits n) : Fades s (updateOut o f s) := by
  refine .of_outs fun p n hn => ?_
  rw [modifyAt_get] at hn
  split at hn
  · next hp => subst hp; exact hf n hn
  · exact hn

/-! ### Raising an event -/

theorem setFlag_fades (k : EventKind) (s : State) : Fades s (setFlag k s) := .of_same

theorem stopPulses_fades (s : State) : Fades s (stopPulses s) := .of_same

theorem releaseForced_fades (s : State) : Fades s (releaseForced s) := by
  have hforced : Fades s { s with outs := mapTable (fun o => { o with forced := false }) s.outs } := by
    refine .of_outs fun o n hn => ?_
    rwa [Fin.getElem_fin, mapTable_get] at hn
  exact hforced.trans .of_same

theorem raiseQuiet_fades (k : EventKind) (s : State) : Fades s (raiseQuiet k s) := by
  unfold raiseQuiet
  dsimp only
  split
  · exact setFlag_fades k s
  · exact (setFlag_fades k s).trans (Fades.trans .of_same (releaseForced_fades _))

theorem markMissedCut_fades (p : Pulse) (s : State) : Fades s (markMissedCut p s) :=
  (updateStrip_fades p.ticket (f := fun r => { r with missedCut := true, disposition := some .hold }) (fun _ => rfl)
    s).trans (setSawDone_fades _ _ _)

theorem missPulse_fades {r : EventKind → State → State} (hr : ∀ k s, Fades s (r k s)) (o : Fin 24) (p : Pulse)
    (s : State) : Fades s (missPulse r o p s) := by
  unfold missPulse
  split
  · exact (markMissedCut_fades p s).trans (hr _ _)
  · exact hr _ s

theorem stopActive_fades (o : Fin 24) (c : CountedOut) (s : State) : Fades s (stopActive o c s) := by
  unfold stopActive
  split
  · exact .refl s
  · split
    · split
      · exact setSawDone_fades _ _ s
      · exact .refl s
    · exact missPulse_fades raiseQuiet_fades o _ s

theorem stopOut_fades (s : State) (o : Fin 24) : Fades s (stopOut s o) := by
  have h : Fades s (stopActive o s.outs[o] (updateOut o idleOut s)) :=
    (updateOut_fades fun _ hn => hn.idleOut.elim).trans (stopActive_fades _ _ _)
  unfold stopOut
  dsimp only
  split
  · exact h
  · exact h.trans (missPulse_fades raiseQuiet_fades o _ _)

theorem enterLine_fades (after : LineState) (s : State) : Fades s (enterLine after s) := by
  have hline : Fades s { s with line := after } := .of_same
  have hstopped := hline.trans ((Fades.foldl stopOut_fades (indices 24) _).trans (stopPulses_fades _))
  unfold enterLine
  dsimp only
  split <;> split
  · exact hstopped.trans (releaseForced_fades _)
  · exact hline.trans (releaseForced_fades _)
  · exact hstopped
  · exact hline

theorem raise_fades (k : EventKind) (s : State) : Fades s (raise k s) := by
  unfold raise
  dsimp only
  split
  · exact setFlag_fades k s
  · exact (setFlag_fades k s).trans (Fades.trans .of_same (enterLine_fades _ _))

/-! ### Lanes and labels -/

theorem updateLane_fades (l : Fin 8) (f : Lane → Lane) (s : State) : Fades s (updateLane l f s) := .of_same

theorem strobeTest_fades (s : State) : Fades s (strobeTest s) := by
  unfold strobeTest
  split
  · split
    · exact .refl s
    · exact .of_same
  · exact .refl s

theorem startHandshake_fades (s : State) : Fades s (startHandshake s) := by
  unfold startHandshake
  split
  · exact Fades.trans .of_same (strobeTest_fades _)
  · exact .refl s

theorem fillOne_fades (s : State) : Fades s (fillOne s) := by
  unfold fillOne
  split
  · split
    · exact .refl s
    · exact .of_same
  · exact .refl s

theorem fillFifo_fades (k : Nat) (s : State) : Fades s (fillFifo k s) := by
  induction k generalizing s with
  | zero => exact .refl s
  | succ k ih => exact (fillOne_fades s).trans (ih _)

theorem composerTest_fades (s : State) : Fades s (composerTest s) := by
  unfold composerTest
  split
  · split
    · exact .refl s
    · exact Fades.trans .of_same ((fillFifo_fades _ _).trans (startHandshake_fades _))
  · exact .refl s

theorem closeBundle_fades (l : Fin 8) (why : CloseReason) (s : State) : Fades s (closeBundle l why s) := by
  have h : Fades s (raise .bundleClosed (updateLane l (fun r => { r with state := .closed })
      (updateBundle l (fun b => { b with closeReason := some why }) s))) :=
    (updateLane_fades l _ s).trans <| (updateLane_fades l _ _).trans (raise_fades _ _)
  unfold closeBundle
  dsimp only
  split
  · exact h.trans (Fades.trans .of_same (composerTest_fades _))
  · exact h

theorem markDoubtful_fades (l : Fin 8) (k : Nat) (s : State) : Fades s (markDoubtful l k s) := by
  unfold markDoubtful
  split
  · split
    · dsimp only
      split
      · exact .of_same
      · exact .of_same
    · exact .refl s
  · exact .refl s

theorem expireWatch_fades (l : Fin 8) (s : State) : Fades s (expireWatch l s) := by
  unfold expireWatch
  split
  · exact .refl s
  · next w rest _ =>
    have h : Fades s (raise .missedDrop (updateLane l (fun r => { r with watch := rest }) s)) :=
      (updateLane_fades l _ s).trans (raise_fades _ _)
    dsimp only
    split
    · exact h.trans (markDoubtful_fades _ _ _)
    · exact h

theorem appendWatch_fades (l : Fin 8) (w : Watch) (s : State) : Fades s (appendWatch l w s) := by
  unfold appendWatch
  dsimp only
  split
  · exact (expireWatch_fades l s).trans (updateLane_fades _ _ _)
  · exact updateLane_fades _ _ s

theorem countStrip_fades (l : Fin 8) (r : Strip) (s : State) : Fades s (countStrip l r s) := by
  unfold countStrip
  split
  · exact updateLane_fades l _ s
  · exact updateLane_fades l _ s

theorem closureTest_fades (l : Fin 8) (s : State) : Fades s (closureTest l s) := by
  unfold closureTest
  split
  · exact .refl s
  · split
    · exact closeBundle_fades _ _ s
    · split
      · exact closeBundle_fades _ _ s
      · exact .refl s

/-! ### A retirement takes its ticket out of every place (R24, R49, R114) -/

/-- No record, place or pulse still to be taken names the ticket. -/
structure State.Forgets (s : State) (n : Nat) : Prop where
  strips  : ∀ r ∈ s.strips, r.ticket ≠ n
  infeed  : n ∉ s.infeed
  moulder : ∀ e ∈ s.moulder, e.ticket ≠ n
  holding : s.holding ≠ some n
  lugs    : ∀ j : Fin 40, s.lugs[j].ticket ≠ some n
  outs    : ∀ o : Fin 24, ¬ s.outs[o].Awaits n

theorem State.Forgets.fades (hs : s.Forgets n) (h : Fades s t) : t.Forgets n where
  strips r hr := by
    obtain ⟨q, hq, hqr⟩ := h.strips r hr
    exact hqr ▸ hs.strips q hq
  infeed hn := hs.infeed (h.infeed hn)
  moulder e he := hs.moulder e (h.moulder he)
  holding hn := hs.holding (h.holding n hn)
  lugs j hn := hs.lugs j (h.lugs j n hn)
  outs o hn := hs.outs o (h.outs o n hn)

theorem dropPlan_fades (n : Nat) (s : State) : Fades s (dropPlan n s) := by
  unfold dropPlan
  split
  · exact { Fades.refl s with planQueue := List.filter_sublist.subset }
  · refine { Fades.refl s with engine := fun e he => ?_ }
    simp only [he, Option.map_some]
    split
    · exact .inr rfl
    · exact .inl rfl
  · exact .refl s

theorem freeSlot_fades (n : Nat) (s : State) : Fades s (freeSlot n s) :=
  { Fades.refl s with strips := fun r hr => ⟨r, List.mem_of_mem_filter hr, rfl⟩ }

theorem evalPermit_fades (s : State) : Fades s (evalPermit s) := by
  unfold evalPermit
  split
  · exact .of_same
  · split
    · exact .of_same
    · exact .refl s

theorem leaveInfeed_fades (n : Nat) (s : State) : Fades s (leaveInfeed n s) := by
  unfold leaveInfeed
  split
  · have hfilter : Fades s { s with infeed := s.infeed.filter (· != n) } :=
      { Fades.refl s with infeed := List.filter_sublist.subset }
    exact hfilter.trans (evalPermit_fades _)
  · exact .refl s

theorem leaveMoulder_fades (n : Nat) (s : State) : Fades s (leaveMoulder n s) :=
  { Fades.refl s with moulder := List.filter_sublist.subset }

theorem leaveHolding_fades (n : Nat) (s : State) : Fades s (leaveHolding n s) := by
  unfold leaveHolding
  split
  · exact { Fades.refl s with holding := fun _ h => by cases h }
  · exact .refl s

theorem clearLugsOf_lug {j : Fin 40} {m : Nat} (h : (clearLugsOf n s).lugs[j].ticket = some m) :
    s.lugs[j].ticket = some m ∧ m ≠ n := by
  rw [clearLugsOf, Fin.getElem_fin, mapTable_get] at h
  split at h
  · cases h
  · next hother => exact ⟨h, fun heq => hother (heq ▸ h)⟩

theorem clearLugsOf_fades (n : Nat) (s : State) : Fades s (clearLugsOf n s) := .of_lugs fun _ _ h => (clearLugsOf_lug h).1

theorem withdrawPulses_out {o : Fin 24} {m : Nat} (h : (withdrawPulses n s).outs[o].Awaits m) :
    s.outs[o].Awaits m ∧ m ≠ n := by
  rw [withdrawPulses, Fin.getElem_fin, mapTable_get] at h
  exact h.withdrawOut

theorem withdrawPulses_fades (n : Nat) (s : State) : Fades s (withdrawPulses n s) :=
  .of_outs fun _ _ h => (withdrawPulses_out h).1

theorem leaveInfeed_infeed (n : Nat) (s : State) : n ∉ (leaveInfeed n s).infeed := by
  unfold leaveInfeed
  split
  · exact fun h => by simpa using (evalPermit_fades _).infeed h
  · next hout => simpa using hout

theorem leaveHolding_holding (n : Nat) (s : State) : (leaveHolding n s).holding ≠ some n := by
  unfold leaveHolding
  split
  · exact fun h => by cases h
  · next hother => exact hother

/-- What follows the plan of a retired record: its slot, its place, its pulses. -/
theorem retireCore_dropped (n : Nat) (s : State) :
    (retireCore n s).Forgets n ∧ Fades (dropPlan n s) (retireCore n s) := by
  have hpulses := withdrawPulses_fades n
    (clearLugsOf n (leaveHolding n (leaveMoulder n (leaveInfeed n (freeSlot n (dropPlan n s))))))
  have hlugs := (clearLugsOf_fades n _).trans hpulses
  have hholding := (leaveHolding_fades n _).trans hlugs
  have hmoulder := (leaveMoulder_fades n _).trans hholding
  have hinfeed := (leaveInfeed_fades n _).trans hmoulder
  refine ⟨⟨fun r hr => ?_, fun h => ?_, fun e he => ?_, fun h => ?_, fun j h => ?_, fun o h => ?_⟩,
    (freeSlot_fades n _).trans hinfeed⟩
  · obtain ⟨q, hq, hqr⟩ := hinfeed.strips r hr
    have hslot := List.of_mem_filter hq
    rw [← hqr]
    simpa using hslot
  · exact leaveInfeed_infeed n _ (hmoulder.infeed h)
  · have hplace := List.of_mem_filter (hholding.moulder he)
    simpa using hplace
  · exact leaveHolding_holding n _ (hlugs.holding n h)
  · exact (clearLugsOf_lug (hpulses.lugs j n h)).2 rfl
  · exact (withdrawPulses_out h).2 rfl

theorem retireCore_fades (n : Nat) (s : State) : Fades s (retireCore n s) :=
  (dropPlan_fades n s).trans (retireCore_dropped n s).2

/-! ### The points taken at a retirement, and its event -/

theorem commitStrip_fades (l : Fin 8) (r : Strip) (s : State) : Fades s (commitStrip l r s) := by
  have h := ((countStrip_fades l r s).trans (retireCore_fades r.ticket _)).trans
    (appendWatch_fades l (commitWatch l (retireCore r.ticket (countStrip l r s))) _)
  unfold commitStrip
  dsimp only
  split
  · exact h.trans (closureTest_fades _ _)
  · exact h

theorem pusherSetPoint_fades (o : Fin 24) (l : Fin 8) (p : Pulse) (s : State) : Fades s (pusherSetPoint o l p s) := by
  unfold pusherSetPoint
  split
  · exact (updateOut_fades fun _ hn => .inr (hn.resolve_left (by simp))).trans (commitStrip_fades _ _ _)
  · have hlost : Fades s (updateOut o (fun c => { c with active := none }) s) :=
      updateOut_fades fun _ hn => .inr (hn.resolve_left (by simp))
    exact hlost.trans <| (raise_fades _ _).trans (updateOut_fades fun _ hn => .inr hn.takeUpNext)

theorem pusherMerge_fades {o : Fin 24} {q : Pulse} (hq : s.outs[o].waiting = some q) (l : Fin 8) (p : Pulse) :
    Fades s (pusherMerge o l p q s) := by
  unfold pusherMerge
  split
  · exact (updateOut_fades fun _ hn => hn.mergeNext hq).trans (commitStrip_fades _ _ _)
  · have hlost : Fades s (updateOut o (fun c => { c with waiting := none }) s) :=
      updateOut_fades fun _ hn => .inl (hn.resolve_right (by simp))
    exact hlost.trans (raise_fades _ _)

theorem takePoint_fades (o : Fin 24) (k : Point) (s : State) : Fades s (takePoint o k s) := by
  unfold takePoint
  dsimp only
  split
  · split
    · exact updateOut_fades fun _ hn => .inr (hn.resolve_left (by simp))
    · exact pusherSetPoint_fades o _ _ s
  · next p q _ hq =>
    split
    · exact (setSawDone_fades _ _ s).trans (updateOut_fades fun _ hn => hn.mergeNext hq)
    · exact pusherMerge_fades hq _ p
  · have hnext (s : State) : Fades s (updateOut o takeUpNext s) := updateOut_fades fun _ hn => .inr hn.takeUpNext
    split
    · exact (setSawDone_fades _ _ s).trans (hnext _)
    · exact hnext s
  · exact .refl s

theorem settleSets_fades (s : State) : Fades s (settleSets s) := by
  have hsettle (k : Nat) (s : State) : Fades s (settle (indices 24) false k s) := by
    induction k generalizing s with
    | zero => exact .refl s
    | succ k ih =>
      unfold settle
      split
      · exact .refl s
      · exact (takePoint_fades _ _ s).trans (ih _)
  exact hsettle _ s

theorem retire_of_noEvent {why : RetireReason} (h : retireEvent why = none) (n : Nat) (s : State) :
    retire n why s = settleSets (retireCore n s) := by
  simp only [retire, h]

theorem retire_of_event {why : RetireReason} {k : EventKind} (h : retireEvent why = some k) (n : Nat) (s : State) :
    retire n why s = raise k (settleSets (retireCore n s)) := by
  simp only [retire, h]

/-- What a retirement does after it has dealt with the plan of its record. -/
theorem retire_dropped (n : Nat) (why : RetireReason) (s : State) :
    (retire n why s).Forgets n ∧ Fades (dropPlan n s) (retire n why s) := by
  obtain ⟨hforgets, hfades⟩ := retireCore_dropped n s
  have hafter : Fades (retireCore n s) (retire n why s) := by
    cases hwhy : retireEvent why with
    | none => rw [retire_of_noEvent hwhy]; exact settleSets_fades _
    | some k => rw [retire_of_event hwhy]; exact (settleSets_fades _).trans (raise_fades _ _)
  exact ⟨hforgets.fades hafter, hfades.trans hafter⟩

/-! ### The plan of a retired record (R49) -/

theorem dropPlan_pending {r : Strip} (h : findStrip n s = some r) (hplan : r.plan = .pending) :
    n ∉ (dropPlan n s).planQueue := by
  simp [dropPlan, h, hplan]

theorem dropPlan_running {r : Strip} {e : Evaluation} (h : findStrip n s = some r) (hplan : r.plan = .running)
    (he : s.engine = some e) (hcurrent : e.current = n) : (dropPlan n s).engine = some { e with discard := true } := by
  simp [dropPlan, h, hplan, he, hcurrent]

end Sys2Proof.Machine

section

open Sys2Proof Sys2Proof.Machine

/-- Settles O30: the retirement of the record forgets the ticket, and what follows brings none back. -/
theorem retirementForgetsTheTicket : Obligations.RetirementForgetsTheTicket := by
  intro n why s
  obtain ⟨hforgets, hfades⟩ := retire_dropped n why s
  refine ⟨retire_frame n why s, ?_, hforgets.infeed, hforgets.moulder, hforgets.holding, hforgets.lugs, ?_,
    fun r hr hplan h => dropPlan_pending hr hplan (hfades.planQueue h), fun r e hr hplan he hcurrent => ?_,
    fun k hk => ?_⟩
  · exact List.find?_eq_none.2 fun r hr => by simpa using hforgets.strips r hr
  · rintro o p (⟨harmed, hactive⟩ | hwaiting) hp
    · exact hforgets.outs o (.inl ⟨harmed, by rw [hactive]; exact serves_some.2 hp⟩)
    · exact hforgets.outs o (.inr (by rw [hwaiting]; exact serves_some.2 hp))
  · exact (hfades.engine _ (dropPlan_running hr hplan he hcurrent)).elim id id
  · rw [retire_of_event hk]
    exact raise_flag k _

end

/-! PROOFS. Records retired by command: PURGE (R38), EJECT_HEAD (R76), TRACK_CLEAR (R206). -/

namespace Sys2Proof.Machine

open Sys2Proof

set_option Elab.async false

variable {s t u : State} {x : Xfer}

/-- A command with a fixed number of argument bytes, by the answer of its run (R202, R210). -/
theorem fixedCommand_responds {code : Byte} {args : List Byte} {run : State → Answered} {status : Status}
    {payload : List Byte} (hs : s.Listens) (hcode : fixedArgs.lookup code = some args.length)
    (hrun : run (s.taken x code args) = (u, status, payload)) :
    hostCommand x code args run s = .next (u.responds x code status payload) := by
  rw [hostCommand_listens x code args run s hs (fixedArgs_fit hcode) (argsAgree_fixed hcode), hrun]

/-! ### PURGE (R38) -/

theorem purge_none {n : Nat} (h : findStrip n s = none) : purge n s = refuse .notFound s := by
  simp only [purge, h]

theorem purge_elsewhere {n : Nat} {r : Strip} (h : findStrip n s = some r) (hstage : r.stage ≠ .onLug) :
    purge n s = refuse .wrongState s := by
  simp only [purge, h, if_neg hstage]

theorem purge_onLug {n : Nat} {r : Strip} (h : findStrip n s = some r) (hstage : r.stage = .onLug) :
    purge n s = okay (retire n .purged s) := by
  simp only [purge, h, if_pos hstage]

/-! ### EJECT_HEAD (R76) -/

theorem ejectHead_stopped (h : s.line = .stopped ∨ s.line = .faultStop) : ejectHead s = refuse .wrongState s := by
  simp [ejectHead, actuatorsAct_stopped h]

theorem ejectHead_empty (hline : s.line = .running ∨ s.line = .hold)
    (h : ∀ r, headStrip s = some r → r.stage ≠ .waiting) : ejectHead s = refuse .empty s := by
  have hnone : waitingHead s = none := Option.filter_eq_none_iff.2 fun r hr => by simpa using h r hr
  simp [ejectHead, actuatorsAct_iff.2 hline, hnone]

theorem ejectHead_waiting (hline : s.line = .running ∨ s.line = .hold) {r : Strip} (h : headStrip s = some r)
    (hstage : r.stage = .waiting) :
    ejectHead s = okay (releaseTest
      { retire r.ticket .ejected (startPulse .eject .ejectPulseMs s) with mismatch := none }) := by
  have hsome : waitingHead s = some r := by simp [waitingHead, h, hstage]
  simp [ejectHead, actuatorsAct_iff.2 hline, hsome]

theorem purgeAndEject : Claims.PurgeAndEject := by
  refine ⟨fun x ticket s hs => ⟨fun hnone => ?_, fun r hr => ⟨fun hstage => ?_, fun hstage => ?_⟩⟩,
    fun x s hs => ⟨fun hline => ?_, fun hline hhead => ?_, fun r hline hhead hstage => ?_⟩⟩
  · exact fixedCommand_answers hs rfl (purge_none hnone)
  · exact fixedCommand_answers hs rfl (purge_elsewhere hr hstage)
  · exact fixedCommand_responds hs rfl (purge_onLug hr hstage)
  · exact fixedCommand_answers hs rfl (ejectHead_stopped hline)
  · exact fixedCommand_answers hs rfl (ejectHead_empty hline hhead)
  · exact fixedCommand_responds hs rfl (ejectHead_waiting (s := s.taken x 0x25 []) hline hhead hstage)

/-! ### TRACK_CLEAR (R40, R49, R84, R104, R149, R206) -/

/-- An evaluation of the permit latch changes the latch alone (R30). -/
theorem evalPermit_eq (s : State) : evalPermit s = { s with permitOpen := (evalPermit s).permitOpen } := by
  unfold evalPermit
  split
  · rfl
  · split <;> rfl

/-- On an empty queue the latch opens, whatever the low mark (R30). -/
theorem evalPermit_empty (hempty : s.infeed = []) (hmark : 0 < getPar s .infeedHighMark) :
    (evalPermit s).permitOpen = true := by
  have hlength : s.infeed.length = 0 := by rw [hempty]; rfl
  rw [evalPermit, if_neg (by omega), if_pos (by omega)]

theorem mapTable_const {α β : Type} {k : Nat} (v : Vector α k) (b : β) : mapTable (fun _ => b) v = Vector.replicate k b := by
  ext i hi
  simp [mapTable]

/-- What is left of the tracking, and what is not touched. -/
theorem clearTracking_eq (s : State) :
    clearTracking s = { s with
      strips := [], infeed := [], planQueue := [], moulder := [], holding := none, window := 0, mismatch := none,
      lugs := Vector.replicate 40 { ticket := none, sawDone := false }, outs := mapTable idleOut s.outs,
      lanes := mapTable (fun l => { l with watch := [] }) s.lanes, permitOpen := (clearTracking s).permitOpen,
      engine := s.engine.map (fun e => { e with discard := true }) } := by
  have hlugs := mapTable_const s.lugs emptyLug
  unfold clearTracking
  rw [evalPermit_eq]
  dsimp only [discardEvaluation]
  rw [hlugs]
  rfl

theorem clearTracking_permitOpen (hmark : 0 < getPar s .infeedHighMark) : (clearTracking s).permitOpen = true :=
  evalPermit_empty rfl hmark

theorem trackClear_stopped (h : s.line = .stopped) :
    trackClear s = okay (releaseTest (drainTest (clearTracking s))) := if_pos h

theorem trackClear_moving (h : s.line ≠ .stopped) : trackClear s = refuse .wrongState s := if_neg h

theorem trackClearClears : Claims.TrackClear := by
  intro x s hs
  refine ⟨fun hline => fixedCommand_answers hs rfl (trackClear_moving hline), fun hline =>
    ⟨clearTracking (s.taken x 0x06 []), fixedCommand_responds hs rfl (trackClear_stopped hline), ?_,
      fun hmark => clearTracking_permitOpen hmark, fun l => ?_, fun o => ?_⟩⟩
  · conv_lhs => rw [clearTracking_eq]
    conv_rhs => rw [clearTracking_eq]
    rfl
  · rw [clearTracking_eq, Fin.getElem_fin, mapTable_get]
    rfl
  · rw [clearTracking_eq, Fin.getElem_fin, mapTable_get]
    rfl

end Sys2Proof.Machine

section

open Sys2Proof Sys2Proof.Machine

/-- Settles O36: each command by the case of its checks. -/
theorem recordsAreRetiredByCommand : Obligations.RecordsAreRetiredByCommand := ⟨purgeAndEject, trackClearClears⟩

end

/-! PROOFS. SET_PARAM (R207): its checks, the value stored and what it lowers (R32, R120), and what a write sets off (R30,
R72, R78, R147). -/

namespace Sys2Proof.Machine

open Sys2Proof

set_option Elab.async false

variable {s t u : State} {x : Xfer} {p : Param}

/-! ### The checks (R207, R209, R185, R102) -/

theorem isStructural_iff : isStructural p = true ↔ p = .infeedCpm ∨ p = .chainPitch ∨ p = .sawOffset := by
  cases p <;> simp [isStructural]

theorem vector_any_iff {α : Type} {k : Nat} {v : Vector α k} {f : α → Bool} :
    v.toList.any f = true ↔ ∃ i : Fin k, f v[i] = true := by
  simp only [List.any_eq_true, Vector.mem_toList_iff, Vector.mem_iff_getElem]
  constructor
  · rintro ⟨_, ⟨i, hi, rfl⟩, hf⟩
    exact ⟨⟨i, hi⟩, hf⟩
  · rintro ⟨i, hf⟩
    exact ⟨_, ⟨i.val, i.isLt, rfl⟩, hf⟩

theorem anyLugLoaded_iff : anyLugLoaded s = true ↔ ∃ j : Fin 40, s.lugs[j].ticket ≠ none := by
  rw [anyLugLoaded, vector_any_iff]
  simp [Option.isSome_iff_ne_none]

theorem offsetMeetsLane_iff {v : Nat} :
    offsetMeetsLane s v = true ↔ ∃ l : Fin 8, s.lanes[l].kind ≠ .unused ∧ s.lanes[l].dropOffset ≤ v := by
  rw [offsetMeetsLane, vector_any_iff]
  simp

/-- SAW_OFFSET cannot take a value: a lug is loaded, or a lane drops at it or before (R102). -/
def SawBlocked (s : State) (p : Param) (v : Nat) : Prop :=
  p = .sawOffset ∧ ((∃ j : Fin 40, s.lugs[j].ticket ≠ none) ∨
    ∃ l : Fin 8, s.lanes[l].kind ≠ .unused ∧ s.lanes[l].dropOffset ≤ v)

theorem sawBlocked_iff {v : Nat} :
    SawBlocked s p v ↔ p = .sawOffset ∧ (anyLugLoaded s = true ∨ offsetMeetsLane s v = true) := by
  rw [SawBlocked, anyLugLoaded_iff, offsetMeetsLane_iff]

theorem paramRefusal_moving (h : p = .infeedCpm ∨ p = .chainPitch ∨ p = .sawOffset) (hline : s.line ≠ .stopped)
    (carried v : Nat) : paramRefusal s p carried v = some .wrongState :=
  if_pos ⟨isStructural_iff.2 h, hline⟩

theorem paramRefusal_rate (h : p = .linkBaud) {carried : Nat} (hrate : carried ∉ linkRates) (v : Nat) :
    paramRefusal s p carried v = some .badArgument := by
  subst h
  simp [paramRefusal, isStructural, hrate]

theorem paramRefusal_saw {v : Nat} (h : SawBlocked s p v) (hline : s.line = .stopped) (carried : Nat) :
    paramRefusal s p carried v = some .wrongState := by
  simp [paramRefusal, hline, sawBlocked_iff.1 h]

theorem paramRefusal_none {carried v : Nat}
    (hline : p = .infeedCpm ∨ p = .chainPitch ∨ p = .sawOffset → s.line = .stopped)
    (hrate : ¬ (p = .linkBaud ∧ carried ∉ linkRates)) (hsaw : ¬ SawBlocked s p v) : paramRefusal s p carried v = none := by
  rw [sawBlocked_iff] at hsaw
  rw [paramRefusal, if_neg fun h => h.2 (hline (isStructural_iff.1 h.1)), if_neg hrate, if_neg hsaw]

theorem clampNat_eq_min (lo hi v : Nat) : clampNat lo hi v = if v < lo then lo else min v hi := by
  unfold clampNat
  split_ifs <;> omega

/-! ### What is stored and answered -/

/-- The value that SET_PARAM stores (R207 step 5). -/
def storedValue (s : State) (p : Param) (carried : Nat) : Nat := clampNat (paramLow p) (paramHigh s p) carried

/-- The state with the value stored, and what it lowers (R207, R32, R120). -/
def storedState (s : State) (p : Param) (v : Nat) : State := adjustOthers p (putPar p v s)

variable {code : Byte} {value : BitVec 32}

theorem setParam_refused (hp : paramOf code = some p) {status : Status}
    (h : paramRefusal s p value.toNat (storedValue s p value.toNat) = some status) :
    setParam code value s = refuse status s := by
  rw [storedValue] at h
  simp only [setParam, hp, h]

theorem setParam_stored (hp : paramOf code = some p)
    (h : paramRefusal s p value.toNat (storedValue s p value.toNat) = none) :
    setParam code value s =
      (paramEffect p (storedState s p (storedValue s p value.toNat)),
       okOr (storedValue s p value.toNat != value.toNat ||
         (storedState s p (storedValue s p value.toNat)).params != (putPar p (storedValue s p value.toNat) s).params),
       code :: u32 (storedValue s p value.toNat)) := by
  have hcode : u8 (paramCode p) = [code] := congrArg (fun b => [b]) (paramCode_of hp)
  rw [storedValue] at h
  simp only [setParam, hp, h, storedPayload, hcode]
  rfl

theorem params_eq_iff : t.params = s.params ↔ ∀ q, getPar t q = getPar s q := by
  refine ⟨getPar_of_params, fun h => ?_⟩
  have hidx : ∀ i : Fin 33, ∃ q, paramIdx q = i := by
    have hlist : ∀ i : Fin 33, paramIdx (paramList[i.val]'i.isLt) = i := by decide
    exact fun i => ⟨_, hlist i⟩
  ext i hi
  obtain ⟨q, hq⟩ := hidx ⟨i, hi⟩
  have hget := h q
  simp only [getPar, hq] at hget
  exact hget

/-- OK is the answer exactly when the value was stored as carried and no other parameter changed (R207). -/
theorem storedStatus_ok_iff (v carried : Nat) :
    okOr (v != carried || (storedState s p v).params != (putPar p v s).params) = .ok ↔
      v = carried ∧ ∀ q, q ≠ p → getPar (storedState s p v) q = getPar s q := by
  have hsame : (storedState s p v).params = (putPar p v s).params ↔
      ∀ q, q ≠ p → getPar (storedState s p v) q = getPar s q := by
    rw [params_eq_iff]
    refine forall_congr' fun q => ?_
    rw [getPar_putPar]
    by_cases hq : q = p
    · simp [hq, storedState, getPar_stored]
    · simp [hq]
  rw [← hsame]
  by_cases hv : v = carried <;>
    by_cases hparams : (storedState s p v).params = (putPar p v s).params <;> simp [okOr, hv, hparams]

theorem okOr_cases (clamped : Bool) : okOr clamped = .ok ∨ okOr clamped = .okClamped := by
  cases clamped
  · exact .inl rfl
  · exact .inr rfl

/-! ### The drop watch lists after a write of DROP_CONFIRM_MS (R147, R143) -/

theorem LineFrame.ms (h : LineFrame s t) : t.ms = s.ms := by
  unfold LineFrame at h
  rw [h]

theorem LineFrame.params (h : LineFrame s t) : t.params = s.params := by
  unfold LineFrame at h
  rw [h]

theorem expireWatch_other {l j : Fin 8} (h : j ≠ l) (s : State) :
    (expireWatch l s).lanes[j].watch = s.lanes[j].watch := by
  unfold expireWatch
  split
  · rfl
  · next w rest _ =>
    have hpop : (raise .missedDrop (updateLane l (fun r => { r with watch := rest }) s)).lanes[j].watch =
        s.lanes[j].watch := by
      rw [raise_lanes, updateLane, modifyAt_get, if_neg h]
    dsimp only
    split
    · rw [markDoubtful_watch, hpop]
    · exact hpop

theorem markDoubtful_events (l : Fin 8) (k : Nat) (s : State) : (markDoubtful l k s).events = s.events := by
  unfold markDoubtful
  split
  · split
    · dsimp only
      split <;> rfl
    · rfl
  · rfl

/-- An expiry raises MISSED_DROP (R143). -/
theorem expireWatch_flag {l : Fin 8} (h : s.lanes[l].watch ≠ []) :
    (expireWatch l s).events[eventIdx .missedDrop].flag = true := by
  unfold expireWatch
  split
  · contradiction
  · dsimp only
    split
    · rw [markDoubtful_events]
      exact raise_flag .missedDrop _
    · exact raise_flag .missedDrop _

/-- From `s` to `t` the oldest entries of a lane's list expire: those gone had outlived DROP_CONFIRM_MS, the oldest left has
not, and MISSED_DROP is flagged where one is gone. -/
def Expired (l : Fin 8) (s t : State) : Prop :=
  ∃ gone, s.lanes[l].watch = gone ++ t.lanes[l].watch ∧ (∀ e ∈ gone, getPar s .dropConfirmMs < watchAge s e) ∧
    (∀ e, t.lanes[l].watch.head? = some e → watchAge s e ≤ getPar s .dropConfirmMs) ∧
    (gone ≠ [] → t.events[eventIdx .missedDrop].flag = true)

/-- What happens before and leaves the list alone, the clock and the parameters standing. -/
theorem Expired.of_before {l : Fin 8} (h : Expired l t u) (hframe : LineFrame s t)
    (hwatch : t.lanes[l].watch = s.lanes[l].watch) : Expired l s u := by
  have hlimit := getPar_of_params hframe.params .dropConfirmMs
  have hage (e : Watch) : watchAge t e = watchAge s e := by rw [watchAge, hframe.ms]; rfl
  simpa only [Expired, hlimit, hage, hwatch] using h

/-- What happens after and leaves the list alone, no flag being cleared. -/
theorem Expired.of_after {l : Fin 8} (h : Expired l s t) (hflags : FlagsStay t u)
    (hwatch : u.lanes[l].watch = t.lanes[l].watch) : Expired l s u := by
  obtain ⟨gone, hsplit, hold, hleft, hflag⟩ := h
  exact ⟨gone, by rw [hwatch, hsplit], hold, fun e he => hleft e (hwatch ▸ he), fun hgone => hflags.flags _ (hflag hgone)⟩

theorem watchDue_iff {l : Fin 8} :
    watchDue l s = true ↔ ∃ e, s.lanes[l].watch.head? = some e ∧ getPar s .dropConfirmMs < watchAge s e := by
  unfold watchDue
  cases s.lanes[l].watch with
  | nil => simp
  | cons w rest => simp

theorem expireWatches_expired (l : Fin 8) (k : Nat) (s : State) (hk : s.lanes[l].watch.length ≤ k) :
    Expired l s (expireWatches l k s) := by
  induction k generalizing s with
  | zero =>
    have hempty : s.lanes[l].watch = [] := List.length_eq_zero_iff.1 (Nat.le_zero.1 hk)
    refine ⟨[], rfl, by simp, fun e he => ?_, fun h => absurd rfl h⟩
    rw [expireWatches, hempty] at he
    cases he
  | succ k ih =>
    unfold expireWatches
    split
    · next hdue =>
      obtain ⟨w, hhead, hage⟩ := watchDue_iff.1 hdue
      have hlist : s.lanes[l].watch = w :: s.lanes[l].watch.tail := (List.cons_head?_tail hhead).symm
      have htail := expireWatch_watch l s
      have hshorter : (expireWatch l s).lanes[l].watch.length ≤ k := by rw [htail, List.length_tail]; omega
      obtain ⟨gone, hsplit, hold, hleft, -⟩ := ih _ hshorter
      have hframe := expireWatch_frame l s
      have hages (e : Watch) : watchAge (expireWatch l s) e = watchAge s e := by rw [watchAge, hframe.ms]; rfl
      simp only [getPar_of_params hframe.params, hages] at hold hleft
      refine ⟨w :: gone, by rw [hlist, ← htail, hsplit, List.cons_append], ?_, hleft, fun _ => ?_⟩
      · simpa using ⟨hage, hold⟩
      · have hnonempty : s.lanes[l].watch ≠ [] := by rw [hlist]; simp
        exact (expireWatches_works l k _).flags _ (expireWatch_flag hnonempty)
    · next hdue =>
      exact ⟨[], rfl, by simp, fun e he => Nat.not_lt.1 fun hage => hdue (watchDue_iff.2 ⟨e, he, hage⟩), fun h => absurd rfl h⟩

theorem expireWatches_other {l j : Fin 8} (h : j ≠ l) (k : Nat) (s : State) :
    (expireWatches l k s).lanes[j].watch = s.lanes[j].watch := by
  induction k generalizing s with
  | zero => rfl
  | succ k ih =>
    unfold expireWatches
    split
    · rw [ih, expireWatch_other h]
    · rfl

/-- The lists of some lanes, dealt with one after another. -/
def expireLanes (order : List (Fin 8)) (s : State) : State :=
  order.foldl (fun s l => expireWatches l s.lanes[l].watch.length s) s

theorem expireLanes_other {order : List (Fin 8)} {l : Fin 8} (h : l ∉ order) (s : State) :
    (expireLanes order s).lanes[l].watch = s.lanes[l].watch := by
  induction order generalizing s with
  | nil => rfl
  | cons k rest ih =>
    obtain ⟨hk, hrest⟩ := not_or.1 (List.mem_cons.not.1 h)
    exact (ih hrest _).trans (expireWatches_other hk _ s)

theorem expireLanes_expired {order : List (Fin 8)} (hnodup : order.Nodup) {l : Fin 8} (h : l ∈ order) (s : State) :
    Expired l s (expireLanes order s) := by
  induction order generalizing s with
  | nil => cases h
  | cons k rest ih =>
    obtain ⟨hfresh, hrest⟩ := List.nodup_cons.1 hnodup
    rcases List.mem_cons.1 h with rfl | hin
    · have hflags (s : State) : FlagsStay s (expireLanes rest s) :=
        (Works.foldl (fun s l => expireWatches_works l _ s) rest s).toFlagsStay
      exact (expireWatches_expired l _ s (Nat.le_refl _)).of_after (hflags _) (expireLanes_other hfresh _)
    · have hne : l ≠ k := fun heq => hfresh (heq ▸ hin)
      exact (ih hrest hin _).of_before (expireWatches_frame k _ s) (expireWatches_other hne _ s)

theorem expireAll_expired (l : Fin 8) (s : State) : Expired l s (expireAll s) :=
  expireLanes_expired (indices_nodup 8) (mem_indices l) s

/-! ### What a write sets off -/

theorem paramEffect_frame (p : Param) (s : State) : LineFrame s (paramEffect p s) := by
  unfold paramEffect
  split
  · exact evalPermit_frame s
  · exact evalPermit_frame s
  · exact releaseTest_frame s
  · exact transitTest_frame _ s
  · exact LineFrame.foldl (fun s l => expireWatches_frame l _ s) _ s
  · rfl

theorem paramEffect_other
    (h : p ∉ [.infeedHighMark, .infeedLowMark, .moulderCapacity, .moulderTransitMs, .dropConfirmMs]) (s : State) :
    paramEffect p s = s := by
  unfold paramEffect
  split
  · simp at h
  · simp at h
  · simp at h
  · simp at h
  · simp at h
  · rfl

theorem paramEffect_mark (h : p = .infeedHighMark ∨ p = .infeedLowMark) (s : State) : paramEffect p s = evalPermit s := by
  rcases h with rfl | rfl
  · rfl
  · rfl

theorem exec_moulderTransitExpiry (h : s.resetHeld = false) :
    exec .moulderTransitExpiry s = .next (transitTest s.moulder.length s) := by
  simp [exec, execMoulderTransitExpiry, h]

end Sys2Proof.Machine

section

open Sys2Proof Sys2Proof.Machine

/-- Settles O40: the refusals by the first check that fails; a store by the parameters after it and what it sets off. -/
theorem setParamStoresTheClampedValue : Obligations.SetParamStoresTheClampedValue := by
  intro x code value s hs c args
  refine ⟨fun hbad => fixedCommand_answers hs rfl (by simp only [setParam, paramOf_bad hbad]; rfl), fun p hp => ?_⟩
  intro v structural badRate sawBlocked
  have hv : storedValue (s.taken x 0x10 args) p value.toNat = v := clampNat_eq_min ..
  have hrefuse (status : Status) (h : paramRefusal (s.taken x 0x10 args) p value.toNat v = some status) :
      exec c s = .next (s.answered x 0x10 args status []) :=
    fixedCommand_answers hs rfl (setParam_refused hp (by rw [hv]; exact h))
  refine ⟨fun ⟨hstructural, hline⟩ => hrefuse _ (paramRefusal_moving hstructural hline _ _),
    fun ⟨hbaud, hrate⟩ => hrefuse _ (paramRefusal_rate hbaud hrate _),
    fun hline hsaw => hrefuse _ (paramRefusal_saw hsaw hline _), fun hline hrate hsaw => ?_⟩
  have hnone : paramRefusal (s.taken x 0x10 args) p value.toNat v = none := paramRefusal_none hline hrate hsaw
  have hrun := setParam_stored (s := s.taken x 0x10 args) hp (by rw [hv]; exact hnone)
  rw [hv] at hrun
  have hframe := paramEffect_frame p (storedState (s.taken x 0x10 args) p v)
  have hget (q : Param) := getPar_of_params hframe.params q
  have hstored : { s.taken x 0x10 args with params := (paramEffect p (storedState (s.taken x 0x10 args) p v)).params } =
      storedState (s.taken x 0x10 args) p v := by
    rw [hframe.params]
    exact (stored_params p v _).symm
  have hstatus := storedStatus_ok_iff (s := s.taken x 0x10 args) (p := p) v value.toNat
  refine ⟨_, _, fixedCommand_responds hs rfl hrun, ?_⟩
  rw [hstored]
  refine ⟨hframe, (hget p).trans ?_, fun q hq => (hget q).trans ?_, ?_, okOr_cases _,
    fun hother => paramEffect_other hother _, fun hmark => paramEffect_mark hmark _, ?_, ?_, ?_⟩
  · rw [storedState, getPar_stored, if_pos rfl]
  · rw [storedState, getPar_stored, if_neg hq]
    rfl
  · simp only [hget]
    exact hstatus
  · rintro rfl
    rfl
  · rintro rfl
    exact exec_moulderTransitExpiry hs.1
  · rintro rfl l
    have hlimit : getPar (storedState (s.taken x 0x10 args) .dropConfirmMs v) .dropConfirmMs = v := by
      rw [storedState, getPar_stored, if_pos rfl]
    obtain ⟨gone, hsplit, hold, hleft, hflag⟩ := expireAll_expired l (storedState (s.taken x 0x10 args) .dropConfirmMs v)
    rw [hlimit] at hold hleft
    exact ⟨gone, hsplit, hold, hleft, hflag⟩

end

/-! PROOFS. Grading and cut planning (R54 to R61): the candidates of stage B and those that stage C leaves, the grade of
stage E, the choice of stage G, and what every plan keeps whichever path it ran on. -/

namespace Sys2Proof.Machine

open Sys2Proof

set_option Elab.async false

/-! ### The rising list of indices -/

theorem indices_rising (n : Nat) : (indices n).Pairwise (· < ·) := by
  induction n with
  | zero => exact .nil
  | succ n ih =>
    refine List.pairwise_append.2 ⟨List.pairwise_map.2 (ih.imp Fin.castSucc_lt_castSucc_iff.2), List.pairwise_singleton .., ?_⟩
    intro i hi j hj
    obtain ⟨k, -, rfl⟩ := List.mem_map.1 hi
    rw [List.mem_singleton.1 hj]
    exact Fin.castSucc_lt_last k

/-- No index before the first one that satisfies a test satisfies it. -/
theorem indices_find?_first {n : Nat} {test : Fin n → Bool} {i j : Fin n} (h : (indices n).find? test = some i)
    (hj : j < i) : test j = false := by
  obtain ⟨-, before, after, hsplit, hbefore⟩ := List.find?_eq_some_iff_append.1 h
  have hrising := indices_rising n
  rw [hsplit] at hrising
  have hmem : j ∈ before ++ i :: after := hsplit ▸ mem_indices j
  rcases List.mem_append.1 hmem with hin | hin
  · simpa using hbefore j hin
  · rcases List.mem_cons.1 hin with rfl | hafter
    · exact absurd hj (lt_irrefl _)
    · exact absurd hj (lt_asymm (List.rel_of_pairwise_cons (List.pairwise_append.1 hrising).2.1 hafter))

theorem indices_find?_eq_some {n : Nat} {test : Fin n → Bool} {i : Fin n} :
    (indices n).find? test = some i ↔ test i = true ∧ ∀ j < i, test j = false := by
  refine ⟨fun h => ⟨List.find?_some h, fun _ => indices_find?_first h⟩, fun ⟨hi, hfirst⟩ => ?_⟩
  cases h : (indices n).find? test with
  | none => exact absurd hi (List.find?_eq_none.1 h i (mem_indices i))
  | some k =>
    rcases lt_trichotomy k i with hlt | rfl | hlt
    · exact absurd (List.find?_some h) (by simp [hfirst k hlt])
    · rfl
    · exact absurd hi (by simp [indices_find?_first h hlt])

/-! ### The candidates (R54, R55) -/

variable {sawMap : List Nat} {f m z minKept len p : Nat} {length : Option Nat} {i : Fin 16} {ds : List Defect}
  {cs : List Candidate} {c : Candidate}

/-- A saw as a candidate of stage B, none where it may not cut (R54). -/
def candidateOf (sawMap : List Nat) (f m minKept len : Nat) (i : Fin 16) : Option Candidate :=
  match sawMap[i.val]? with
  | none => none
  | some p => if p + m ≤ len ∧ f + minKept ≤ p then some (i, p) else none

theorem candidates_some :
    candidates sawMap f m minKept (some len) = (indices 16).filterMap (candidateOf sawMap f m minKept len) := rfl

theorem candidateOf_eq_some :
    candidateOf sawMap f m minKept len i = some c ↔
      c.1 = i ∧ sawMap[c.1.val]? = some c.2 ∧ c.2 + m ≤ len ∧ f + minKept ≤ c.2 := by
  obtain ⟨j, p⟩ := c
  unfold candidateOf
  constructor
  · intro h
    split at h
    · cases h
    · next q hq =>
      split_ifs at h with hfits
      obtain ⟨rfl, rfl⟩ := Prod.mk.inj (Option.some.inj h)
      exact ⟨rfl, hq, hfits⟩
  · rintro ⟨rfl, hp, hfits⟩
    simp only [hp, if_pos hfits]

theorem mem_candidates :
    (i, p) ∈ candidates sawMap f m minKept (some len) ↔ sawMap[i.val]? = some p ∧ p + m ≤ len ∧ f + minKept ≤ p := by
  simp [candidates_some, candidateOf_eq_some]

/-- A candidate stands on the saw map, within the LENGTH and with the least kept length (R54). -/
theorem candidate_fits (h : c ∈ candidates sawMap f m minKept length) :
    ∃ len, length = some len ∧ sawMap[c.1.val]? = some c.2 ∧ c.2 + m ≤ len ∧ f + minKept ≤ c.2 := by
  cases length with
  | none => cases h
  | some len => exact ⟨len, rfl, mem_candidates.1 h⟩

/-- The candidates stand in saw order (R54). -/
theorem candidates_rising (length : Option Nat) :
    (candidates sawMap f m minKept length).Pairwise (fun c d => c.1 < d.1) := by
  cases length with
  | none => exact .nil
  | some len =>
    refine List.pairwise_filterMap.2 ((indices_rising 16).imp fun hij c hc d hd => ?_)
    rw [(candidateOf_eq_some.1 hc).1, (candidateOf_eq_some.1 hd).1]
    exact hij

theorem excludes_iff {d : Defect} :
    excludes z p d = true ↔
      (d.kind = .split ∨ d.kind = .looseKnot) ∧ d.start < p ∧ (p : Int) - (z : Int) < (d.stop : Int) := by
  have hzone : (p : Int) - (z : Int) < (d.stop : Int) ↔ p < d.stop + z := by omega
  simp [excludes, hzone, and_assoc]

theorem mem_passing : c ∈ passing z ds cs ↔ c ∈ cs ∧ ∀ d ∈ ds, ¬ excludes z c.2 d = true := by
  simp [passing]

/-! ### The choices of a candidate (R58, R60, R61) -/

/-- The last candidate is the one with the largest saw number (R60). -/
theorem getLast?_candidates (h : (candidates sawMap f m minKept length).getLast? = some c) :
    c ∈ candidates sawMap f m minKept length ∧ ∀ x ∈ candidates sawMap f m minKept length, x.1 ≤ c.1 := by
  have hrising : (candidates sawMap f m minKept length).Pairwise (fun c d => c.1 < d.1) := candidates_rising length
  obtain ⟨before, hsplit⟩ := List.getLast?_eq_some_iff.1 h
  rw [hsplit] at hrising ⊢
  refine ⟨by simp, fun x hx => ?_⟩
  rcases List.mem_append.1 hx with hin | hin
  · exact ((List.pairwise_append.1 hrising).2.2 x hin c (List.mem_singleton_self c)).le
  · rw [List.mem_singleton.1 hin]

theorem longest_eq_none : longest cs = none ↔ cs = [] := by
  cases cs with
  | nil => simp [longest]
  | cons c rest =>
    simp only [longest]
    split
    · simp
    · split <;> simp

theorem longest_eq_some (h : longest cs = some c) : c ∈ cs ∧ ∀ x ∈ cs, x.2 ≤ c.2 := by
  induction cs generalizing c with
  | nil => cases h
  | cons b rest ih =>
    simp only [longest] at h
    split at h
    · next hnone =>
      cases h
      simp [longest_eq_none.1 hnone]
    · next d hd =>
      obtain ⟨hmem, hmost⟩ := ih hd
      split_ifs at h with hle
      · cases h
        exact ⟨List.mem_cons_of_mem _ hmem, List.forall_mem_cons.2 ⟨hle, hmost⟩⟩
      · cases h
        exact ⟨List.mem_cons_self, List.forall_mem_cons.2 ⟨Nat.le_refl _, fun x hx => (hmost x hx).trans (by omega)⟩⟩

/-- A valued candidate is no better than another: it is worth less, or as much at a position no larger (R58). -/
def Valued.AtMost (w v : Valued) : Prop := w.value < v.value ∨ w.value = v.value ∧ w.pos ≤ v.pos

theorem Valued.AtMost.refl (v : Valued) : v.AtMost v := .inr ⟨rfl, Nat.le_refl _⟩

theorem Valued.AtMost.trans {u v w : Valued} (h : u.AtMost v) (g : v.AtMost w) : u.AtMost w := by
  unfold Valued.AtMost at *
  omega

theorem atMost_betterOf (v w : Valued) : v.AtMost (betterOf v w) ∧ w.AtMost (betterOf v w) := by
  unfold betterOf Valued.AtMost
  split_ifs <;> omega

theorem betterOf_eq (v w : Valued) : betterOf v w = v ∨ betterOf v w = w := by
  unfold betterOf
  split_ifs
  · exact .inr rfl
  · exact .inl rfl

theorem chosen_eq_none {vs : List Valued} : chosen vs = none ↔ vs = [] := by
  cases vs with
  | nil => simp [chosen]
  | cons v rest =>
    simp only [chosen]
    split <;> simp

theorem chosen_eq_some {vs : List Valued} {v : Valued} (h : chosen vs = some v) : v ∈ vs ∧ ∀ w ∈ vs, w.AtMost v := by
  induction vs generalizing v with
  | nil => cases h
  | cons w rest ih =>
    simp only [chosen] at h
    split at h
    · next hnone =>
      cases h
      simp [chosen_eq_none.1 hnone, Valued.AtMost.refl]
    · next u hu =>
      cases h
      obtain ⟨hmem, hbest⟩ := ih hu
      have hbetter := atMost_betterOf w u
      refine ⟨?_, List.forall_mem_cons.2 ⟨hbetter.1, fun x hx => (hbest x hx).trans hbetter.2⟩⟩
      rcases betterOf_eq w u with heq | heq
      · rw [heq]; exact List.mem_cons_self
      · rw [heq]; exact List.mem_cons_of_mem _ hmem

/-! ### The grade and the value (R56 to R58) -/

theorem rowPasses_iff {row : GradeRow} {density : Nat} :
    rowPasses row density ds = true ↔
      row.enabled = true ∧ density ≤ row.maxDensity ∧ ∀ d ∈ ds, d.size ≤ row.maxSize[kindIdx d.kind] := by
  simp [rowPasses, and_assoc]

variable {e : Evaluation} {grades : Vector GradeRow 6}

/-- The value of a candidate: the kept length times the price of its grade, and 0 for REJECT (R58). -/
theorem valueOf_value (e : Evaluation) (grades : Vector GradeRow 6) (c : Candidate) :
    (valueOf e grades c).value = match (valueOf e grades c).grade with
      | none => 0
      | some g => (c.2 - e.fenceTrim) * grades[g].price := rfl

/-- The passing candidates of an evaluation (R54, R55). -/
abbrev passingOf (e : Evaluation) (sawMap : List Nat) : List Candidate :=
  passing e.endZone e.defects (candidates sawMap e.fenceTrim e.farMargin e.minKept e.length)

/-- The plan that cuts a passing candidate with a grade (R58). -/
def cutPlan (e : Evaluation) (c : Candidate) (g : Grade) : PlanResult :=
  { saw := some c.1, kept := c.2 - e.fenceTrim, computedGrade := some (.grade g), disposition := .graded g }

/-- What the computed plan can be: TRIM_OUT with every value 0, or the cut of a passing candidate of the best value, which
is not 0 (R58). -/
theorem computedPlan_cases (e : Evaluation) (grades : Vector GradeRow 6) (sawMap : List Nat) :
    (computedPlan e grades sawMap = trimOutPlan ∧ ∀ c ∈ passingOf e sawMap, (valueOf e grades c).value = 0) ∨
    ∃ c ∈ passingOf e sawMap, ∃ g, computedPlan e grades sawMap = cutPlan e c g ∧
      (valueOf e grades c).grade = some g ∧ 0 < (valueOf e grades c).value ∧
      ∀ d ∈ passingOf e sawMap, (valueOf e grades d).AtMost (valueOf e grades c) := by
  unfold computedPlan
  dsimp only
  cases hchosen : chosen ((passingOf e sawMap).map (valueOf e grades)) with
  | none =>
    have hempty : passingOf e sawMap = [] := List.map_eq_nil_iff.1 (chosen_eq_none.1 hchosen)
    exact .inl ⟨rfl, by simp [hempty]⟩
  | some v =>
    obtain ⟨hmem, hbest⟩ := chosen_eq_some hchosen
    obtain ⟨c, hc, rfl⟩ := List.mem_map.1 hmem
    have hmost (d : Candidate) (hd : d ∈ passingOf e sawMap) : (valueOf e grades d).AtMost (valueOf e grades c) :=
      hbest _ (List.mem_map_of_mem hd)
    have hzero (hvalue : (valueOf e grades c).value = 0) (d : Candidate) (hd : d ∈ passingOf e sawMap) :
        (valueOf e grades d).value = 0 := by
      have h := hmost d hd
      unfold Valued.AtMost at h
      omega
    dsimp only
    cases hgrade : (valueOf e grades c).grade with
    | none => exact .inl ⟨rfl, hzero (by rw [valueOf_value, hgrade])⟩
    | some g =>
      dsimp only
      split_ifs with hvalue
      · exact .inl ⟨rfl, hzero hvalue⟩
      · exact .inr ⟨c, hc, g, rfl, hgrade, Nat.pos_of_ne_zero hvalue, hmost⟩

/-! ### What every plan keeps (R58, R59) -/

/-- A plan keeps the margins of its evaluation: a saw it names stands on the saw map within the margins, with KEPT the rest
of the strip; with no saw KEPT is 0; a GRADED plan names a saw. -/
structure PlanResult.Sound (e : Evaluation) (sawMap : List Nat) (plan : PlanResult) : Prop where
  cut    : ∀ i, plan.saw = some i → ∃ p len, sawMap[i.val]? = some p ∧ e.length = some len ∧ p + e.farMargin ≤ len ∧
    plan.kept + e.fenceTrim = p ∧ e.minKept ≤ plan.kept
  uncut  : plan.saw = none → plan.kept = 0
  graded : ∀ g, plan.disposition = .graded g → plan.saw.isSome

/-- A plan that cuts a candidate. -/
theorem PlanResult.Sound.of_candidate (h : c ∈ candidates sawMap e.fenceTrim e.farMargin e.minKept e.length)
    {plan : PlanResult} (hsaw : plan.saw = some c.1) (hkept : plan.kept = c.2 - e.fenceTrim) : plan.Sound e sawMap := by
  obtain ⟨len, hlength, hmap, hfar, hkeep⟩ := candidate_fits h
  refine ⟨fun i hi => ?_, fun hnone => ?_, fun _ _ => by rw [hsaw]; rfl⟩
  · cases hsaw.symm.trans hi
    exact ⟨c.2, len, hmap, hlength, hfar, by omega, by omega⟩
  · cases hsaw.symm.trans hnone

theorem PlanResult.Sound.of_uncut {plan : PlanResult} (hsaw : plan.saw = none) (hkept : plan.kept = 0)
    (hgrade : ∀ g, plan.disposition ≠ .graded g) : plan.Sound e sawMap where
  cut i hi := by cases hsaw.symm.trans hi
  uncut _ := hkept
  graded g hg := absurd hg (hgrade g)

/-- A manual value grades a record only with a saw (R59). -/
theorem manualDisposition_graded {hasSaw : Bool} {v : ManualGrade} {g : Grade}
    (h : manualDisposition hasSaw v = .graded g) : hasSaw = true := by
  cases v with
  | grade g =>
    cases hasSaw with
    | true => rfl
    | false => cases h
  | hold => cases h
  | reject => cases h

/-- The default and the manual plan grade a record only with a saw (R59). -/
theorem plainPlan_graded {c : Option Candidate} {manual : Option ManualGrade} {g : Grade}
    (h : (plainPlan f c manual).disposition = .graded g) : c.isSome := by
  cases manual with
  | none => cases h
  | some v => exact manualDisposition_graded h

theorem defaultPlan_graded {manual : Option ManualGrade} {g : Grade}
    (h : (defaultPlan sawMap f m minKept length manual).disposition = .graded g) :
    (defaultPlan sawMap f m minKept length manual).saw.isSome :=
  Option.isSome_map.trans (plainPlan_graded h)

theorem plainPlan_sound {c : Option Candidate}
    (h : ∀ d, c = some d → d ∈ candidates sawMap e.fenceTrim e.farMargin e.minKept e.length)
    (manual : Option ManualGrade) : (plainPlan e.fenceTrim c manual).Sound e sawMap := by
  cases c with
  | none => exact .of_uncut rfl rfl fun g hg => by cases plainPlan_graded hg
  | some d => exact .of_candidate (h d rfl) rfl rfl

theorem planResult_sound (e : Evaluation) (grades : Vector GradeRow 6) (sawMap : List Nat) :
    (planResult e grades sawMap).Sound e sawMap := by
  unfold planResult
  split
  · exact plainPlan_sound (fun d hd => (getLast?_candidates hd).1) _
  · exact plainPlan_sound (fun d hd => (mem_passing.1 (longest_eq_some hd).1).1) _
  · rcases computedPlan_cases e grades sawMap with ⟨hplan, -⟩ | ⟨c, hc, g, hplan, -⟩
    · rw [hplan]
      exact .of_uncut rfl rfl fun g hg => by cases hg
    · rw [hplan]
      exact .of_candidate (mem_passing.1 hc).1 rfl rfl

theorem candidatesOfStageB : Claims.CandidatesOfStageB := by
  intro sawMap f m minKept len i p
  refine ⟨mem_candidates.trans (and_congr_right fun _ => ?_), rfl⟩
  omega

theorem passingCandidatesOfStageC : Claims.PassingCandidatesOfStageC := by
  intro z ds cs i p
  simp only [mem_passing, excludes_iff, not_and]

theorem scoreOfStageD : Claims.ScoreOfStageD := fun _ _ _ _ => ⟨rfl, rfl⟩

theorem gradeOfStageE : Claims.GradeOfStageE := by
  intro grades density ds passes
  have hpasses (g : Grade) : passes g ↔ rowPasses grades[g] density ds = true := rowPasses_iff.symm
  simp only [hpasses, gradeOf]
  exact ⟨fun g => by simp [indices_find?_eq_some], by simp⟩

theorem theBestCandidateIsChosen : Claims.TheBestCandidateIsChosen := by
  intro e grades sawMap cs value plan
  rcases computedPlan_cases e grades sawMap with ⟨hplan, hzero⟩ | ⟨c, hc, g, hplan, hgrade, hpos, hbest⟩
  · exact ⟨fun _ => hplan, fun ⟨c, hc, hne⟩ => absurd (hzero c hc) hne⟩
  · refine ⟨fun hzero => absurd (hzero c hc) hpos.ne', fun _ => ⟨c, hc, g, hplan, hgrade, ?_, hpos, hbest⟩⟩
    exact (valueOf_value e grades c).trans (by rw [hgrade])

end Sys2Proof.Machine

section

open Sys2Proof Sys2Proof.Machine

/-- Settles O18, by the members of the two lists. -/
theorem candidatesOfStagesBAndC : Obligations.CandidatesOfStagesBAndC := ⟨candidatesOfStageB, passingCandidatesOfStageC⟩

/-- Settles O19: whichever path, the plan cuts a candidate of stage B or none. -/
theorem everyPlannedCutIsSound : Obligations.EveryPlannedCutIsSound := by
  intro e grades sawMap plan
  have h := planResult_sound e grades sawMap
  exact ⟨h.cut, h.uncut, h.graded⟩

/-- Settles O20: the score and the grade by their definitions, the choice by the best of the valued candidates. -/
theorem gradesAndChoiceOfStagesDToG : Obligations.GradesAndChoiceOfStagesDToG :=
  ⟨scoreOfStageD, gradeOfStageE, theBestCandidateIsChosen⟩

/-- Settles O21: the last of the candidates, which stand in saw order, and the longest of the passing ones. -/
theorem ungradedPlans : Obligations.UngradedPlans := by
  intro e sawMap cs of
  have hof (c : Option Candidate) : of c (plainPlan e.fenceTrim c e.manualGrade) := by
    refine ⟨rfl, by cases c <;> rfl, rfl, ?_⟩
    cases e.manualGrade with
    | none => rfl
    | some v => cases v <;> rfl
  exact ⟨⟨_, hof _, fun d hd => getLast?_candidates hd, fun hnone => List.getLast?_eq_none_iff.1 hnone⟩,
    _, hof _, fun d hd => longest_eq_some hd, longest_eq_none.1⟩

end

/-! PROOFS. Every step keeps the accounts: a GRADED record holds a SAW (R59, R131), a bundle's COUNT is the sum of its
HISTOGRAM and its SHORT_MM2 is within the mix (R136). `Accounted s t` says it of two states; one lemma for each operation,
along the operations' own call graph. -/

namespace Sys2Proof.Machine

open Sys2Proof

set_option Elab.async false

/-! ### What an operation does to the accounts -/

/-- A record is GRADED only with a SAW (R59). -/
def Strip.SawHeld (r : Strip) : Prop := ∀ g, r.disposition = some (.graded g) → r.saw.isSome

/-- The bundle a lane holds is balanced (R136). -/
def Lane.Balanced (l : Lane) : Prop := ∀ b, l.bundle = some b → b.Balanced

/-- From `s` to `t` the accounts stay as they should be. -/
structure Accounted (s t : State) : Prop where
  accounts : s.Accounts → t.Accounts

variable {s t u : State}

theorem Accounted.refl (s : State) : Accounted s s := ⟨id⟩

theorem Accounted.trans (h : Accounted s t) (g : Accounted t u) : Accounted s u := ⟨g.accounts ∘ h.accounts⟩

theorem Accounted.foldl {α : Type} {f : State → α → State} (h : ∀ s a, Accounted s (f s a)) (xs : List α) (s : State) :
    Accounted s (xs.foldl f s) := by
  induction xs generalizing s with
  | nil => exact .refl s
  | cons a as ih => exact (h s a).trans (ih _)

/-- The accounts are about records and lanes alone. -/
theorem Accounted.of_same (hstrips : t.strips = s.strips := by rfl) (hlanes : t.lanes = s.lanes := by rfl) :
    Accounted s t :=
  ⟨fun hs => ⟨by unfold State.GradedHaveSaw; rw [hstrips]; exact hs.graded, by rw [hlanes]; exact hs.bundles⟩⟩

/-- What comes after an operation and leaves records and lanes as they are. -/
theorem Accounted.still (h : Accounted s t) (hstrips : u.strips = t.strips := by rfl)
    (hlanes : u.lanes = t.lanes := by rfl) : Accounted s u := h.trans (.of_same hstrips hlanes)

/-- Records that stay, and others that are GRADED only with a SAW. -/
theorem Accounted.of_strips (h : ∀ r ∈ t.strips, r ∈ s.strips ∨ r.SawHeld) (hlanes : t.lanes = s.lanes := by rfl) :
    Accounted s t :=
  ⟨fun hs => ⟨fun r hr => (h r hr).elim (hs.graded r) id, by rw [hlanes]; exact hs.bundles⟩⟩

theorem updateStrip_accounted (n : Nat) {f : Strip → Strip} (s : State)
    (hf : ∀ r, r.SawHeld → (f r).SawHeld := by exact fun _ h => h) : Accounted s (updateStrip n f s) := by
  refine ⟨fun hs => ⟨fun q hq => ?_, hs.bundles⟩⟩
  obtain ⟨r, hr, rfl⟩ := List.mem_map.1 hq
  have hheld : r.SawHeld := hs.graded r hr
  split
  · exact hf r hheld
  · exact hheld

theorem updateLane_accounted_of {l : Fin 8} {f : Lane → Lane} (hf : s.Accounts → (f s.lanes[l]).Balanced) :
    Accounted s (updateLane l f s) := by
  refine ⟨fun hs => ⟨hs.graded, fun k b hb => ?_⟩⟩
  simp only [updateLane, modifyAt_get] at hb
  split at hb
  · next hk =>
    subst hk
    exact hf hs b hb
  · exact hs.bundles k b hb

theorem updateLane_accounted (l : Fin 8) {f : Lane → Lane} (s : State)
    (hf : ∀ k, k.Balanced → (f k).Balanced := by exact fun _ h => h) : Accounted s (updateLane l f s) :=
  updateLane_accounted_of fun hs => hf _ (hs.bundles l)

theorem Lane.Balanced.map {l : Lane} (h : l.Balanced) {f : Bundle → Bundle} (hf : ∀ b, b.Balanced → (f b).Balanced) :
    Lane.Balanced { l with bundle := l.bundle.map f } := by
  intro b hb
  obtain ⟨a, ha, rfl⟩ := Option.map_eq_some_iff.1 hb
  exact hf a (h a ha)

/-- An update of a bundle that leaves its accounts as they are. -/
theorem updateBundle_accounted (l : Fin 8) {f : Bundle → Bundle} (s : State)
    (hf : ∀ b, b.Balanced → (f b).Balanced := by exact fun _ h => ⟨h.count, h.short⟩) :
    Accounted s (updateBundle l f s) :=
  updateLane_accounted l s fun _ hl => hl.map hf

/-! ### Raising an event: a missed cut is on HOLD (R116) -/

theorem markMissedCut_accounted (p : Pulse) (s : State) : Accounted s (markMissedCut p s) :=
  (updateStrip_accounted (f := fun r => { r with missedCut := true, disposition := some .hold }) p.ticket s
    fun _ _ g hg => by cases hg).still

theorem raiseQuiet_accounted (k : EventKind) (s : State) : Accounted s (raiseQuiet k s) := by
  unfold raiseQuiet
  dsimp only
  split <;> exact .of_same

theorem missPulse_accounted {r : EventKind → State → State} (hr : ∀ k s, Accounted s (r k s)) (o : Fin 24) (p : Pulse)
    (s : State) : Accounted s (missPulse r o p s) := by
  unfold missPulse
  split
  · exact (markMissedCut_accounted p s).trans (hr _ _)
  · exact hr _ s

theorem stopActive_accounted (o : Fin 24) (c : CountedOut) (s : State) : Accounted s (stopActive o c s) := by
  unfold stopActive
  split
  · exact .refl s
  · split
    · split <;> exact .of_same
    · exact missPulse_accounted raiseQuiet_accounted o _ s

theorem stopOut_accounted (s : State) (o : Fin 24) : Accounted s (stopOut s o) := by
  have hactive : Accounted s (stopActive o s.outs[o] (updateOut o idleOut s)) :=
    Accounted.trans (t := updateOut o idleOut s) .of_same (stopActive_accounted _ _ _)
  unfold stopOut
  dsimp only
  split
  · exact hactive
  · exact hactive.trans (missPulse_accounted raiseQuiet_accounted o _ _)

theorem stopPulses_accounted (s : State) : Accounted s (stopPulses s) := .of_same

theorem releaseForced_accounted (s : State) : Accounted s (releaseForced s) := .of_same

theorem enterLine_accounted (after : LineState) (s : State) : Accounted s (enterLine after s) := by
  have hstops : Accounted s (stopPulses ((indices 24).foldl stopOut { s with line := after })) :=
    Accounted.trans (t := { s with line := after }) .of_same
      ((Accounted.foldl stopOut_accounted _ _).trans (stopPulses_accounted _))
  unfold enterLine
  dsimp only
  split <;> split
  · exact hstops.trans (releaseForced_accounted _)
  · exact .of_same
  · exact hstops
  · exact .of_same

theorem raise_accounted (k : EventKind) (s : State) : Accounted s (raise k s) := by
  unfold raise
  dsimp only
  split
  · exact .of_same
  · exact Accounted.trans .of_same (enterLine_accounted _ _)

/-! ### Records and places -/

theorem evalPermit_accounted (s : State) : Accounted s (evalPermit s) := by
  rw [evalPermit_eq]
  exact .of_same

theorem dropPlan_accounted (n : Nat) (s : State) : Accounted s (dropPlan n s) := by
  unfold dropPlan
  split <;> exact .of_same

theorem freeSlot_accounted (n : Nat) (s : State) : Accounted s (freeSlot n s) :=
  .of_strips fun _ hr => .inl (List.mem_of_mem_filter hr)

theorem leaveInfeed_accounted (n : Nat) (s : State) : Accounted s (leaveInfeed n s) := by
  unfold leaveInfeed
  split
  · exact Accounted.trans .of_same (evalPermit_accounted _)
  · exact .refl s

theorem leaveHolding_accounted (n : Nat) (s : State) : Accounted s (leaveHolding n s) := by
  unfold leaveHolding
  split <;> exact .of_same

theorem retireCore_accounted (n : Nat) (s : State) : Accounted s (retireCore n s) := by
  have hplaces : Accounted s (leaveMoulder n (leaveInfeed n (freeSlot n (dropPlan n s)))) :=
    ((dropPlan_accounted n s).trans ((freeSlot_accounted n _).trans (leaveInfeed_accounted n _))).still
  exact (hplaces.trans (leaveHolding_accounted n _)).still

theorem createStrip_accounted (stage : Stage) {add : Strip → Strip} (s : State)
    (hadd : ∀ r, r.SawHeld → (add r).SawHeld := by exact fun _ h => h) : Accounted s (createStrip stage add s) := by
  refine .of_strips fun r hr => ?_
  rcases List.mem_append.1 hr with hold | hnew
  · exact .inl hold
  · rw [List.mem_singleton.1 hnew]
    exact .inr (hadd _ fun g hg => by cases hg)

/-- A placeholder is on HOLD (R35, R92). -/
theorem placeholder_sawHeld (r : Strip) : (placeholder r).SawHeld := fun g hg => by cases hg

/-! ### Bundles (R128, R136, R144 to R146) -/

theorem freshBundle_balanced (n : Nat) (l : Lane) : (freshBundle n l).Balanced where
  count := show 0 = (Vector.replicate 16 0).toList.sum by decide
  short := Nat.zero_le _

theorem noBundle_balanced {l : Lane} (h : l.bundle = none) : l.Balanced := fun _ hb => by cases h.symm.trans hb

theorem openBundle_accounted (l : Fin 8) (s : State) : Accounted s (openBundle l s) :=
  Accounted.trans .of_same (updateLane_accounted l _ fun _ _ _ hb => Option.some.inj hb ▸ freshBundle_balanced _ _)

theorem retireBundle_accounted (l : Fin 8) (s : State) : Accounted s (retireBundle l s) := by
  have hgone : Accounted s (updateLane l (fun r => { r with bundle := none }) s) :=
    updateLane_accounted l s fun _ _ => noBundle_balanced rfl
  unfold retireBundle
  dsimp only
  split
  · exact hgone.trans (openBundle_accounted l _)
  · exact hgone.trans (updateLane_accounted l _)

theorem bundleTest_accounted (l : Fin 8) (s : State) : Accounted s (bundleTest l s) := by
  unfold bundleTest
  split
  · split
    · exact retireBundle_accounted l s
    · exact .refl s
  · exact .refl s

theorem handLabelDone_accounted (l : Fin 8) (s : State) : Accounted s (handLabelDone l s) :=
  (updateBundle_accounted l s).trans (bundleTest_accounted l _)

theorem setCleared_accounted (l : Fin 8) (s : State) : Accounted s (setCleared l s) :=
  (updateBundle_accounted l s).trans (bundleTest_accounted l _)

/-! ### Labels and the Dispatch Port -/

theorem strobeTest_accounted (s : State) : Accounted s (strobeTest s) := by
  unfold strobeTest
  split
  · split <;> exact .of_same
  · exact .refl s

theorem startHandshake_accounted (s : State) : Accounted s (startHandshake s) := by
  unfold startHandshake
  split
  · exact Accounted.trans .of_same (strobeTest_accounted _)
  · exact .refl s

theorem fillOne_accounted (s : State) : Accounted s (fillOne s) := by
  unfold fillOne
  split
  · split <;> exact .of_same
  · exact .refl s

theorem fillFifo_accounted (n : Nat) (s : State) : Accounted s (fillFifo n s) := by
  induction n generalizing s with
  | zero => exact .refl s
  | succ n ih => exact (fillOne_accounted s).trans (ih _)

theorem composerTest_accounted (s : State) : Accounted s (composerTest s) := by
  unfold composerTest
  split
  · split
    · exact .refl s
    · exact Accounted.trans .of_same ((fillFifo_accounted _ _).trans (startHandshake_accounted _))
  · exact .refl s

theorem labelPrinted_accounted (l : Fin 8) (s : State) : Accounted s (labelPrinted l s) :=
  Accounted.trans .of_same ((handLabelDone_accounted l _).trans (composerTest_accounted _))

theorem completeByte_accounted (s : State) : Accounted s (completeByte s) := by
  unfold completeByte
  split
  · exact .refl s
  · dsimp only
    refine Accounted.trans ?_ (startHandshake_accounted _)
    split
    · split
      · exact Accounted.trans .of_same (raise_accounted .fifoLow _)
      · exact .of_same
    · split
      · split
        · exact Accounted.trans .of_same (labelPrinted_accounted _ _)
        · exact Accounted.trans .of_same (fillOne_accounted _)
      · exact .of_same
    · exact .of_same

theorem busyEdge_accounted (high : Bool) (s : State) : Accounted s (busyEdge high s) := by
  unfold busyEdge
  split
  · exact .of_same
  · split <;> exact .of_same
  · exact .of_same
  · exact completeByte_accounted s
  · exact strobeTest_accounted s
  · exact .refl s

theorem endStrobe_accounted (s : State) : Accounted s (endStrobe s) := by
  unfold endStrobe
  dsimp only
  split
  · exact Accounted.trans .of_same (completeByte_accounted _)
  · split <;> exact .of_same

theorem faultAsserted_accounted (s : State) : Accounted s (faultAsserted s) := by
  unfold faultAsserted
  refine Accounted.trans ?_ (raise_accounted .printerFault _)
  split <;> exact .of_same

theorem faultCleared_accounted (s : State) : Accounted s (faultCleared s) := by
  unfold faultCleared
  refine Accounted.trans ?_ (strobeTest_accounted _)
  split <;> exact .of_same

theorem endTry_accounted (s : State) : Accounted s (endTry s) := by
  unfold endTry
  split
  · exact Accounted.trans .of_same (composerTest_accounted _)
  · split
    · exact Accounted.trans .of_same (composerTest_accounted _)
    · exact Accounted.trans .of_same ((raise_accounted .labelFailed _).trans (composerTest_accounted _))

theorem portTimeout_accounted (s : State) : Accounted s (portTimeout s) := by
  have hraised : Accounted s (raise .portTimeout (flushPort s)) := Accounted.trans .of_same (raise_accounted _ _)
  unfold portTimeout
  dsimp only
  split
  · exact hraised.trans (endTry_accounted _)
  · exact hraised

/-! ### Drop watch and closing -/

theorem closeBundle_accounted (l : Fin 8) (why : CloseReason) (s : State) : Accounted s (closeBundle l why s) := by
  have hclosed : Accounted s (raise .bundleClosed (updateLane l (fun r => { r with state := .closed })
      (updateBundle l (fun b => { b with closeReason := some why }) s))) :=
    (updateBundle_accounted l s).trans <| (updateLane_accounted l _).trans (raise_accounted _ _)
  unfold closeBundle
  dsimp only
  split
  · exact hclosed.trans (Accounted.trans .of_same (composerTest_accounted _))
  · exact hclosed

theorem markDoubtful_accounted (l : Fin 8) (n : Nat) (s : State) : Accounted s (markDoubtful l n s) := by
  have hmark : Accounted s (updateBundle l (fun b => { b with doubtful := true }) s) := updateBundle_accounted l s
  unfold markDoubtful
  split
  · split
    · dsimp only
      split
      · exact hmark.still
      · exact hmark
    · exact .refl s
  · exact .refl s

theorem expireWatch_accounted (l : Fin 8) (s : State) : Accounted s (expireWatch l s) := by
  unfold expireWatch
  split
  · exact .refl s
  · next w rest _ =>
    have hpop : Accounted s (raise .missedDrop (updateLane l (fun r => { r with watch := rest }) s)) :=
      (updateLane_accounted l s).trans (raise_accounted _ _)
    dsimp only
    split
    · exact hpop.trans (markDoubtful_accounted _ _ _)
    · exact hpop

theorem expireWatches_accounted (l : Fin 8) (n : Nat) (s : State) : Accounted s (expireWatches l n s) := by
  induction n generalizing s with
  | zero => exact .refl s
  | succ n ih =>
    unfold expireWatches
    split
    · exact (expireWatch_accounted l s).trans (ih _)
    · exact .refl s

theorem appendWatch_accounted (l : Fin 8) (w : Watch) (s : State) : Accounted s (appendWatch l w s) := by
  unfold appendWatch
  dsimp only
  split
  · exact (expireWatch_accounted l s).trans (updateLane_accounted l _)
  · exact updateLane_accounted l s

/-! ### The commit of an accepted strip (R131, R136) -/

/-- One strip more under a saw. -/
theorem modifyAt_succ_sum {n : Nat} (v : Vector Nat n) (i : Fin n) :
    (modifyAt v i (· + 1)).toList.sum = v.toList.sum + 1 := by
  have hi : i.val < v.toList.length := by simp
  have hset : (modifyAt v i (· + 1)).toList = v.toList.set i.val (v[i.val] + 1) := Vector.toList_set ..
  rw [hset, List.sum_set, if_pos hi]
  conv_rhs => rw [← List.take_append_drop i.val v.toList, List.sum_append, List.drop_eq_getElem_cons hi, List.sum_cons]
  simp only [Vector.getElem_toList]
  omega

/-- A strip that is accepted as GRADED is counted under its saw, and the mix test keeps SHORT_MM2 within the mix (R131,
R136). -/
theorem addToBundle_balanced {l : Lane} {b : Bundle} {r : Strip} (hb : b.Balanced) (hr : r.SawHeld)
    (h : bundleAccepts l b r = true) : (addToBundle r b).Balanced := by
  obtain ⟨⟨⟨hgraded, -⟩, -⟩, hmix⟩ : ((gradedAs b.grade r = true ∧ rangeHolds l r = true) ∧
      (b.count == 0 || (b.lot == some r.lot && b.width == r.width)) = true) ∧ mixPasses b r = true := by
    simpa only [bundleAccepts, Bool.and_eq_true] using h
  have hgrade : r.disposition = some (.graded b.grade) := by
    have hboth : r.disposition = some (.graded b.grade) ∧ r.missedCut = false := by simpa [gradedAs] using hgraded
    exact hboth.1
  obtain ⟨i, hi⟩ := Option.isSome_iff_exists.1 (hr _ hgrade)
  refine ⟨?_, ?_⟩
  · simp only [addToBundle, hi, modifyAt_succ_sum, hb.count]
  · have hold := hb.short
    have hgrows : b.mixCopy * b.coverage ≤ b.mixCopy * (b.coverage + stripArea r) :=
      Nat.mul_le_mul_left _ (Nat.le_add_right _ _)
    simp only [addToBundle]
    split
    · next hshort =>
      simp only [mixPasses, Bool.or_eq_true, decide_eq_true_eq] at hmix
      exact hmix.resolve_left (Nat.not_le.2 hshort)
    · exact hold.trans hgrows

theorem laneAccepts_bundle {l : Lane} {r : Strip} (h : laneAccepts l r = true) (hkind : l.kind = .bundle) :
    ∃ b, l.bundle = some b ∧ bundleAccepts l b r = true := by
  have hany : l.bundle.any (fun b => bundleAccepts l b r) = true := by
    simp only [laneAccepts, hkind, Bool.and_eq_true] at h
    exact h.2
  simpa [Option.any_eq_true] using hany

/-- A strip of the table is counted into a lane that accepts it. -/
theorem countStrip_accounted {l : Fin 8} {r : Strip} (hr : r ∈ s.strips) (h : laneAccepts s.lanes[l] r = true) :
    Accounted s (countStrip l r s) := by
  unfold countStrip
  split
  · next hkind =>
    obtain ⟨b, hb, haccepts⟩ := laneAccepts_bundle h hkind
    refine updateLane_accounted_of fun hs c hc => ?_
    dsimp only at hc
    rw [hb] at hc
    rw [← Option.some.inj hc]
    exact addToBundle_balanced (hs.bundles l b hb) (hs.graded r hr) haccepts
  · exact updateLane_accounted l s

theorem closureTest_accounted (l : Fin 8) (s : State) : Accounted s (closureTest l s) := by
  unfold closureTest
  split
  · exact .refl s
  · split
    · exact closeBundle_accounted _ _ s
    · split
      · exact closeBundle_accounted _ _ s
      · exact .refl s

theorem commitStrip_accounted {l : Fin 8} {r : Strip} (hr : r ∈ s.strips) (h : laneAccepts s.lanes[l] r = true) :
    Accounted s (commitStrip l r s) := by
  have hwatched := ((countStrip_accounted hr h).trans (retireCore_accounted r.ticket _)).trans
    (appendWatch_accounted l (commitWatch l (retireCore r.ticket (countStrip l r s))) _)
  unfold commitStrip
  dsimp only
  split
  · exact hwatched.trans (closureTest_accounted _ _)
  · exact hwatched

/-! ### Actuators -/

/-- The strip of a pulse is of the table, and its lane accepts it (R134). -/
theorem acceptedStrip_eq_some {l : Fin 8} {p : Pulse} {r : Strip} (h : acceptedStrip l p s = some r) :
    r ∈ s.strips ∧ laneAccepts s.lanes[l] r = true := by
  obtain ⟨hfind, haccepts⟩ := Option.filter_eq_some_iff.1 h
  exact ⟨List.mem_of_find?_eq_some hfind, haccepts⟩

/-- The commit of a pulse's accepted strip, once the output has changed. -/
theorem commitPulse_accounted {l : Fin 8} {p : Pulse} {r : Strip} (h : acceptedStrip l p s = some r) (o : Fin 24)
    (f : CountedOut → CountedOut) : Accounted s (commitStrip l r (updateOut o f s)) := by
  obtain ⟨hr, haccepts⟩ := acceptedStrip_eq_some h
  exact Accounted.trans (t := updateOut o f s) .of_same (commitStrip_accounted hr haccepts)

theorem pusherSetPoint_accounted (o : Fin 24) (l : Fin 8) (p : Pulse) (s : State) :
    Accounted s (pusherSetPoint o l p s) := by
  unfold pusherSetPoint
  split
  · next h => exact commitPulse_accounted h o _
  · have hraised : Accounted s (raise .divertSuppressed (updateOut o (fun c => { c with active := none }) s)) :=
      Accounted.trans .of_same (raise_accounted _ _)
    exact hraised.still

theorem pusherMerge_accounted (o : Fin 24) (l : Fin 8) (p q : Pulse) (s : State) : Accounted s (pusherMerge o l p q s) := by
  unfold pusherMerge
  split
  · next h => exact commitPulse_accounted h o _
  · exact Accounted.trans .of_same (raise_accounted .divertSuppressed _)

theorem takePoint_accounted (o : Fin 24) (k : Point) (s : State) : Accounted s (takePoint o k s) := by
  unfold takePoint
  dsimp only
  split
  · split
    · exact .of_same
    · exact pusherSetPoint_accounted o _ _ s
  · split
    · exact .of_same
    · exact pusherMerge_accounted o _ _ _ s
  · split <;> exact .of_same
  · exact .refl s

theorem settle_accounted (order : List (Fin 24)) (atCount : Bool) (n : Nat) (s : State) :
    Accounted s (settle order atCount n s) := by
  induction n generalizing s with
  | zero => exact .refl s
  | succ n ih =>
    unfold settle
    split
    · exact .refl s
    · exact (takePoint_accounted _ _ s).trans (ih _)

theorem settleSets_accounted (s : State) : Accounted s (settleSets s) := settle_accounted _ _ _ s

theorem retire_accounted (n : Nat) (why : RetireReason) (s : State) : Accounted s (retire n why s) := by
  have hsettled := (retireCore_accounted n s).trans (settleSets_accounted _)
  unfold retire
  dsimp only
  split
  · exact hsettled
  · exact hsettled.trans (raise_accounted _ _)

theorem arm_accounted (o : Fin 24) (j : Fin 40) (n : Nat) (c0 : Pos) (s : State) : Accounted s (arm o j n c0 s) := by
  have hlate (late : Bool) (s : State) : Accounted s (if late = true then raise .lateFire s else s) := by
    split
    · exact raise_accounted _ s
    · exact .refl s
  have hplaced (late : Bool) (f : CountedOut → CountedOut) : Accounted s
      (settleSets (if late = true then raise .lateFire (updateOut o f s) else updateOut o f s)) :=
    Accounted.trans (t := updateOut o f s) .of_same ((hlate late _).trans (settleSets_accounted _))
  unfold arm
  dsimp only
  split
  · exact missPulse_accounted raise_accounted o _ s
  · split
    · exact .refl s
    · split
      · exact hplaced _ _
      · split
        · exact (hlate _ s).trans (missPulse_accounted raise_accounted o _ _)
        · exact hplaced _ _

theorem reverseOut_accounted (s : State) (o : Fin 24) : Accounted s (reverseOut s o) := by
  unfold reverseOut
  dsimp only
  split
  · split <;> exact .of_same
  · exact .of_same

/-! ### Plans, reports and manual grades (R48, R59 to R63) -/

theorem writePlan_sawHeld {plan : PlanResult} (h : ∀ g, plan.disposition = .graded g → plan.saw.isSome) (kind : PlanKind)
    (r : Strip) : (writePlan kind plan r).SawHeld := fun g hg => h g (Option.some.inj hg)

theorem applyManual_sawHeld {r : Strip} (h : r.SawHeld) (v : ManualGrade) : (applyManual v r).SawHeld := by
  unfold applyManual
  split
  · exact h
  · exact fun g hg => manualDisposition_graded (Option.some.inj hg)

theorem writeResult_sawHeld {plan : PlanResult} (h : ∀ g, plan.disposition = .graded g → plan.saw.isSome)
    (e : Evaluation) (r : Strip) : (writeResult e plan r).SawHeld := by
  have hwritten := writePlan_sawHeld h (planKindOf e.path) r
  unfold writeResult
  dsimp only
  split
  · exact hwritten
  · split
    · exact hwritten
    · exact applyManual_sawHeld hwritten _

theorem writeDefault_accounted (n : Nat) (s : State) : Accounted s (writeDefault n s) :=
  updateStrip_accounted n s fun _ _ => writePlan_sawHeld (fun _ => defaultPlan_graded) _ _

theorem storeManual_accounted (n : Nat) (v : ManualGrade) (s : State) : Accounted s (storeManual n v s) := by
  refine updateStrip_accounted n s fun r hr => ?_
  dsimp only
  split
  · exact applyManual_sawHeld (r := { r with manualGrade := some v }) hr v
  · exact hr

theorem joinPlan_accounted (n : Nat) (s : State) : Accounted s (joinPlan n s) :=
  Accounted.trans (t := { s with planQueue := s.planQueue ++ [n] }) .of_same (updateStrip_accounted n _)

theorem startEvaluation_accounted (s : State) : Accounted s (startEvaluation s) := by
  unfold startEvaluation
  split
  · split
    · exact .of_same
    · exact Accounted.trans .of_same (updateStrip_accounted _ _)
  · exact .refl s

theorem finishEvaluation_accounted (s : State) : Accounted s (finishEvaluation s) := by
  unfold finishEvaluation
  split
  · exact .refl s
  · next e _ =>
    dsimp only
    split
    · exact .of_same
    · exact Accounted.trans .of_same
        (updateStrip_accounted _ _ fun r _ => writeResult_sawHeld (planResult_sound e _ _).graded e r)

theorem withdrawReport_accounted (s : State) (n : Nat) : Accounted s (withdrawReport s n) := by
  have hbare : Accounted s (updateStrip n withoutReport { s with planQueue := s.planQueue.filter (· != n) }) :=
    Accounted.trans .of_same (updateStrip_accounted n _)
  unfold withdrawReport
  dsimp only
  split
  · exact hbare.trans (writeDefault_accounted n _)
  · exact hbare

theorem takeReport_accounted (a : Fin 4) (n thickness : Nat) (ds : List Defect) (s : State) :
    Accounted s (takeReport a n thickness ds s) := by
  have hstored : Accounted s (updateStrip n
      (fun r => { r with thickness := some thickness, defects := some ds, reportFrom := some a }) s) :=
    updateStrip_accounted n s
  unfold takeReport
  dsimp only
  split
  · exact hstored.trans (joinPlan_accounted n _)
  · exact hstored

/-! ### The gate and the tool sets (R66 to R81) -/

theorem classifyTool_accounted (m : Fin 4) (before : ToolState) (s : State) : Accounted s (classifyTool m before s) := by
  unfold classifyTool
  dsimp only
  split
  · exact .of_same
  · split
    · exact Accounted.trans .of_same (raise_accounted _ _)
    · exact Accounted.trans .of_same (raise_accounted _ _)
    · exact .of_same

theorem addWear_accounted (m : Fin 4) (length : Option Nat) (s : State) : Accounted s (addWear m length s) := by
  unfold addWear
  split
  · exact .refl s
  · exact Accounted.trans .of_same (classifyTool_accounted _ _ _)

theorem releaseHead_accounted (m : Fin 4) (r : Strip) (s : State) : Accounted s (releaseHead m r s) := by
  have hreleased : Accounted s (updateStrip r.ticket (releasedStrip m s.tools[m]) s) := updateStrip_accounted _ s
  unfold releaseHead
  dsimp only
  exact (hreleased.still.trans (evalPermit_accounted _)).trans (addWear_accounted _ _ _)

theorem releaseTest_accounted (s : State) : Accounted s (releaseTest s) := by
  unfold releaseTest
  split
  · exact releaseHead_accounted _ _ s
  · split
    · exact Accounted.trans .of_same (raise_accounted _ _)
    · exact .refl s
  · exact .refl s

theorem unmount_accounted (s : State) : Accounted s (unmount s) := by
  unfold unmount
  split <;> exact .of_same

theorem drainTest_accounted (s : State) : Accounted s (drainTest s) := by
  have hchange (m : Fin 4) : Accounted s (completeChange m s) :=
    ((unmount_accounted s).trans (classifyTool_accounted m .unmounted _)).trans <|
      Accounted.trans .of_same ((raise_accounted .toolChanged _).trans (releaseTest_accounted _))
  unfold drainTest
  split
  · exact .refl s
  · split
    · exact hchange _
    · exact .refl s

theorem transitTest_accounted (n : Nat) (s : State) : Accounted s (transitTest n s) := by
  induction n generalizing s with
  | zero => exact .refl s
  | succ n ih =>
    unfold transitTest
    split
    · exact .refl s
    · exact (retire_accounted _ _ s).trans <| (releaseTest_accounted _).trans <| (drainTest_accounted _).trans (ih _)

/-- The worn-tool cap makes no record GRADED (R81). -/
theorem capped_graded {cap : Nat} {d : Disposition} {g : Grade} (h : capped cap d = .graded g) : ∃ k, d = .graded k := by
  cases d with
  | graded k => exact ⟨k, rfl⟩
  | hold => cases h
  | trimOut => cases h
  | rejected => cases h

theorem applyCap_sawHeld {r : Strip} (h : r.SawHeld) (cap : Nat) : (applyCap cap r).SawHeld := by
  unfold applyCap
  split
  · intro g hg
    obtain ⟨d, hd, hcapped⟩ := Option.map_eq_some_iff.1 hg
    obtain ⟨k, rfl⟩ := capped_graded hcapped
    exact h k hd
  · exact h

theorem displaceHolding_accounted (s : State) : Accounted s (displaceHolding s) := by
  unfold displaceHolding
  split
  · exact .refl s
  · exact retire_accounted _ _ s

theorem pe3Edge_accounted (s : State) : Accounted s (pe3Edge s) := by
  unfold pe3Edge
  split
  · exact raise_accounted _ s
  · next e rest _ =>
    have hheld : Accounted s { displaceHolding { s with moulder := rest } with
        holding := some e.ticket, window := getPar (displaceHolding { s with moulder := rest }) .transferWindow } :=
      (Accounted.trans .of_same (displaceHolding_accounted { s with moulder := rest })).still
    have hmatched := hheld.trans (updateStrip_accounted (f := fun r => { r with stage := .atTransfer }) e.ticket _)
    exact (hmatched.trans (updateStrip_accounted e.ticket _ fun _ hr => applyCap_sawHeld hr _)).trans <|
      (releaseTest_accounted _).trans (drainTest_accounted _)

theorem withdrawReports_accounted (a : Fin 4) (s : State) : Accounted s (withdrawReports a s) :=
  (Accounted.foldl withdrawReport_accounted _ s).trans (releaseTest_accounted _)

/-! ### The infeed queue (R26 to R35) -/

theorem doubtMeasuring_accounted (s : State) : Accounted s (doubtMeasuring s) := by
  unfold doubtMeasuring
  split
  · exact .refl s
  · exact updateStrip_accounted _ s

theorem joinInfeed_accounted (stage : Stage) {add : Strip → Strip} (s : State)
    (hadd : ∀ r, r.SawHeld → (add r).SawHeld := by exact fun _ h => h) : Accounted s (joinInfeed stage add s) :=
  (createStrip_accounted stage s hadd).still.trans (evalPermit_accounted _)

theorem pe1Leading_accounted (capture : Pos) (s : State) : Accounted s (pe1Leading capture s) := by
  unfold pe1Leading
  split
  · exact joinInfeed_accounted _ s
  · refine Accounted.trans ?_ (raise_accounted .overrun _)
    split <;> exact .of_same

theorem completeLength_sawHeld {r : Strip} (h : r.SawHeld) (cpm : Nat) (capture : Pos) :
    (completeLength cpm capture r).SawHeld := by
  rw [completeLength_eq]
  exact h

theorem pe1Trailing_accounted (capture : Pos) (s : State) : Accounted s (pe1Trailing capture s) := by
  unfold pe1Trailing
  split
  · exact .refl s
  · next n _ =>
    refine (updateStrip_accounted (f := measuredStrip s capture) n s fun _ h => completeLength_sawHeld h _ _).trans ?_
    unfold joinIfReported
    split
    · exact joinPlan_accounted n _
    · exact .refl _

theorem arriveStrip_accounted (r : Strip) (s : State) : Accounted s (arriveStrip r s) := by
  have harrived : Accounted s (arrivedState r s) := by
    refine updateStrip_accounted _ s fun q hq => ?_
    unfold arrivedStrip
    dsimp only
    split
    · exact completeLength_sawHeld hq _ _
    · exact hq
  unfold arriveStrip
  dsimp only
  split
  · exact harrived.trans (writeDefault_accounted _ _)
  · split
    · exact harrived.trans (joinPlan_accounted _ _)
    · exact harrived

theorem pe2Arrival_accounted (s : State) : Accounted s (pe2Arrival s) := by
  have hphantom : Accounted s (phantomGate s) := by
    unfold phantomGate
    dsimp only
    split
    · exact (raise_accounted .phantomGate s).trans (joinInfeed_accounted _ _ fun _ _ => placeholder_sawHeld _)
    · exact raise_accounted .phantomGate s
  unfold pe2Arrival
  refine Accounted.trans ?_ (releaseTest_accounted _)
  split
  · exact arriveStrip_accounted _ s
  · exact hphantom

/-! ### The encoders and the chain -/

theorem chPiece_accounted (d : Direction) (turns : Bool) (outputs : List (Fin 24)) (s : State) (k : Fin 3) :
    Accounted s (chPiece d turns outputs s k) := by
  match k with
  | 0 => exact settle_accounted _ _ _ s
  | 1 =>
    simp only [chPiece]
    split
    · exact Accounted.foldl reverseOut_accounted _ s
    · exact .refl s
  | 2 =>
    simp only [chPiece, chReverseEvent]
    split
    · exact Accounted.trans .of_same (raise_accounted .chainReverse _)
    · exact .refl s

theorem chCount_accounted (a b : Bool) (d : Direction) (order : CountOrder) (s : State) :
    Accounted s (chCount a b d order s) := by
  have hcounted : Accounted s (speedCount d { s with ch := countEncoder a b d s.ch }) := by cases d <;> exact .of_same
  exact hcounted.trans (Accounted.foldl (chPiece_accounted _ _ _) _ _)

theorem setPair_accounted (unit : EncUnit) (a b : Bool) (s : State) : Accounted s (setPair unit a b s) := by
  cases unit <;> exact .of_same

theorem infCount_accounted (a b : Bool) (d : Direction) (s : State) : Accounted s (infCount a b d s) := by
  unfold infCount
  extract_lets counted doubted
  have hdoubted : Accounted s doubted := by
    unfold doubted
    split
    · exact Accounted.trans (t := counted) .of_same (doubtMeasuring_accounted _)
    · exact .of_same
  split
  · exact hdoubted.still.trans (raise_accounted .infeedReverse _)
  · exact hdoubted

theorem encoderCount_accounted (unit : EncUnit) (a b : Bool) (order : CountOrder) (s : State) :
    Accounted s (encoderCount unit a b order s) := by
  unfold encoderCount
  split
  · split
    · exact setPair_accounted .inf a b s
    · exact infCount_accounted _ _ _ s
  · split
    · exact setPair_accounted .ch a b s
    · exact chCount_accounted _ _ _ _ s

theorem pitchCheck_accounted (c0 : Pos) (s : State) : Accounted s (pitchCheck c0 s) := by
  unfold pitchCheck
  split
  · exact .of_same
  · dsimp only
    split
    · exact Accounted.trans .of_same (raise_accounted .pitchFault _)
    · exact .of_same

theorem carryOver_accounted (s : State) : Accounted s (carryOver s) := by
  unfold carryOver
  split
  · exact .refl s
  · exact retire_accounted _ _ s

theorem putOnHead_accounted (n : Nat) (s : State) : Accounted s (putOnHead n s) :=
  Accounted.trans .of_same (updateStrip_accounted n _)

theorem loadPoint_accounted (s : State) : Accounted s (loadPoint s) := by
  unfold loadPoint
  split
  · exact Accounted.trans .of_same (putOnHead_accounted _ _)
  · exact (raise_accounted .phantomLug s).trans <|
      (createStrip_accounted .onLug _ fun _ _ => placeholder_sawHeld _).trans (putOnHead_accounted _ _)
  · unfold countWindow
    dsimp only
    split
    · exact Accounted.trans .of_same (retire_accounted _ _ _)
    · exact .of_same
  · exact .refl s

theorem presenceCheck_accounted (s : State) : Accounted s (presenceCheck s) := by
  unfold presenceCheck
  split
  · exact retire_accounted _ _ s
  · exact raise_accounted .phantomAtSaw s
  · exact .refl s

theorem sawArming_accounted (c0 : Pos) (s : State) : Accounted s (sawArming c0 s) := by
  unfold sawArming
  dsimp only
  split
  · split
    · exact arm_accounted _ _ _ _ s
    · exact .refl s
  · exact .refl s

theorem present_accounted (c0 : Pos) (o : Nat) (s : State) : Accounted s (present c0 o s) := by
  unfold present
  dsimp only
  split
  · exact .refl s
  · split
    · exact .refl s
    · split
      · exact arm_accounted _ _ _ _ s
      · exact .refl s

theorem advancePart_accounted (c0 : Pos) (s : State) (p : AdvancePart) : Accounted s (advancePart c0 s p) := by
  cases p with
  | piece k =>
    simp only [advancePart, advancePiece]
    split
    · exact sawArming_accounted c0 s
    · split
      · exact present_accounted c0 _ s
      · exact .refl s
  | count a b order => exact encoderCount_accounted .ch a b order s

theorem advance_accounted (c0 : Pos) (parts : List AdvancePart) (s : State) : Accounted s (advance c0 parts s) :=
  Accounted.trans .of_same <| (pitchCheck_accounted c0 _).trans <| (carryOver_accounted _).trans <|
    (loadPoint_accounted _).trans <| (presenceCheck_accounted _).trans (Accounted.foldl (advancePart_accounted c0) _ _)

theorem deliverEdge_accounted (parts : List AdvancePart) (i : Fin 6) (k : EdgeKind) (s : State) :
    Accounted s (deliverEdge parts i k s) := by
  unfold deliverEdge
  split
  · exact pe1Leading_accounted _ s
  · exact pe1Trailing_accounted _ s
  · exact pe2Arrival_accounted s
  · exact pe3Edge_accounted s
  · unfold lugEdge
    split
    · exact advance_accounted _ _ s
    · exact Accounted.trans .of_same (carryOver_accounted _)
  · exact .refl s

theorem sampleChannel_accounted (raw : BitVec 6) (parts : List AdvancePart) (s : State) (i : Fin 6) :
    Accounted s (sampleChannel raw parts s i) := by
  have hnotice : Accounted s (sampleNotice raw s i) := by
    unfold sampleNotice glitchNotice
    dsimp only
    split
    · exact Accounted.trans .of_same (doubtMeasuring_accounted _)
    · exact .of_same
  rw [sampleChannel_eq]
  split
  · exact hnotice
  · exact hnotice.trans (deliverEdge_accounted _ _ _ _)

theorem jamExpiry_accounted (i : Fin 6) (s : State) : Accounted s (jamExpiry i s) := by
  unfold jamExpiry
  dsimp only
  split
  · exact Accounted.trans .of_same (raise_accounted _ _)
  · exact .of_same

/-! ### The host commands -/

theorem paramEffect_accounted (p : Param) (s : State) : Accounted s (paramEffect p s) := by
  unfold paramEffect
  split
  · exact evalPermit_accounted s
  · exact evalPermit_accounted s
  · exact releaseTest_accounted s
  · exact transitTest_accounted _ s
  · exact Accounted.foldl (fun s l => expireWatches_accounted l _ s) _ s
  · exact .refl s

theorem setParam_accounted (code : Byte) (value : BitVec 32) (s : State) : Accounted s (setParam code value s).1 := by
  have hstored (p : Param) (v : Nat) : Accounted s (adjustOthers p (putPar p v s)) := by
    rw [stored_params]
    exact .of_same
  unfold setParam
  split
  · exact .refl s
  · dsimp only
    split
    · exact .refl s
    · exact (hstored _ _).trans (paramEffect_accounted _ _)

theorem changeLine_accounted (after : LineState) (s : State) : Accounted s (changeLine after s) :=
  (enterLine_accounted after s).trans (releaseTest_accounted _)

theorem lineStart_accounted (s : State) : Accounted s (lineStart s).1 := by
  unfold lineStart
  split
  · exact changeLine_accounted _ s
  · exact changeLine_accounted _ s
  · exact .refl s
  · exact .refl s

theorem lineHold_accounted (s : State) : Accounted s (lineHold s).1 := by
  unfold lineHold
  split
  · exact changeLine_accounted _ s
  · exact .refl s
  · exact .refl s
  · exact .refl s

theorem lineStop_accounted (s : State) : Accounted s (lineStop s).1 := by
  unfold lineStop
  split
  · exact changeLine_accounted _ s
  · exact changeLine_accounted _ s
  · exact .refl s
  · exact .refl s

theorem faultAck_accounted (s : State) : Accounted s (faultAck s).1 := by
  unfold faultAck
  split
  · split
    · exact .refl s
    · exact changeLine_accounted _ s
  · exact .refl s
  · exact .refl s
  · exact .refl s

/-- No record is left, and of the lanes the drop watch lists alone are emptied (R206). -/
theorem clearTracking_accounted (s : State) : Accounted s (clearTracking s) := by
  rw [clearTracking_eq]
  refine ⟨fun hs => ⟨fun r hr => absurd hr List.not_mem_nil, fun l b hb => hs.bundles l b ?_⟩⟩
  rw [Fin.getElem_fin, mapTable_get] at hb
  exact hb

theorem trackClear_accounted (s : State) : Accounted s (trackClear s).1 := by
  unfold trackClear
  split
  · exact (clearTracking_accounted s).trans <| (drainTest_accounted _).trans (releaseTest_accounted _)
  · exact .refl s

theorem clearEvents_accounted (bytes : List Byte) (s : State) : Accounted s (clearEvents bytes s).1 := by
  unfold clearEvents
  split
  · exact Accounted.foldl (fun _ _ => .of_same) _ s
  · exact .refl s

theorem setEventRoute_accounted (kind route masked severity : Byte) (s : State) :
    Accounted s (setEventRoute kind route masked severity s).1 := by
  unfold setEventRoute
  split <;> exact .of_same

theorem setEscalation_accounted (value : Byte) (s : State) : Accounted s (setEscalation value s).1 := by
  unfold setEscalation
  split <;> exact .of_same

theorem setOutputs_accounted (setCount : Byte) (bytes : List Byte) (s : State) :
    Accounted s (setOutputs setCount bytes s).1 := by
  have hforced (outs : Vector CountedOut 24) (pulses : Vector PulseOut 3) :
      Accounted s { s with outs := outs, pulses := pulses } := .of_same
  unfold setOutputs
  dsimp only
  split
  · exact .refl s
  · split
    · exact .refl s
    · exact hforced _ _

theorem setGrade_accounted (row enabled : Byte) (maxDensity : BitVec 16) (maxSize : Vector Byte 8) (price : Byte)
    (s : State) : Accounted s (setGrade row enabled maxDensity maxSize price s).1 := by
  unfold setGrade
  split
  · split <;> exact .of_same
  · exact .refl s

theorem setSawMap_accounted (bytes : List Byte) (s : State) : Accounted s (setSawMap bytes s).1 := by
  unfold setSawMap
  dsimp only
  split
  · exact .refl s
  · split <;> exact .of_same

theorem setFilter_accounted (channel mode : Byte) (threshold jamMs : BitVec 16) (s : State) :
    Accounted s (setFilter channel mode threshold jamMs s).1 := by
  unfold setFilter
  split <;> exact .of_same

theorem clearGlitch_accounted (channel : Byte) (s : State) : Accounted s (clearGlitch channel s).1 := by
  unfold clearGlitch
  split <;> exact .of_same

theorem regrade_accounted (ticket : Nat) (value : Byte) (s : State) : Accounted s (regrade ticket value s).1 := by
  unfold regrade
  split
  · exact .refl s
  · split
    · exact storeManual_accounted _ _ s
    · exact .refl s

theorem purge_accounted (ticket : Nat) (s : State) : Accounted s (purge ticket s).1 := by
  unfold purge
  split
  · exact .refl s
  · split
    · exact retire_accounted ticket .purged s
    · exact .refl s

theorem ejectHead_accounted (s : State) : Accounted s (ejectHead s).1 := by
  have hejected (r : Strip) : Accounted s (retire r.ticket .ejected (startPulse .eject .ejectPulseMs s)) :=
    Accounted.trans (t := startPulse .eject .ejectPulseMs s) .of_same (retire_accounted _ _ _)
  unfold ejectHead
  split
  · exact .refl s
  · split
    · exact .refl s
    · exact (hejected _).still.trans (releaseTest_accounted _)

theorem setTool_accounted (set profile width : Byte) (life : BitVec 16) (warnPct : Byte) (s : State) :
    Accounted s (setTool set profile width life warnPct s).1 := by
  unfold setTool
  split
  · exact .refl s
  · split <;> exact .of_same

theorem changeTools_accounted (set : Byte) (s : State) : Accounted s (changeTools set s).1 := by
  unfold changeTools
  split
  · exact .refl s
  · split
    · dsimp only [okay]
      exact Accounted.trans .of_same (drainTest_accounted _)
    · exact .refl s

theorem cancelChange_accounted (s : State) : Accounted s (cancelChange s).1 := by
  unfold cancelChange
  split
  · exact Accounted.trans .of_same (releaseTest_accounted _)
  · exact .refl s

theorem resetWear_accounted (set : Byte) (s : State) : Accounted s (resetWear set s).1 := by
  unfold resetWear
  split
  · exact .refl s
  · split <;> exact .of_same

theorem setLane_accounted (lane kind dropOffset grade : Byte) (minK maxK : BitVec 16) (alternate : Byte)
    (target : BitVec 16) (maxStrips : Byte) (shortMm : BitVec 16) (mixPct : Byte) (s : State) :
    Accounted s (setLane lane kind dropOffset grade minK maxK alternate target maxStrips shortMm mixPct s).1 := by
  unfold setLane
  split
  · split
    · exact .refl s
    · unfold writeLane
      dsimp only
      split
      · exact .refl s
      · split
        · exact .refl s
        · exact updateLane_accounted _ s
  · exact .refl s

theorem laneEnable_accounted (lane value : Byte) (s : State) : Accounted s (laneEnable lane value s).1 := by
  have henabled (l : Fin 8) (v : Bool) : Accounted s (setEnabled l v s) := updateLane_accounted l s
  unfold laneEnable
  split
  · next l _ _ _ =>
    unfold laneOn
    split
    · exact .refl s
    · exact (henabled _ _).trans (openBundle_accounted _ _)
    · exact (henabled _ _).trans (updateLane_accounted _ _)
    · exact henabled _ _
  · next l _ _ _ =>
    unfold laneOff
    dsimp only
    split
    · exact (henabled _ _).trans (updateLane_accounted _ _)
    · split
      · exact (henabled _ _).trans (updateLane_accounted _ _ fun _ _ => noBundle_balanced rfl)
      · exact (henabled _ _).trans (closeBundle_accounted _ _ _)
    · exact henabled _ _
  · exact .refl s

theorem forceClose_accounted (lane : Byte) (s : State) : Accounted s (forceClose lane s).1 := by
  unfold forceClose
  split
  · exact .refl s
  · split
    · exact .refl s
    · split
      · exact .refl s
      · exact closeBundle_accounted _ _ s

theorem confirmClear_accounted (lane : Byte) (s : State) : Accounted s (confirmClear lane s).1 := by
  unfold confirmClear
  split
  · exact .refl s
  · split
    · exact setCleared_accounted _ s
    · exact .refl s

theorem labelRetry_accounted (lane : Byte) (s : State) : Accounted s (labelRetry lane s).1 := by
  unfold labelRetry
  split
  · exact .refl s
  · split
    · exact .refl s
    · split
      · exact Accounted.trans .of_same (composerTest_accounted _)
      · exact .refl s

theorem labelDiscard_accounted (lane : Byte) (s : State) : Accounted s (labelDiscard lane s).1 := by
  unfold labelDiscard
  split
  · exact .refl s
  · split
    · exact .refl s
    · split
      · exact .refl s
      · exact Accounted.trans .of_same (handLabelDone_accounted _ _)

theorem portMode_accounted (mode : Byte) (s : State) : Accounted s (portMode mode s).1 := by
  have hreturned : Accounted s (returnPrinting s) := by
    unfold returnPrinting
    split <;> exact .of_same
  unfold portMode
  split
  · unfold changeMode
    split
    · exact .of_same
    · exact .of_same
    · split
      · exact Accounted.trans .of_same (composerTest_accounted _)
      · exact .refl s
    · exact .refl s
    · exact hreturned.still
    · exact hreturned.still
    · exact .refl s
    · exact .refl s
    · exact .refl s
  · exact .refl s

theorem portWrite_accounted (bytes : List Byte) (s : State) : Accounted s (portWrite bytes s).1 := by
  unfold portWrite
  split
  · exact .refl s
  · split
    · exact .refl s
    · exact Accounted.trans .of_same (startHandshake_accounted _)

/-! ### The Station Link -/

theorem beginPoll_accounted (s : State) : Accounted s (beginPoll s) := by
  unfold beginPoll
  split <;> exact .of_same

theorem pollSent_accounted (s : State) : Accounted s (pollSent s) := by
  unfold pollSent
  split
  · split
    · exact Accounted.trans .of_same (beginPoll_accounted _)
    · exact .of_same
  · exact .refl s

theorem missPoll_accounted (s : State) : Accounted s (missPoll s) := by
  unfold missPoll
  split
  · dsimp only
    refine Accounted.trans ?_ (beginPoll_accounted _)
    split
    · exact Accounted.trans .of_same (raise_accounted .stationOffline _)
    · exact .of_same
  · exact .refl s

theorem owe_accounted (a : Fin 4) (w : Answer) (s : State) : Accounted s (owe a w s) := .of_same

theorem handleRequest_accounted {execute : Fin 4 → State → Executed} (h : ∀ a s, Accounted s (execute a s).1)
    (kind reqId : Byte) (permitted : List Role) (a : Fin 4) (s : State) :
    Accounted s (handleRequest kind reqId permitted execute a s) := by
  unfold handleRequest
  split
  · exact .of_same
  · split
    · exact owe_accounted a _ s
    · exact (h a s).trans (owe_accounted a _ _)

theorem queryAt_accounted (a : Fin 4) (s : State) : Accounted s (queryAt a s).1 := by
  unfold queryAt
  split <;> exact .refl s

theorem queryTicket_accounted (ticket : Nat) (s : State) : Accounted s (queryTicket ticket s).1 := by
  unfold queryTicket
  split <;> exact .refl s

theorem scanReport_accounted (args : List Byte) (a : Fin 4) (s : State) : Accounted s (scanReport args a s).1 := by
  have hread : Accounted s (if args.length < 2 then { s with freeIndex := s.freeIndex + 1 } else s) := by
    split <;> exact .of_same
  unfold scanReport
  dsimp only
  split
  · exact hread.trans (takeReport_accounted _ _ _ _ _)
  · exact hread

theorem gradeOverride_accounted (ticket : Nat) (value : Byte) (s : State) :
    Accounted s (gradeOverride ticket value s).1 := by
  unfold gradeOverride
  split
  · exact .refl s
  · split
    · exact storeManual_accounted _ _ s
    · exact .refl s

theorem dropSeen_accounted (lane : Byte) (s : State) : Accounted s (dropSeen lane s).1 := by
  unfold dropSeen
  split
  · exact .refl s
  · split
    · exact updateLane_accounted _ s
    · exact raise_accounted .extraDrop s

theorem bundleCleared_accounted (lane : Byte) (s : State) : Accounted s (bundleCleared lane s).1 := by
  unfold bundleCleared
  split
  · exact .refl s
  · split
    · exact setCleared_accounted _ s
    · exact .refl s

theorem serveRequest_accounted (reqId : Byte) (request : Request) (a : Fin 4) (s : State) :
    Accounted s (serveRequest reqId request a s) := by
  cases request with
  | queryAt => exact handleRequest_accounted queryAt_accounted ..
  | queryTicket ticket => exact handleRequest_accounted (fun _ => queryTicket_accounted _) ..
  | scanReport args => exact handleRequest_accounted (scanReport_accounted args) ..
  | gradeOverride ticket value => exact handleRequest_accounted (fun _ => gradeOverride_accounted _ _) ..
  | dropSeen lane => exact handleRequest_accounted (fun _ => dropSeen_accounted _) ..
  | bundleCleared lane => exact handleRequest_accounted (fun _ => bundleCleared_accounted _) ..
  | unknown kind args =>
    simp only [serveRequest, handleUnknown]
    split <;> exact .of_same

theorem receive_accounted (cs : List Character) (s : State) : Accounted s (receive cs s) := by
  have hserved (body : ReplyBody) (a : Fin 4) (s : State) : Accounted s (serveReply body a s) := by
    cases body with
    | idle => exact .refl s
    | request reqId request => exact serveRequest_accounted reqId request a s
  unfold receive
  split
  · split
    · split
      · exact Accounted.trans .of_same ((hserved _ _ _).trans (beginPoll_accounted _))
      · exact .of_same
    · exact .refl s
  · exact .refl s

theorem setStation_accounted (address role : Byte) (stationPos : BitVec 16) (s : State) :
    Accounted s (setStation address role stationPos s).1 := by
  unfold setStation
  split
  · split <;> exact .of_same
  · exact .refl s

theorem abandonPoll_accounted (a : Fin 4) (s : State) : Accounted s (abandonPoll a s) := by
  unfold abandonPoll
  split
  · split <;> exact .of_same
  · split
    · exact Accounted.trans .of_same (beginPoll_accounted _)
    · exact .refl s
  · exact .refl s

theorem stationEnable_accounted (address value : Byte) (s : State) : Accounted s (stationEnable address value s).1 := by
  unfold stationEnable
  split
  · simp only [okay, stationOn]
    split
    · exact Accounted.trans .of_same (beginPoll_accounted _)
    · exact .refl s
  · simp only [okay, stationOff]
    split
    · exact .refl s
    · exact Accounted.trans .of_same ((abandonPoll_accounted _ _).trans (withdrawReports_accounted _ _))
  · exact .refl s

/-! ### Every command -/

/-- Whatever next state a command answers, the accounts stay as they should be. -/
structure AccountedNext (s : State) (o : Host.Outcome State Fault Refusal) : Prop where
  accounted : ∀ t, o = .next t → Accounted s t

theorem Accounted.next (h : Accounted s t) : AccountedNext s (.next t) := by
  refine ⟨?_⟩
  rintro _ ⟨⟩
  exact h

/-- A command that acts while RESET is released, or on a condition (logs 2, 12). -/
theorem Accounted.nextIf {c : Prop} [Decidable c] (h : Accounted s t) (g : Accounted s u) :
    AccountedNext s (.next (if c then t else u)) := by
  split
  · exact h.next
  · exact g.next

/-- A transaction does to the accounts what its frame sets off (R201, R202). -/
theorem hostFrame_accounted {body : State → State} (h : ∀ s, Accounted s (body s)) (x : Xfer) (code : Byte)
    (args : List Byte) (s : State) : AccountedNext s (hostFrame x code args body s) := by
  have hended : Accounted s (afterTransfer x code args s) := .of_same
  refine Accounted.nextIf .of_same ?_
  dsimp only
  split
  · exact hended.still
  · split
    · exact hended.still
    · exact hended.trans (h _)

theorem hostCommand_accounted {run : State → Answered} (h : ∀ s, Accounted s (run s).1) (x : Xfer) (code : Byte)
    (args : List Byte) (s : State) : AccountedNext s (hostCommand x code args run s) :=
  hostFrame_accounted (fun s => (h s).still) x code args s

theorem hostRead_accounted {run : State → Answered} (h : ∀ s, (run s).1 = s) (x : Xfer) (code : Byte)
    (args : List Byte) (s : State) : AccountedNext s (hostCommand x code args run s) :=
  hostCommand_accounted (fun s => by rw [h s]; exact .refl s) x code args s

theorem linkCommand_accounted {act : State → State} (h : ∀ s, Accounted s (act s)) (s : State) :
    AccountedNext s (linkCommand act s) := Accounted.nextIf (.refl s) (h s)

theorem execRequest_accounted (reply : Reply) (request : Request) (s : State) :
    AccountedNext s (execRequest reply request s) := linkCommand_accounted (receive_accounted _) s

theorem execPbusyChange_accounted (high : Bool) (s : State) : AccountedNext s (execPbusyChange high s) := by
  refine Accounted.nextIf .of_same ?_
  split
  · exact .refl s
  · exact Accounted.trans .of_same (busyEdge_accounted _ _)

theorem execPfaultChange_accounted (asserted : Bool) (s : State) : AccountedNext s (execPfaultChange asserted s) := by
  refine Accounted.nextIf .of_same ?_
  split
  · exact .refl s
  · split
    · exact Accounted.trans .of_same (faultAsserted_accounted _)
    · exact Accounted.trans .of_same (faultCleared_accounted _)

theorem execReplyTimerExpiry_accounted (s : State) : AccountedNext s (execReplyTimerExpiry s) := by
  refine linkCommand_accounted (fun s => ?_) s
  split
  · exact missPoll_accounted s
  · exact .refl s

theorem execTransactionBegin_accounted (s : State) : AccountedNext s (execTransactionBegin s) := by
  refine Accounted.nextIf (.refl s) ?_
  split <;> exact .of_same

theorem execBadFrame_accounted (mosi : List Byte) (s : State) : AccountedNext s (execBadFrame mosi s) := by
  unfold execBadFrame
  split
  · exact Accounted.next .of_same
  · split
    · exact Accounted.next .of_same
    · dsimp only
      split
      · exact Accounted.next .of_same
      · exact ⟨fun _ hrefused => by cases hrefused⟩

/-- After a reset there is no record and no bundle (R204, R205). -/
theorem resetBlocks_accounted (cmd : CommandPort) (s : State) : Accounted s (resetBlocks cmd s) := by
  have hreset : Accounted State.reset (resetBlocks cmd s) := by
    unfold resetBlocks
    dsimp only
    split
    · exact Accounted.trans .of_same (raise_accounted _ _)
    · exact .of_same
  exact ⟨fun _ => hreset.accounts reset_accounts⟩

theorem tick_accounted (s : State) : Accounted s (tick s) := by
  have hticked : Accounted s (usTick s) := by
    by_cases h : 999 ≤ s.usPhase
    · rw [usTick_moves h, msTick_eq]
      exact .of_same
    · rw [usTick_between h]
      exact .of_same
  unfold tick
  split
  · exact .refl s
  · exact hticked.still

theorem exec_accounted (c : Instr) (s : State) : AccountedNext s (exec c s) := by
  cases c with
  | sampleTick raw order =>
    exact Accounted.nextIf (.refl s) (Accounted.foldl (sampleChannel_accounted raw order.parts) _ s)
  | jamTimerExpiry i => exact Accounted.nextIf (jamExpiry_accounted i s) (.refl s)
  | encoderCount unit a b order =>
    exact Accounted.nextIf (setPair_accounted unit a b s) (encoderCount_accounted unit a b order s)
  | speedStallTimeout => exact Accounted.nextIf .of_same (.refl s)
  | timePulseExpiry p => exact Accounted.nextIf .of_same (.refl s)
  | gapTimerExpiry => exact Accounted.nextIf (Accounted.trans .of_same (releaseTest_accounted _)) (.refl s)
  | moulderTransitExpiry => exact Accounted.nextIf (.refl s) (transitTest_accounted _ s)
  | evaluationStart => exact Accounted.nextIf (.refl s) (startEvaluation_accounted s)
  | evaluationCompletion =>
    exact Accounted.nextIf ((finishEvaluation_accounted s).trans (releaseTest_accounted _)) (.refl s)
  | dropWatchExpiry l => exact Accounted.nextIf (expireWatch_accounted l s) (.refl s)
  | strobeEnd => exact Accounted.nextIf (endStrobe_accounted s) (.refl s)
  | pbusyChange high => exact execPbusyChange_accounted high s
  | pfaultChange asserted => exact execPfaultChange_accounted asserted s
  | handshakeTimeout => exact Accounted.nextIf (portTimeout_accounted s) (.refl s)
  | pollSent => exact linkCommand_accounted pollSent_accounted s
  | idleReply arrival => exact linkCommand_accounted (receive_accounted _) s
  | replyTimerExpiry => exact execReplyTimerExpiry_accounted s
  | queryAt reply => exact execRequest_accounted ..
  | queryTicket reply ticket => exact execRequest_accounted ..
  | scanReport reply args => exact execRequest_accounted ..
  | gradeOverride reply ticket value => exact execRequest_accounted ..
  | dropSeen reply lane => exact execRequest_accounted ..
  | bundleCleared reply lane => exact execRequest_accounted ..
  | unknownRequest reply kind args => exact execRequest_accounted ..
  | transactionBegin => exact execTransactionBegin_accounted s
  | emptyTransaction clocks => exact Accounted.nextIf .of_same .of_same
  | badFrame mosi => exact execBadFrame_accounted mosi s
  | resetAssert => exact Accounted.next .of_same
  | powerOnReset => exact (resetBlocks_accounted _ s).next
  | nop x => exact hostFrame_accounted .refl ..
  | lineStart x => exact hostCommand_accounted lineStart_accounted ..
  | lineHold x => exact hostCommand_accounted lineHold_accounted ..
  | lineStop x => exact hostCommand_accounted lineStop_accounted ..
  | faultAck x => exact hostCommand_accounted faultAck_accounted ..
  | softReset x => exact hostFrame_accounted (resetBlocks_accounted _) ..
  | trackClear x => exact hostCommand_accounted trackClear_accounted ..
  | setParam x code value => exact hostCommand_accounted (setParam_accounted code value) ..
  | getParam x code => exact hostRead_accounted (getParam_same code) ..
  | setGrade => exact hostCommand_accounted (setGrade_accounted _ _ _ _ _) ..
  | getGrade x row => exact hostRead_accounted (getGrade_same row) ..
  | setWeights x weights => exact hostCommand_accounted (fun _ => .of_same) ..
  | setSawMap x count bytes => exact hostCommand_accounted (setSawMap_accounted bytes) ..
  | setLane => exact hostCommand_accounted (setLane_accounted _ _ _ _ _ _ _ _ _ _ _) ..
  | getLane x lane => exact hostRead_accounted (getLane_same lane) ..
  | setFilter x channel mode threshold jamMs =>
    exact hostCommand_accounted (setFilter_accounted channel mode threshold jamMs) ..
  | setLot x lot species => exact hostCommand_accounted (fun _ => .of_same) ..
  | setStation x address role stationPos => exact hostCommand_accounted (setStation_accounted address role stationPos) ..
  | clearGlitch x channel => exact hostCommand_accounted (clearGlitch_accounted channel) ..
  | readStrip x ticket => exact hostRead_accounted (readStrip_same _) ..
  | listQueue x place => exact hostRead_accounted (listQueue_same place) ..
  | readLug x lug => exact hostRead_accounted (readLug_same lug) ..
  | regrade x ticket value => exact hostCommand_accounted (regrade_accounted _ value) ..
  | purge x ticket => exact hostCommand_accounted (purge_accounted _) ..
  | ejectHead x => exact hostCommand_accounted ejectHead_accounted ..
  | setTool x set profile width life warnPct =>
    exact hostCommand_accounted (setTool_accounted set profile width life warnPct) ..
  | readTool x set => exact hostRead_accounted (readTool_same set) ..
  | changeTools x set => exact hostCommand_accounted (changeTools_accounted set) ..
  | cancelChange x => exact hostCommand_accounted cancelChange_accounted ..
  | resetWear x set => exact hostCommand_accounted (resetWear_accounted set) ..
  | readBundle x lane => exact hostRead_accounted (readBundle_same lane) ..
  | forceClose x lane => exact hostCommand_accounted (forceClose_accounted lane) ..
  | laneEnable x lane value => exact hostCommand_accounted (laneEnable_accounted lane value) ..
  | confirmClear x lane => exact hostCommand_accounted (confirmClear_accounted lane) ..
  | readLabel x lane => exact hostRead_accounted (readLabel_same lane) ..
  | labelRetry x lane => exact hostCommand_accounted (labelRetry_accounted lane) ..
  | labelDiscard x lane => exact hostCommand_accounted (labelDiscard_accounted lane) ..
  | portMode x mode => exact hostCommand_accounted (portMode_accounted mode) ..
  | portWrite x count bytes => exact hostCommand_accounted (portWrite_accounted bytes) ..
  | portStatus x => exact hostRead_accounted (fun _ => rfl) ..
  | readEvents x => exact hostRead_accounted (fun _ => rfl) ..
  | clearEvents x count bytes => exact hostCommand_accounted (clearEvents_accounted bytes) ..
  | setEventRoute x kind route masked severity =>
    exact hostCommand_accounted (setEventRoute_accounted kind route masked severity) ..
  | setEscalation x value => exact hostCommand_accounted (setEscalation_accounted value) ..
  | setOutputs x setCount bytes => exact hostCommand_accounted (setOutputs_accounted setCount bytes) ..
  | readIo x => exact hostRead_accounted (fun _ => rfl) ..
  | stationEnable x address value => exact hostCommand_accounted (stationEnable_accounted address value) ..
  | readStation x address => exact hostRead_accounted (readStation_same address) ..

theorem step_accounted (s : State) : AccountedNext s (step s) := by
  unfold step
  split
  · next c rest _ =>
    have hpop : Accounted s { s with pending := rest } := .of_same
    exact ⟨fun t ht => hpop.trans ((exec_accounted c _).accounted t ht)⟩
  · exact (tick_accounted s).next

end Sys2Proof.Machine

section

open Sys2Proof Sys2Proof.Machine

/-- Settles O60, by what each operation does to the accounts. -/
theorem everyStepKeepsTheAccounts : Obligations.EveryStepKeepsTheAccounts :=
  fun s t hs hstep => ((step_accounted s).accounted t hstep).accounts hs

end

/-! PROOFS. Evaluations (R47 to R49, R62), scan reports (R43, R44), manual grades (R59, R62, R63). -/

namespace Sys2Proof.Machine

open Sys2Proof

set_option Elab.async false

variable {s t u : State} {x : Xfer}

/-! ### Evaluations (R47, R48) -/

theorem findStrip_ticket {n : Nat} {r : Strip} (h : findStrip n s = some r) : r.ticket = n := by
  simpa using List.find?_some h

theorem exec_evaluationStart (h : s.resetHeld = false) : exec .evaluationStart s = .next (startEvaluation s) := by
  show Host.Outcome.next _ = _
  rw [h]
  rfl

theorem exec_evaluationCompletion (h : s.resetHeld = false) (hbusy : s.engine.isSome) :
    exec .evaluationCompletion s = .next (releaseTest (finishEvaluation s)) := by
  show Host.Outcome.next _ = _
  rw [h, hbusy]
  rfl

theorem startEvaluation_head {n : Nat} {rest : List Nat} {r : Strip} (hidle : s.engine = none)
    (hqueue : s.planQueue = n :: rest) (hfind : findStrip n s = some r) :
    startEvaluation s = updateStrip n (fun q => { q with plan := .running })
      { s with planQueue := rest, engine := some (copyInputs s r) } := by
  simp only [startEvaluation, hidle, hqueue, hfind]

theorem startEvaluation_busy (h : s.engine.isSome) : startEvaluation s = s := by
  obtain ⟨e, he⟩ := Option.isSome_iff_exists.1 h
  simp only [startEvaluation, he]

theorem startEvaluation_empty (h : s.planQueue = []) : startEvaluation s = s := by
  cases he : s.engine <;> simp only [startEvaluation, he, h]

theorem evaluationsStart : Claims.EvaluationsStart := by
  refine ⟨fun s n rest r hreset hidle hqueue hfind => ?_, fun s hreset hstays => ?_⟩
  · rw [exec_evaluationStart hreset, startEvaluation_head hidle hqueue hfind, copyInputs, findStrip_ticket hfind]
    rfl
  · rw [exec_evaluationStart hreset]
    exact congrArg _ (hstays.elim startEvaluation_busy startEvaluation_empty)

theorem finishEvaluation_discarded {e : Evaluation} (he : s.engine = some e) (h : e.discard = true) :
    finishEvaluation s = { s with engine := none } := by
  simp only [finishEvaluation, he, h, if_true]

theorem finishEvaluation_written {e : Evaluation} (he : s.engine = some e) (h : e.discard = false) :
    finishEvaluation s =
      updateStrip e.current (writeResult e (planResult e s.grades s.sawMap)) { s with engine := none } := by
  simp only [finishEvaluation, he, h, Bool.false_eq_true, if_false]

theorem applyManual_missed {r : Strip} (h : r.missedCut = true) (v : ManualGrade) : applyManual v r = r := if_pos h

theorem applyManual_made {r : Strip} (h : r.missedCut = false) (v : ManualGrade) :
    applyManual v r = { r with disposition := some (manualDisposition r.saw.isSome v) } := by
  simp only [applyManual, h, Bool.false_eq_true, if_false]

theorem applyManual_ticket (v : ManualGrade) (r : Strip) : (applyManual v r).ticket = r.ticket := by
  unfold applyManual
  split <;> rfl

theorem writeResult_ticket (e : Evaluation) (plan : PlanResult) (r : Strip) : (writeResult e plan r).ticket = r.ticket := by
  unfold writeResult
  dsimp only
  split
  · rfl
  · split
    · rfl
    · exact applyManual_ticket _ _

theorem planKindOf_eq (path : PlanPath) : planKindOf path = if path = .default then .default else .computed := by
  cases path <;> rfl

/-- No manual grade stored meanwhile, or a missed cut: the record takes the plan as it is (R48, R62). -/
theorem writeResult_kept {e : Evaluation} {r : Strip}
    (h : ∀ v, r.manualGrade = some v → some v = e.manualGrade ∨ r.missedCut = true) (plan : PlanResult) :
    writeResult e plan r = writePlan (planKindOf e.path) plan r := by
  unfold writeResult
  dsimp only
  split
  · rfl
  · next v hv =>
    split
    · rfl
    · next hnew => exact applyManual_missed (r := writePlan _ plan r) ((h v hv).resolve_left hnew) v

/-- A manual grade stored meanwhile sets the disposition (R62). -/
theorem writeResult_regraded {e : Evaluation} {r : Strip} {v : ManualGrade} (hv : r.manualGrade = some v)
    (hnew : some v ≠ e.manualGrade) (hmade : r.missedCut = false) (plan : PlanResult) :
    writeResult e plan r = { writePlan (planKindOf e.path) plan r with
      disposition := some (manualDisposition plan.saw.isSome v) } := by
  have hmanual : (writePlan (planKindOf e.path) plan r).manualGrade = some v := hv
  unfold writeResult
  simp only [hmanual, if_neg hnew]
  exact (applyManual_made (r := writePlan _ plan r) hmade v).trans (by rw [hmanual]; rfl)

theorem evaluationsComplete : Claims.EvaluationsComplete := by
  intro s e hreset he
  refine ⟨finishEvaluation s, exec_evaluationCompletion hreset (by rw [he]; rfl), ?_, fun hdiscard => ?_,
    fun hdiscard n => ?_⟩
  · cases hdiscard : e.discard with
    | true => rw [finishEvaluation_discarded he hdiscard]
    | false => rw [finishEvaluation_written he hdiscard]; rfl
  · rw [finishEvaluation_discarded he hdiscard]
  · rw [finishEvaluation_written he hdiscard, findStrip_updateStrip (writeResult_ticket e _)]
    have hfind : findStrip n { s with engine := none } = findStrip n s := rfl
    rw [hfind]
    congr 1
    funext r
    split
    · dsimp only
      rw [← planKindOf_eq]
      split
      · next hnone => exact writeResult_kept (fun v hv => by cases hnone.symm.trans hv) _
      · next v hv =>
        split
        · next hkeeps => exact writeResult_kept (fun w hw => Option.some.inj (hv.symm.trans hw) ▸ hkeeps) _
        · next hnew =>
          obtain ⟨hnew, hmade⟩ := not_or.1 hnew
          exact writeResult_regraded hv hnew (Bool.eq_false_of_not_eq_true hmade) _
    · rfl

/-! ### Scan reports (R43, R44) -/

section report

variable {a : Fin 4} {t1 t0 : Byte} {rest : List Byte} {r : Strip}

/-- A report that names a ticket reads no free value (log 11): its answer is that of its checks, and what it carries is
stored. -/
theorem scanReport_named (t1 t0 : Byte) (rest : List Byte) (a : Fin 4) (s : State) :
    scanReport (t1 :: t0 :: rest) a s =
      match (checkReport (t1 :: t0 :: rest) s).2 with
      | some (n, thickness, ds) => (takeReport a n thickness ds s, (checkReport (t1 :: t0 :: rest) s).1, [])
      | none => (s, (checkReport (t1 :: t0 :: rest) s).1, []) := by
  have hlong : ¬ (t1 :: t0 :: rest).length < 2 := by simp
  unfold scanReport
  simp only [if_neg hlong] <;> rfl

theorem scanReport_refused {result : Result} (h : checkReport (t1 :: t0 :: rest) s = (result, none)) :
    scanReport (t1 :: t0 :: rest) a s = (s, result, []) := by
  rw [scanReport_named, h]

theorem scanReport_taken {n thickness : Nat} {ds : List Defect}
    (h : checkReport (t1 :: t0 :: rest) s = (.taken, some (n, thickness, ds))) :
    scanReport (t1 :: t0 :: rest) a s = (takeReport a n thickness ds s, .taken, []) := by
  rw [scanReport_named, h]

theorem checkReport_notFound (h : findStrip (t1.toNat * 256 + t0.toNat) s = none) :
    checkReport (t1 :: t0 :: rest) s = (.notFound, none) := by
  simp only [checkReport, word16, h]

/-- The rows of R43 after the first, for a live record. -/
theorem checkReport_found (h : findStrip (t1.toNat * 256 + t0.toNat) s = some r) :
    checkReport (t1 :: t0 :: rest) s =
      if r.stage ≠ .measuring ∧ r.stage ≠ .infeed then (.tooLate, none)
      else if r.reportFrom.isSome then (.already, none)
      else match rest with
        | th :: n :: bytes =>
          if 15 < th.toNat ∨ 24 < n.toNat then (.badReport, none)
          else match defectsOf n.toNat bytes with
            | none => (.badReport, none)
            | some ds => (.taken, some (r.ticket, th.toNat, ds))
        | _ => (.badReport, none) := by
  simp only [checkReport, word16, h] <;> rfl

/-! ### Defect entries (R43 row 4, R212) -/

/-- The six bytes of a defect entry (R212). -/
def entryBytes (d : Defect) : List Byte :=
  [BitVec.ofNat 8 (kindIdx d.kind).val, BitVec.ofNat 8 (d.start / 256), BitVec.ofNat 8 d.start,
   BitVec.ofNat 8 (d.stop / 256), BitVec.ofNat 8 d.stop, BitVec.ofNat 8 d.size]

/-- A defect entry is well formed: START at most END, END at most 4,095, SIZE 1 to 255 (R43 row 4). -/
def Defect.WellFormed (d : Defect) : Prop := d.start ≤ d.stop ∧ d.stop ≤ 4095 ∧ 1 ≤ d.size ∧ d.size ≤ 255

theorem kindByte_of {b : Byte} {k : DefectKind} (h : enumOf defectKinds b = some k) :
    b = BitVec.ofNat 8 (kindIdx k).val := by
  revert h; revert k; revert b; decide

theorem enumOf_kindByte (k : DefectKind) : enumOf defectKinds (BitVec.ofNat 8 (kindIdx k).val) = some k := by
  cases k <;> rfl

/-- A number of two bytes is read from the bytes that carry it. -/
theorem word16_eq_iff {hi lo : Byte} {n : Nat} (h : n ≤ 65535) :
    word16 hi lo = n ↔ hi = BitVec.ofNat 8 (n / 256) ∧ lo = BitVec.ofNat 8 n := by
  have hhi := hi.isLt
  have hlo := lo.isLt
  simp only [word16, BitVec.toNat_eq, BitVec.toNat_ofNat]
  omega

theorem defectOf_eq_some {bytes : List Byte} {d : Defect} :
    defectOf bytes = some d ↔ d.WellFormed ∧ bytes = entryBytes d := by
  constructor
  · intro h
    unfold defectOf at h
    split at h
    · next k s1 s0 e1 e0 z =>
      split at h
      · cases h
      · next kind hkind =>
        dsimp only at h
        split_ifs at h with hfits
        obtain ⟨hstart, hstop, hsize, horder⟩ := hfits
        have hz : z = BitVec.ofNat 8 z.toNat := by simp
        obtain ⟨hs1, hs0⟩ := (word16_eq_iff (hi := s1) (lo := s0) (by omega)).1 rfl
        obtain ⟨he1, he0⟩ := (word16_eq_iff (hi := e1) (lo := e0) (by omega)).1 rfl
        rw [← Option.some.inj h]
        refine ⟨⟨horder, hstop, hsize, Nat.le_of_lt_succ z.isLt⟩, ?_⟩
        simp only [entryBytes, ← hs1, ← hs0, ← he1, ← he0, ← hz, ← kindByte_of hkind]
    · cases h
  · rintro ⟨⟨horder, hstop, hsize, hmost⟩, rfl⟩
    have hstart : word16 (BitVec.ofNat 8 (d.start / 256)) (BitVec.ofNat 8 d.start) = d.start :=
      (word16_eq_iff (by omega)).2 ⟨rfl, rfl⟩
    have hstop' : word16 (BitVec.ofNat 8 (d.stop / 256)) (BitVec.ofNat 8 d.stop) = d.stop :=
      (word16_eq_iff (by omega)).2 ⟨rfl, rfl⟩
    have hsize' : (BitVec.ofNat 8 d.size).toNat = d.size := by
      rw [BitVec.toNat_ofNat]
      omega
    simp only [defectOf, entryBytes, enumOf_kindByte, hstart, hstop', hsize']
    exact if_pos ⟨by omega, hstop, hsize, horder⟩

theorem defectsOf_succ {n : Nat} {bytes : List Byte} {ds : List Defect} :
    defectsOf (n + 1) bytes = some ds ↔
      ∃ d rest, ds = d :: rest ∧ defectOf (bytes.take 6) = some d ∧ defectsOf n (bytes.drop 6) = some rest := by
  simp only [defectsOf]
  split
  · next d rest hd hrest =>
    simp only [hd, hrest, Option.some.injEq]
    constructor
    · rintro rfl
      exact ⟨d, rest, rfl, rfl, rfl⟩
    · rintro ⟨_, _, rfl, rfl, rfl⟩
      rfl
  · next hbad =>
    refine ⟨fun h => (by cases h), ?_⟩
    rintro ⟨d, rest, -, hd, hrest⟩
    exact absurd hrest (hbad d rest hd)

theorem defectsOf_eq_some {n : Nat} {bytes : List Byte} {ds : List Defect} :
    defectsOf n bytes = some ds ↔
      ds.length = n ∧ (∀ d ∈ ds, d.WellFormed) ∧ bytes = ds.flatMap entryBytes := by
  induction n generalizing bytes ds with
  | zero =>
    cases bytes <;> cases ds <;> simp [defectsOf, entryBytes]
  | succ n ih =>
    rw [defectsOf_succ]
    constructor
    · rintro ⟨d, rest, rfl, hd, hrest⟩
      obtain ⟨hwell, htake⟩ := defectOf_eq_some.1 hd
      obtain ⟨hlength, hall, hdrop⟩ := ih.1 hrest
      refine ⟨by simp [hlength], List.forall_mem_cons.2 ⟨hwell, hall⟩, ?_⟩
      rw [List.flatMap_cons, ← htake, ← hdrop, List.take_append_drop]
    · rintro ⟨hlength, hall, rfl⟩
      cases ds with
      | nil => cases hlength
      | cons d rest =>
        obtain ⟨hwell, hrest⟩ := List.forall_mem_cons.1 hall
        exact ⟨d, rest, rfl, defectOf_eq_some.2 ⟨hwell, rfl⟩, ih.2 ⟨Nat.succ.inj hlength, hrest, rfl⟩⟩

theorem defectsOf_length {n : Nat} {bytes : List Byte} {ds : List Defect} (h : defectsOf n bytes = some ds) :
    bytes.length = 6 * n := by
  obtain ⟨rfl, -, rfl⟩ := defectsOf_eq_some.1 h
  have hsix : ∀ d ∈ ds, (entryBytes d).length = 6 := fun _ _ => rfl
  rw [List.length_flatMap, List.map_congr_left hsix]
  simp [mul_comm]

theorem defectEntriesAreChecked : Claims.DefectEntriesAreChecked := fun _ _ _ => defectsOf_eq_some

/-! ### What a report stores (R44) -/

/-- The record with its report (R44). -/
def reportedStrip (a : Fin 4) (thickness : Nat) (ds : List Defect) (r : Strip) : Strip :=
  { r with thickness := some thickness, defects := some ds, reportFrom := some a }

theorem reportedStrip_ticket (a : Fin 4) (thickness : Nat) (ds : List Defect) (r : Strip) :
    (reportedStrip a thickness ds r).ticket = r.ticket := rfl

/-- A report is stored, and a record in INFEED joins the plan queue (R44, R46). -/
theorem takeReport_eq {n : Nat} (h : findStrip n s = some r) (thickness : Nat) (ds : List Defect) :
    takeReport a n thickness ds s =
      if r.stage = .infeed then joinPlan n (updateStrip n (reportedStrip a thickness ds) s)
      else updateStrip n (reportedStrip a thickness ds) s := by
  have hstored : findStrip n (updateStrip n (reportedStrip a thickness ds) s) = some (reportedStrip a thickness ds r) :=
    findStrip_updateStrip_same (reportedStrip_ticket a thickness ds) h
  have hany : (findStrip n (updateStrip n (reportedStrip a thickness ds) s)).any (fun r => r.stage == .infeed) =
      decide (r.stage = .infeed) := by
    rw [hstored]
    rfl
  unfold takeReport
  dsimp only
  exact (if_congr (by rw [← decide_eq_true_iff (p := r.stage = .infeed), ← hany]; rfl) rfl rfl)

theorem takenReport {n : Nat} (h : findStrip n s = some r) (thickness : Nat) (ds : List Defect) :
    findStrip n (takeReport a n thickness ds s) =
        some { reportedStrip a thickness ds r with plan := if r.stage = .infeed then .pending else r.plan } ∧
      (takeReport a n thickness ds s).planQueue = (if r.stage = .infeed then s.planQueue ++ [n] else s.planQueue) ∧
      takeReport a n thickness ds s = { s with strips := (takeReport a n thickness ds s).strips,
                                               planQueue := (takeReport a n thickness ds s).planQueue } ∧
      ∀ m, m ≠ n → findStrip m (takeReport a n thickness ds s) = findStrip m s := by
  have hstored : findStrip n (updateStrip n (reportedStrip a thickness ds) s) = some (reportedStrip a thickness ds r) :=
    findStrip_updateStrip_same (reportedStrip_ticket a thickness ds) h
  have hothers (m : Nat) (hm : m ≠ n) : findStrip m (updateStrip n (reportedStrip a thickness ds) s) = findStrip m s :=
    findStrip_updateStrip_other (reportedStrip_ticket a thickness ds) hm s
  rw [takeReport_eq h]
  by_cases hstage : r.stage = .infeed
  · simp only [if_pos hstage]
    exact ⟨findStrip_joinPlan_same hstored, rfl, rfl, fun m hm => (findStrip_joinPlan_other hm _).trans (hothers m hm)⟩
  · simp only [if_neg hstage]
    exact ⟨hstored, rfl, rfl, hothers⟩

theorem scanReportsAreChecked : Claims.ScanReportsAreChecked := by
  intro a t1 t0 rest s n e
  have hrefused {result : Result} (h : checkReport (t1 :: t0 :: rest) s = (result, none)) : e = (s, result, []) :=
    scanReport_refused h
  refine ⟨fun hnone => hrefused (checkReport_notFound hnone), fun r hr => ?_⟩
  have hcheck := checkReport_found (rest := rest) hr
  refine ⟨fun hmeasuring hinfeed => hrefused ?_, fun hstage hreport => hrefused ?_, fun hstage hreport hshort => hrefused ?_,
    fun hstage hreport thickness count entries hrest => ?_⟩
  · rw [hcheck, if_pos ⟨hmeasuring, hinfeed⟩]
  · rw [hcheck, if_neg (by tauto), if_pos hreport]
  · rw [hcheck, if_neg (by tauto), if_neg (by simp [hreport])]
    match rest, hshort with
    | [], _ => rfl
    | [_], _ => rfl
  · subst hrest
    rw [if_neg (by tauto), if_neg (by simp [hreport])] at hcheck
    dsimp only at hcheck
    have hbad (hnone : defectsOf count.toNat entries = none) : e = (s, .badReport, []) := by
      refine hrefused ?_
      rw [hcheck, hnone]
      exact ite_self _
    refine ⟨fun hbounds => ?_, hbad, fun ds hthick hcount hds => ?_⟩
    · rcases or_assoc.2 hbounds with hrange | hlength
      · exact hrefused (hcheck.trans (if_pos hrange))
      · exact hbad (Option.eq_none_iff_forall_ne_some.2 fun ds hds => hlength (defectsOf_length hds))
    · have htaken : e = (takeReport a n thickness.toNat ds s, .taken, []) := by
        refine scanReport_taken ?_
        rw [hcheck, if_neg (by omega), hds, findStrip_ticket hr]
      rw [htaken]
      obtain ⟨hrecord, hqueue, hframe, hothers⟩ := takenReport (a := a) hr thickness.toNat ds
      exact ⟨rfl, hrecord, hframe, hqueue, hothers⟩

end report

/-! ### Manual grades (R59, R62, R63) -/

theorem isLive_eq (n : Nat) (s : State) : isLive n s = (findStrip n s).isSome := by
  exact List.isSome_find?.symm

/-- The record with a manual grade, its disposition following with PLAN DONE (R62, R63). -/
def regradedStrip (v : ManualGrade) (r : Strip) : Strip :=
  match r.plan with
  | .done _ => applyManual v { r with manualGrade := some v }
  | _ => { r with manualGrade := some v }

theorem storeManual_eq (n : Nat) (v : ManualGrade) (s : State) :
    storeManual n v s = updateStrip n (regradedStrip v) s := rfl

theorem regradedStrip_done {v : ManualGrade} {r : Strip} {k : PlanKind} (h : r.plan = .done k) :
    regradedStrip v r = applyManual v { r with manualGrade := some v } := by
  simp only [regradedStrip, h]

theorem regradedStrip_undone {v : ManualGrade} {r : Strip} (h : ∀ k, r.plan ≠ .done k) :
    regradedStrip v r = { r with manualGrade := some v } := by
  unfold regradedStrip
  split
  · next k hk => exact absurd hk (h k)
  · rfl

theorem regradedStrip_missed {v : ManualGrade} {r : Strip} (h : r.missedCut = true) :
    regradedStrip v r = { r with manualGrade := some v } := by
  unfold regradedStrip
  split
  · exact applyManual_missed (r := { r with manualGrade := some v }) h v
  · rfl

/-- A manual grade changes MANUAL_GRADE and DISPOSITION of its record alone. -/
theorem regradedStrip_changes (v : ManualGrade) (r : Strip) :
    regradedStrip v r = { r with manualGrade := some v, disposition := (regradedStrip v r).disposition } := by
  unfold regradedStrip applyManual
  split
  · split <;> rfl
  · rfl

theorem regradedStrip_ticket (v : ManualGrade) (r : Strip) : (regradedStrip v r).ticket = r.ticket := by
  rw [regradedStrip_changes]

theorem regrade_bad {n : Nat} {value : Byte} (h : manualGradeOf value = none) :
    regrade n value s = refuse .badArgument s := by
  simp only [regrade, h]

theorem regrade_notFound {n : Nat} {value : Byte} (h : manualGradeOf value ≠ none) (hnone : findStrip n s = none) :
    regrade n value s = refuse .notFound s := by
  obtain ⟨v, hv⟩ := Option.ne_none_iff_exists'.1 h
  simp [regrade, hv, isLive_eq, hnone]

theorem regrade_stored {n : Nat} {value : Byte} {v : ManualGrade} {r : Strip} (hv : manualGradeOf value = some v)
    (hr : findStrip n s = some r) : regrade n value s = okay (updateStrip n (regradedStrip v) s) := by
  simp [regrade, hv, isLive_eq, hr, storeManual_eq]

end Sys2Proof.Machine

section

open Sys2Proof Sys2Proof.Machine

/-- Settles O22, by the start and the completion of an evaluation. -/
theorem evaluationsRun : Obligations.EvaluationsRun := ⟨evaluationsStart, evaluationsComplete⟩

/-- Settles O23, by the rows of R43 in their order and the bytes of the entries. -/
theorem reportsAreChecked : Obligations.ReportsAreChecked := ⟨scanReportsAreChecked, defectEntriesAreChecked⟩

/-- Settles O24: the refusals by the value and the ticket, the store by the record it leaves. -/
theorem manualGradesAreStored : Obligations.ManualGradesAreStored := by
  intro x ticket value s hs args
  refine ⟨fun hbad => fixedCommand_answers hs rfl (regrade_bad hbad), fun hgood hnone =>
    fixedCommand_answers hs rfl (regrade_notFound (s := s.taken x 0x23 args) hgood hnone), fun v r hv hr => ?_⟩
  refine ⟨updateStrip ticket.toNat (regradedStrip v) s,
    fixedCommand_answers hs rfl (regrade_stored (s := s.taken x 0x23 args) hv hr), rfl,
    fun n hn => findStrip_updateStrip_other (regradedStrip_ticket v) hn s, regradedStrip v r,
    findStrip_updateStrip_same (regradedStrip_ticket v) hr, regradedStrip_changes v r, fun hstays => ?_,
    fun k hdone hmade => ?_⟩
  · rcases hstays with hmissed | hundone
    · rw [regradedStrip_missed hmissed]
    · rw [regradedStrip_undone hundone]
  · rw [regradedStrip_done hdone, applyManual_made (r := { r with manualGrade := some v }) hmade]
    cases v <;> rfl

end

/-! PROOFS. The requests of stations in good replies (R176, R178 to R182). -/

namespace Sys2Proof.Machine

open Sys2Proof

set_option Elab.async false

variable {s t u : State} {x : Xfer}

/-! ### A reply heard whole (R173, R176, R212) -/

theorem be16_append (v : BitVec 16) : v.extractLsb' 8 8 ++ v.extractLsb' 0 8 = v := BitVec.extractLsb'_append_extractLsb'

/-- A request of no known kind is read by its kind and bytes (R178). -/
theorem requestOf_unknown {kind : Byte} (h : kind = 0 ∨ 6 < kind.toNat) (args : List Byte) :
    requestOf kind args = some (.unknown kind args) := by
  have hkind : kind.toNat = 0 ∨ 6 < kind.toNat := h.imp_left fun hzero => by rw [hzero]; rfl
  unfold requestOf
  generalize kind.toNat = n at hkind
  rcases hkind with rfl | hbig
  · rfl
  · obtain ⟨k, rfl⟩ := Nat.exists_eq_add_of_le' hbig
    rfl

/-- The bytes a station sends for a request are read as that request (R212). -/
theorem requestOf_requestBytes {reqId : Byte} {request : Request} (h : (ReplyBody.request reqId request).Sendable) :
    requestOf (requestBytes request).1 (requestBytes request).2 = some request := by
  cases request with
  | queryAt => rfl
  | queryTicket ticket => exact congrArg (fun v => some (Request.queryTicket v)) (be16_append ticket)
  | scanReport args => rfl
  | gradeOverride ticket value => exact congrArg (fun v => some (Request.gradeOverride v value)) (be16_append ticket)
  | dropSeen lane => rfl
  | bundleCleared lane => rfl
  | unknown kind args => exact requestOf_unknown h.2 args

theorem bodyOf_bodyBytes {body : ReplyBody} (h : body.Sendable) : bodyOf (bodyBytes body) = some body := by
  cases body with
  | idle => rfl
  | request reqId request =>
    show (requestOf (requestBytes request).1 (requestBytes request).2).map (ReplyBody.request reqId) = _
    rw [requestOf_requestBytes h]
    rfl

/-- The bytes of a body leave LENGTH within its bounds (R176). -/
theorem bodyBytes_length {body : ReplyBody} (h : body.Sendable) :
    1 ≤ (bodyBytes body).length ∧ (bodyBytes body).length ≤ 151 := by
  have hargs (request : Request) (hlength : (requestBytes request).2.length ≤ 148) (reqId : Byte) :
      1 ≤ (bodyBytes (.request reqId request)).length ∧ (bodyBytes (.request reqId request)).length ≤ 151 := by
    simp only [bodyBytes, List.length_cons]
    omega
  cases body with
  | idle => exact ⟨by decide, by decide⟩
  | request reqId request =>
    refine hargs request ?_ reqId
    cases request with
    | scanReport args => exact h
    | unknown kind args => exact h.1
    | queryAt => exact Nat.zero_le _
    | queryTicket ticket => exact (by decide : 2 ≤ 148)
    | gradeOverride ticket value => exact (by decide : 3 ≤ 148)
    | dropSeen lane => exact (by decide : 1 ≤ 148)
    | bundleCleared lane => exact (by decide : 1 ≤ 148)

/-- A frame whose CRC agrees says what its body says (R176). -/
theorem checkReply_counted (length addr : Byte) (bytes : List Byte) :
    checkReply (length :: addr :: bytes ++ be16 (crc16 (length :: addr :: bytes))) =
      match bodyOf bytes with
      | some body => .good body
      | none => .bad := by
  have hcut : (length :: addr :: bytes ++ be16 (crc16 (length :: addr :: bytes))).length - 2 =
      (length :: addr :: bytes).length := by simp [be16]
  unfold checkReply
  simp only [hcut, List.take_left, List.drop_left, if_true]
  rfl

/-- A reply that arrives as it was sent is good (R176). -/
theorem readReply_sent {a : Fin 4} {addr : Byte} (haddr : addr.toNat = a.val + 1) {body : ReplyBody}
    (h : body.Sendable) : readReply a (sent (replyFrame addr body)) = .good body := by
  obtain ⟨hleast, hmost⟩ := bodyBytes_length h
  obtain ⟨length, hlength, hframe⟩ : ∃ length : Byte, length.toNat = (bodyBytes body).length + 3 ∧
      replyFrame addr body = length :: addr :: bodyBytes body ++ be16 (crc16 (length :: addr :: bodyBytes body)) := by
    refine ⟨BitVec.ofNat 8 (min 255 ((addr :: bodyBytes body).length + 2)), ?_, rfl⟩
    rw [BitVec.toNat_ofNat, List.length_cons]
    omega
  have hcount : (sent (replyFrame addr body)).length = 1 + length.toNat := by
    rw [sent_length, hframe]
    simp [be16]
    omega
  have hread : readReply a (sent (replyFrame addr body)) =
      if ((sent (replyFrame addr body)).take (1 + length.toNat)).any (·.framing) || length.toNat < 4 ||
          154 < length.toNat then .bad
      else if addr.toNat != a.val + 1 then .bad
      else if (sent (replyFrame addr body)).length < 1 + length.toNat then .incomplete
      else checkReply (((sent (replyFrame addr body)).take (1 + length.toNat)).map (·.byte)) := by
    rw [hframe]
    rfl
  have hwhole : (sent (replyFrame addr body)).take (1 + length.toNat) = sent (replyFrame addr body) :=
    List.take_of_length_le hcount.le
  have hbounds : (decide (length.toNat < 4) || decide (154 < length.toNat)) = false := by
    simp only [Bool.or_eq_false_iff, decide_eq_false_iff_not]
    omega
  rw [hread, hwhole, sent_framing, Bool.false_or, hbounds, sent_bytes, hframe, checkReply_counted, bodyOf_bodyBytes h]
  simp [haddr, ← hframe, hcount]

/-- A good reply heard whole in a fresh window is served, and the next poll begins (R176). -/
theorem takeReply_heard {a : Fin 4} {carried : Bool} {arrival : Arrival} (hs : s.Hears a carried arrival)
    {body : ReplyBody} (h : body.Sendable) : takeReply arrival body s = beginPoll (serveReply body a (s.heard a carried)) := by
  obtain ⟨-, hwaiting, haddr, hwire⟩ := hs
  have hsent : takeReply arrival body s = receive (sent (replyFrame arrival.addr body)) s := by
    unfold takeReply
    rw [hwire]
    rfl
  exact hsent.trans (receive_good (cs := sent (replyFrame arrival.addr body)) hwaiting rfl (readReply_sent haddr h))

/-! ### Requests (R178) -/

theorem owe_eq (a : Fin 4) (w : Answer) (s : State) : owe a w s = s.owes a w := rfl

/-- The state with the last answer owed once more (R178). -/
def State.repeats (a : Fin 4) (s : State) : State :=
  { s with stations := s.stations.set a { s.stations[a] with pendingAnswer := s.stations[a].lastAnswer } }

section request

variable {a : Fin 4} {kind reqId : Byte} {permitted : List Role} {execute : Fin 4 → State → Executed}

theorem handleRequest_repeated (h : s.stations[a].lastReqId = some reqId) :
    handleRequest kind reqId permitted execute a s = s.repeats a := if_pos h

theorem handleRequest_refused (hnew : s.stations[a].lastReqId ≠ some reqId) (hrole : s.stations[a].role ∉ permitted) :
    handleRequest kind reqId permitted execute a s =
      s.owes a { kind := kind, reqId := reqId, result := .notPermitted, data := [] } := by
  rw [handleRequest, if_neg hnew, if_pos (by simpa using hrole), owe_eq]

theorem handleRequest_served (hnew : s.stations[a].lastReqId ≠ some reqId) (hrole : s.stations[a].role ∈ permitted) :
    handleRequest kind reqId permitted execute a s =
      (execute a s).1.owes a { kind := kind, reqId := reqId, result := (execute a s).2.1, data := (execute a s).2.2 } := by
  rw [handleRequest, if_neg hnew, if_neg (by simpa using hrole), owe_eq]

theorem heard_station (a : Fin 4) (carried : Bool) (s : State) :
    (s.heard a carried).stations[a].lastReqId = s.stations[a].lastReqId ∧
      (s.heard a carried).stations[a].role = s.stations[a].role := by
  simp [State.heard]

/-- A request of one of the six kinds, heard whole: a repeat, a kind its role does not permit, its execution (R178). -/
theorem requestIsHandled {carried : Bool} {reply : Reply} (hs : s.Hears a carried reply.toArrival) {request : Request}
    (hsend : (ReplyBody.request reply.reqId request).Sendable)
    (hserve : serveRequest reply.reqId request = handleRequest kind reply.reqId permitted execute) :
    let h := s.heard a carried
    (s.stations[a].lastReqId = some reply.reqId → execRequest reply request s = .next (beginPoll (h.repeats a))) ∧
    (s.stations[a].lastReqId ≠ some reply.reqId → s.stations[a].role ∉ permitted → execRequest reply request s =
      .next (beginPoll (h.owes a { kind := kind, reqId := reply.reqId, result := .notPermitted, data := [] }))) ∧
    (s.stations[a].lastReqId ≠ some reply.reqId → s.stations[a].role ∈ permitted → execRequest reply request s =
      .next (beginPoll ((execute a h).1.owes a
        { kind := kind, reqId := reply.reqId, result := (execute a h).2.1, data := (execute a h).2.2 }))) := by
  intro h
  obtain ⟨hlast, hrole⟩ := heard_station a carried s
  have hexec : execRequest reply request s = .next (beginPoll (handleRequest kind reply.reqId permitted execute a h)) := by
    unfold execRequest linkCommand
    rw [hs.1, if_neg Bool.false_ne_true, takeReply_heard hs hsend, serveReply, hserve]
  rw [hexec, ← hlast, ← hrole]
  exact ⟨fun hsame => by rw [handleRequest_repeated hsame], fun hnew hbad => by rw [handleRequest_refused hnew hbad],
    fun hnew hgood => by rw [handleRequest_served hnew hgood]⟩

end request

theorem requestsAreHandled : Claims.RequestsAreHandled := by
  intro s a carried reply hs h repeated role answer
  refine ⟨fun ticket value lane args hargs q hq => ?_, fun kind args hargs hkind => ?_⟩
  · simp only [List.mem_cons, List.not_mem_nil, or_false] at hq
    rcases hq with rfl | rfl | rfl | rfl | rfl | rfl
    · exact requestIsHandled (request := .queryAt) hs trivial rfl
    · exact requestIsHandled (request := .queryTicket ticket) hs trivial rfl
    · exact requestIsHandled (request := .scanReport args) hs hargs rfl
    · exact requestIsHandled (request := .gradeOverride ticket value) hs trivial rfl
    · exact requestIsHandled (request := .dropSeen lane) hs trivial rfl
    · exact requestIsHandled (request := .bundleCleared lane) hs trivial rfl
  · have hsend : (ReplyBody.request reply.reqId (.unknown kind args)).Sendable := ⟨hargs, hkind⟩
    have hexec : exec (.unknownRequest reply kind args) s =
        .next (beginPoll (handleUnknown kind reply.reqId a (s.heard a carried))) := by
      show execRequest reply (.unknown kind args) s = _
      unfold execRequest linkCommand
      rw [hs.1, if_neg Bool.false_ne_true, takeReply_heard hs hsend]
      rfl
    rw [hexec, handleUnknown, (heard_station a carried s).1]
    rfl

/-! ### The results of requests (R179 to R182) -/

theorem queryAt_eq (a : Fin 4) (s : State) :
    queryAt a s = match lookup s s.stations[a].stationPos with
      | some r => (s, .found, lookupData s r)
      | none => (s, .none, []) := rfl

section lane

variable {lane : Byte} {l : Fin 8}

theorem dropSeen_extra (hl : lane.toNat = l.val) (h : s.lanes[l].watch = []) :
    dropSeen lane s = (raise .extraDrop s, .extra, []) := by
  simp only [dropSeen, finOf_eq hl, h]

theorem dropSeen_taken (hl : lane.toNat = l.val) {w : Watch} {rest : List Watch} (h : s.lanes[l].watch = w :: rest) :
    dropSeen lane s = ({ s with lanes := s.lanes.set l { s.lanes[l] with watch := rest } }, .taken, []) := by
  simp only [dropSeen, finOf_eq hl, h]
  rfl

theorem bundleCleared_open (hl : lane.toNat = l.val) (h : s.lanes[l].state ≠ .closed) :
    bundleCleared lane s = (s, .wrongState, []) := by
  simp only [bundleCleared, finOf_eq hl, if_neg h]

theorem bundleCleared_closed (hl : lane.toNat = l.val) (h : s.lanes[l].state = .closed) :
    bundleCleared lane s = (setCleared l s, .taken, []) := by
  simp only [bundleCleared, finOf_eq hl, if_pos h]

variable {b : Bundle}

/-- CLEARED on the lane's bundle, before the retirement test (R144). -/
theorem updateBundle_cleared (hb : s.lanes[l].bundle = some b) :
    updateBundle l (fun b => { b with cleared := true }) s =
      { s with lanes := s.lanes.set l { s.lanes[l] with bundle := some { b with cleared := true } } } := by
  have hmap : s.lanes[l].bundle.map (fun b => { b with cleared := true }) = some { b with cleared := true } := by rw [hb]; rfl
  rw [← hmap]
  rfl

theorem setCleared_eq (hb : s.lanes[l].bundle = some b) :
    setCleared l s =
      if b.labelDone = true then
        retireBundle l { s with lanes := s.lanes.set l { s.lanes[l] with bundle := some { b with cleared := true } } }
      else { s with lanes := s.lanes.set l { s.lanes[l] with bundle := some { b with cleared := true } } } := by
  rw [setCleared, updateBundle_cleared hb]
  simp [bundleTest]

/-- The retirement of a lane's bundle, whatever it was (R146). -/
theorem retireBundle_set (l : Fin 8) (s : State) (c : Option Bundle) :
    retireBundle l { s with lanes := s.lanes.set l { s.lanes[l] with bundle := c } } =
      if s.lanes[l].enabled then openBundle l { s with lanes := s.lanes.set l { s.lanes[l] with bundle := none } }
      else { s with lanes := s.lanes.set l { s.lanes[l] with bundle := none, state := .disabled } } := by
  have hgone : updateLane l (fun r => { r with bundle := none })
      { s with lanes := s.lanes.set l { s.lanes[l] with bundle := c } } =
      { s with lanes := s.lanes.set l { s.lanes[l] with bundle := none } } := by
    simp [updateLane, modifyAt]
  unfold retireBundle
  rw [hgone]
  simp [updateLane, modifyAt]

end lane

theorem requestResults : Claims.RequestResults := by
  intro a s
  refine ⟨rfl, fun n => rfl, fun n value => ⟨fun hbad => ?_, fun hgood hnone => ?_, fun v r hv hr => ?_⟩,
    fun lane => ⟨fun hbad => ?_, fun l hl => ⟨dropSeen_extra hl, fun _ _ => dropSeen_taken hl, bundleCleared_open hl,
      fun b hclosed hb => ?_⟩⟩⟩
  · simp only [gradeOverride, hbad]
  · obtain ⟨v, hv⟩ := Option.ne_none_iff_exists'.1 hgood
    simp [gradeOverride, hv, isLive_eq, hnone]
  · simp [gradeOverride, hv, isLive_eq, hr]
  · simp only [dropSeen, bundleCleared, finOf_ge hbad, and_self]
  · rw [bundleCleared_closed hl hclosed]
    dsimp only
    rw [setCleared_eq hb]
    refine ⟨rfl, fun hwaits => ?_, fun hdone henabled => ?_, fun hdone henabled => ?_⟩
    · rw [if_neg (ne_true_of_eq_false hwaits)]
    · rw [if_pos hdone, retireBundle_set, if_neg (ne_true_of_eq_false henabled)]
    · rw [if_pos hdone, retireBundle_set, if_pos henabled]

end Sys2Proof.Machine

section

open Sys2Proof Sys2Proof.Machine

/-- Settles O51: a reply heard whole is the request it was sent as; each result by its case. -/
theorem stationRequests : Obligations.StationRequests := ⟨requestsAreHandled, requestResults⟩

end

/-! PROOFS. SET_STATION (R174) and STATION_ENABLE (R183, R184), with the withdrawal of a station's reports (R45, R75). -/

namespace Sys2Proof.Machine

open Sys2Proof

set_option Elab.async false

variable {s t u : State} {x : Xfer} {a : Fin 4}

/-! ### SET_STATION (R174) -/

section setStation

variable {address role : Byte} {pos : BitVec 16} {r : Role}

theorem setStation_bad (h : address = 0 ∨ 4 < address.toNat ∨ 3 ≤ role.toNat) :
    setStation address role pos s = refuse .badArgument s := by
  rcases or_assoc.2 h with haddress | hrole
  · simp only [setStation, stationOf, finFrom1_bad haddress]
  · have henum : enumOf roles role = none := enumOf_bad hrole
    cases haddress : stationOf address <;> simp only [setStation, haddress, henum]

theorem setStation_inService (ha : address.toNat = a.val + 1) (hr : roles[role.toNat]? = some r)
    (h : s.stations[a].state ≠ .disabled) : setStation address role pos s = refuse .wrongState s := by
  have henum : enumOf roles role = some r := hr
  simp only [setStation, stationOf, finFrom1_eq ha, henum, if_pos h]

theorem setStation_stored (ha : address.toNat = a.val + 1) (hr : roles[role.toNat]? = some r)
    (h : s.stations[a].state = .disabled) :
    setStation address role pos s =
      ({ s with stations := s.stations.set a { s.stations[a] with role := r, stationPos := min 3000 pos.toNat } },
        if 3000 < pos.toNat then .okClamped else .ok, []) := by
  have henum : enumOf roles role = some r := hr
  have hfree : ¬ s.stations[a].state ≠ .disabled := not_not.2 h
  simp only [setStation, stationOf, finFrom1_eq ha, henum, if_neg hfree,
    okOr_eq (decide_eq_true_iff (p := 3000 < pos.toNat))]
  rfl

end setStation

/-! ### STATION_ENABLE ON (R183) -/

theorem stationEnable_bad {address value : Byte} (h : address = 0 ∨ 4 < address.toNat ∨ 2 ≤ value.toNat) :
    stationEnable address value s = refuse .badArgument s := by
  rcases or_assoc.2 h with haddress | hvalue
  · simp only [stationEnable, stationOf, finFrom1_bad haddress]
  · have henum : enumOf firstSecond value = none := enumOf_bad hvalue
    cases haddress : stationOf address <;> simp only [stationEnable, haddress, henum]

theorem stationEnable_on {address : Byte} (ha : address.toNat = a.val + 1) :
    stationEnable address 0 s = okay (stationOn a s) := by
  have henum : enumOf firstSecond 0 = some true := rfl
  simp only [stationEnable, stationOf, finFrom1_eq ha, henum]

theorem stationEnable_off {address : Byte} (ha : address.toNat = a.val + 1) :
    stationEnable address 1 s = okay (stationOff a s) := by
  have henum : enumOf firstSecond 1 = some false := rfl
  simp only [stationEnable, stationOf, finFrom1_eq ha, henum]

/-- A poll that is begun changes POLL_POINTER and TRANSACTION alone (R175). -/
theorem beginPoll_eq (s : State) :
    beginPoll s = { s with pollPointer := (beginPoll s).pollPointer, transaction := (beginPoll s).transaction } := by
  unfold beginPoll
  split <;> rfl

/-- A poll is begun whatever the Command Port holds. -/
theorem beginPoll_taken (code : Byte) (args : List Byte) (s : State) :
    beginPoll (s.taken x code args) = (beginPoll s).taken x code args := by
  have hnext : nextStation (s.taken x code args) = nextStation s := rfl
  have hlink : (s.taken x code args).transaction = s.transaction := rfl
  unfold beginPoll
  rw [hnext, hlink]
  split <;> rfl

theorem stationOn_disabled (h : s.stations[a].state = .disabled) :
    stationOn a s = beginPoll { s with stations := s.stations.set a { s.stations[a] with
      state := .online, misses := 0, pendingAnswer := none, lastReqId := none, lastAnswer := none } } := if_pos h

/-! ### The withdrawal of reports (R45, R75) -/

/-- A record whose report is withdrawn, with the default plan when it is WAITING (R45, R75). -/
def withdrawnStrip (s : State) (r : Strip) : Strip :=
  if r.stage = .waiting then withDefault s (withoutReport r) else withoutReport r

theorem withdrawnStrip_ticket (s : State) (r : Strip) : (withdrawnStrip s r).ticket = r.ticket := by
  unfold withdrawnStrip
  split <;> rfl

/-- A second withdrawal changes nothing. -/
theorem withdrawnStrip_twice (s : State) (r : Strip) : withdrawnStrip s (withdrawnStrip s r) = withdrawnStrip s r := by
  unfold withdrawnStrip
  by_cases h : r.stage = .waiting
  · have hstays : (withDefault s (withoutReport r)).stage = .waiting := h
    rw [if_pos h, if_pos hstays]
    rfl
  · have hstays : (withoutReport r).stage ≠ .waiting := h
    rw [if_neg h, if_neg hstays]
    rfl

/-- One ticket's report taken back, before the default plan of a WAITING record (R45). -/
def reportTakenBack (n : Nat) (s : State) : State :=
  updateStrip n withoutReport { s with planQueue := s.planQueue.filter (· != n) }

theorem findStrip_reportTakenBack (n m : Nat) (s : State) :
    findStrip m (reportTakenBack n s) = (findStrip m s).map (fun r => if m = n then withoutReport r else r) :=
  findStrip_updateStrip (f := withoutReport) (fun _ => rfl) n m _

theorem withdrawReport_of_waiting {n : Nat} {r : Strip} (hfind : findStrip n s = some r) (h : r.stage = .waiting) :
    withdrawReport s n = writeDefault n (reportTakenBack n s) := by
  have hwaits : ((findStrip n (reportTakenBack n s)).any (fun r => r.stage == .waiting)) = true := by
    simp [findStrip_reportTakenBack, hfind, withoutReport, h]
  exact if_pos hwaits

theorem withdrawReport_of_not_waiting {n : Nat} (h : ∀ r, findStrip n s = some r → r.stage ≠ .waiting) :
    withdrawReport s n = reportTakenBack n s := by
  have hwaits : ¬ ((findStrip n (reportTakenBack n s)).any (fun r => r.stage == .waiting)) = true := by
    cases hfind : findStrip n s with
    | none => simp [findStrip_reportTakenBack, hfind]
    | some r => simpa [findStrip_reportTakenBack, hfind, withoutReport] using h r hfind
  exact if_neg hwaits

/-- Both ways a report is withdrawn: with the default plan after it, or without. -/
theorem withdrawReport_cases (n : Nat) (s : State) :
    withdrawReport s n = writeDefault n (reportTakenBack n s) ∨ withdrawReport s n = reportTakenBack n s := by
  by_cases h : ∀ r, findStrip n s = some r → r.stage ≠ .waiting
  · exact .inr (withdrawReport_of_not_waiting h)
  · push Not at h
    obtain ⟨r, hfind, hwaits⟩ := h
    exact .inl (withdrawReport_of_waiting hfind hwaits)

theorem withdrawReport_eq (n : Nat) (s : State) :
    withdrawReport s n = { s with strips := (withdrawReport s n).strips, planQueue := s.planQueue.filter (· != n) } := by
  rcases withdrawReport_cases n s with h | h <;> rw [h] <;> rfl

theorem findStrip_withdrawReport (n m : Nat) (s : State) :
    findStrip m (withdrawReport s n) = (findStrip m s).map (fun r => if m = n then withdrawnStrip s r else r) := by
  by_cases hm : m = n
  · subst hm
    simp only [if_true]
    cases hfind : findStrip m s with
    | none =>
      rw [withdrawReport_of_not_waiting (by simp [hfind]), findStrip_reportTakenBack, hfind]
      rfl
    | some r =>
      have hbare : findStrip m (reportTakenBack m s) = some (withoutReport r) := by
        simp [findStrip_reportTakenBack, hfind]
      by_cases hwaits : r.stage = .waiting
      · rw [withdrawReport_of_waiting hfind hwaits, findStrip_writeDefault_same hbare, Option.map_some, withdrawnStrip,
          if_pos hwaits]
        rfl
      · rw [withdrawReport_of_not_waiting (by simp [hfind, hwaits]), hbare, Option.map_some, withdrawnStrip, if_neg hwaits]
  · have hother : findStrip m (reportTakenBack n s) = findStrip m s := by simp [findStrip_reportTakenBack, hm]
    simp only [if_neg hm, Option.map_id']
    rcases withdrawReport_cases n s with h | h
    · rw [h, findStrip_writeDefault_other hm, hother]
    · rw [h, hother]

/-- A record after a withdrawal is an untouched one of another ticket, or holds no report. -/
theorem mem_withdrawReport {n : Nat} {q : Strip} (h : q ∈ (withdrawReport s n).strips) :
    (q ∈ s.strips ∧ q.ticket ≠ n) ∨ q.reportFrom = none := by
  have hbare {p : Strip} (hp : p ∈ (reportTakenBack n s).strips) :
      (p ∈ s.strips ∧ p.ticket ≠ n) ∨ p.reportFrom = none := by
    obtain ⟨r, hr, rfl⟩ := List.mem_map.1 hp
    split
    · exact .inr rfl
    · next hticket => exact .inl ⟨hr, hticket⟩
  rcases withdrawReport_cases n s with heq | heq
  · rw [heq] at h
    obtain ⟨p, hp, rfl⟩ := List.mem_map.1 h
    split
    · next hticket => exact .inr ((hbare hp).resolve_left fun hkept => hkept.2 hticket)
    · exact hbare hp
  · rw [heq] at h
    exact hbare h

/-! ### The withdrawal of a list of tickets -/

theorem withdrawAll_frame (ts : List Nat) (s : State) :
    ts.foldl withdrawReport s =
      { s with strips := (ts.foldl withdrawReport s).strips, planQueue := (ts.foldl withdrawReport s).planQueue } := by
  induction ts generalizing s with
  | nil => rfl
  | cons n ts ih =>
    exact (ih (withdrawReport s n)).trans (congrArg (fun w : State => { w with
      strips := (ts.foldl withdrawReport (withdrawReport s n)).strips,
      planQueue := (ts.foldl withdrawReport (withdrawReport s n)).planQueue }) (withdrawReport_eq n s))

theorem withdrawAll_planQueue (ts : List Nat) (s : State) :
    (ts.foldl withdrawReport s).planQueue = s.planQueue.filter (fun n => decide (n ∉ ts)) := by
  induction ts generalizing s with
  | nil => simp
  | cons n ts ih =>
    have hone : (withdrawReport s n).planQueue = s.planQueue.filter (· != n) :=
      congrArg State.planQueue (withdrawReport_eq n s)
    rw [List.foldl_cons, ih, hone, List.filter_filter]
    refine List.filter_congr fun m _ => ?_
    by_cases hm : m = n <;> simp [hm]

theorem withdrawnStrip_withdrawReport (n : Nat) (s : State) : withdrawnStrip (withdrawReport s n) = withdrawnStrip s := by
  rw [withdrawReport_eq]
  rfl

theorem findStrip_withdrawAll (ts : List Nat) (m : Nat) (s : State) :
    findStrip m (ts.foldl withdrawReport s) =
      (findStrip m s).map (fun r => if m ∈ ts then withdrawnStrip s r else r) := by
  induction ts generalizing s with
  | nil => simp
  | cons n ts ih =>
    rw [List.foldl_cons, ih, findStrip_withdrawReport, withdrawnStrip_withdrawReport, Option.map_map]
    refine congrArg (fun f => (findStrip m s).map f) (funext fun r => ?_)
    by_cases hm : m = n <;> by_cases hmem : m ∈ ts <;> simp [hm, hmem, withdrawnStrip_twice]

theorem mem_withdrawAll {ts : List Nat} {q : Strip} (h : q ∈ (ts.foldl withdrawReport s).strips) :
    (q ∈ s.strips ∧ q.ticket ∉ ts) ∨ q.reportFrom = none := by
  induction ts generalizing s with
  | nil => exact .inl ⟨h, List.not_mem_nil⟩
  | cons n ts ih =>
    rcases ih h with ⟨hkept, hts⟩ | hnone
    · exact (mem_withdrawReport hkept).imp_left fun ⟨hs, hn⟩ => ⟨hs, List.not_mem_cons_of_ne_of_not_mem hn hts⟩
    · exact .inr hnone

theorem mem_withdrawnTickets {n : Nat} :
    n ∈ withdrawnTickets a s ↔ ∃ r ∈ s.strips, r.ticket = n ∧ r.plan = .pending ∧ r.reportFrom = some a := by
  simp only [withdrawnTickets, List.mem_map, List.mem_filter, Bool.and_eq_true, beq_iff_eq]
  exact ⟨fun ⟨r, ⟨hr, hfrom, hplan⟩, hn⟩ => ⟨r, hr, hn, hplan, hfrom⟩,
    fun ⟨r, hr, hn, hplan, hfrom⟩ => ⟨r, ⟨hr, hfrom, hplan⟩, hn⟩⟩

/-! ### STATION_ENABLE OFF (R184) -/

/-- An abandoned poll changes the link alone. -/
theorem abandonPoll_eq (a : Fin 4) (s : State) :
    abandonPoll a s = { s with pollPointer := (abandonPoll a s).pollPointer, transaction := (abandonPoll a s).transaction,
                               replyTimer := (abandonPoll a s).replyTimer } := by
  unfold abandonPoll
  split
  · split <;> rfl
  · split
    · rw [beginPoll_eq]
    · rfl
  · rfl

/-- The state in which a station's reports are withdrawn: it is DISABLED and its poll abandoned (R184). -/
def silenced (a : Fin 4) (s : State) : State :=
  abandonPoll a { s with stations := s.stations.set a { s.stations[a] with state := .disabled, pendingAnswer := none } }

/-- The state after the withdrawal of a silenced station's reports, before the release test (R45, R184). -/
def reportsWithdrawn (a : Fin 4) (s : State) : State :=
  (withdrawnTickets a s).foldl withdrawReport (silenced a s)

theorem silenced_eq (a : Fin 4) (s : State) :
    silenced a s = { s with stations := (silenced a s).stations, pollPointer := (silenced a s).pollPointer,
                            transaction := (silenced a s).transaction, replyTimer := (silenced a s).replyTimer } := by
  unfold silenced
  rw [abandonPoll_eq]

theorem silenced_strips (a : Fin 4) (s : State) : (silenced a s).strips = s.strips := by rw [silenced_eq]

theorem silenced_planQueue (a : Fin 4) (s : State) : (silenced a s).planQueue = s.planQueue := by rw [silenced_eq]

theorem withdrawnStrip_silenced (a : Fin 4) (s : State) : withdrawnStrip (silenced a s) = withdrawnStrip s := by
  rw [silenced_eq]
  rfl

theorem stationOff_disabled (h : s.stations[a].state = .disabled) : stationOff a s = s := if_pos h

theorem stationOff_inService (h : s.stations[a].state ≠ .disabled) :
    stationOff a s = releaseTest (reportsWithdrawn a s) := by
  have htickets : withdrawnTickets a (silenced a s) = withdrawnTickets a s := by
    simp only [withdrawnTickets, silenced_strips]
  rw [reportsWithdrawn, ← htickets]
  exact if_neg h

theorem reportsWithdrawn_frame (a : Fin 4) (s : State) :
    reportsWithdrawn a s = { silenced a s with
      strips := (reportsWithdrawn a s).strips, planQueue := (reportsWithdrawn a s).planQueue } :=
  withdrawAll_frame _ _

/-- The plan queue loses the tickets of the station's PENDING reports (R45). -/
theorem reportsWithdrawn_planQueue (a : Fin 4) (s : State) :
    (reportsWithdrawn a s).planQueue = s.planQueue.filter (fun n =>
      s.strips.all (fun r => !(r.ticket == n && r.plan == .pending && r.reportFrom == some a))) := by
  rw [reportsWithdrawn, withdrawAll_planQueue, silenced_planQueue]
  refine List.filter_congr fun n _ => Bool.eq_iff_iff.2 ?_
  simp [mem_withdrawnTickets, imp_iff_not_or, or_assoc]

theorem findStrip_reportsWithdrawn (a : Fin 4) (n : Nat) (s : State) :
    findStrip n (reportsWithdrawn a s) =
      (findStrip n s).map (fun r => if n ∈ withdrawnTickets a s then withdrawnStrip s r else r) := by
  have hfind : findStrip n (silenced a s) = findStrip n s := by rw [silenced_eq]; rfl
  rw [reportsWithdrawn, findStrip_withdrawAll, hfind, withdrawnStrip_silenced]

/-- No PENDING record keeps a report of the station (R45). -/
theorem reportsWithdrawn_leavesNone {r : Strip} (h : r ∈ (reportsWithdrawn a s).strips) (hplan : r.plan = .pending) :
    r.reportFrom ≠ some a := by
  intro hfrom
  rcases mem_withdrawAll h with ⟨hkept, hticket⟩ | hnone
  · exact hticket (mem_withdrawnTickets.2 ⟨r, silenced_strips a s ▸ hkept, rfl, hplan, hfrom⟩)
  · rw [hnone] at hfrom
    cases hfrom

end Sys2Proof.Machine

section

open Sys2Proof Sys2Proof.Machine

/-- Settles O52: each clause by its case; the records after a withdrawal from the fold over the tickets withdrawn. -/
theorem stationCommands : Obligations.StationCommands := by
  refine ⟨fun x address role pos s hs => ⟨fun hbad => fixedCommand_answers hs rfl (setStation_bad hbad),
    fun a r ha hr => ⟨fun hbusy => fixedCommand_answers hs rfl (setStation_inService ha hr hbusy),
      fun hfree => fixedCommand_answers hs rfl (setStation_stored ha hr hfree)⟩⟩,
    fun x address value s hs => ?_⟩
  intro c args
  refine ⟨fun hbad => fixedCommand_answers hs rfl (stationEnable_bad hbad),
    fun a ha => ⟨?on, ?start, ?off, ?withdraw⟩⟩
  case on =>
    rintro rfl hstate
    have hstays : stationOn a (s.taken x 0x72 args) = s.taken x 0x72 args := if_neg hstate
    exact fixedCommand_answers hs rfl ((stationEnable_on ha).trans (congrArg okay hstays))
  case start =>
    rintro rfl hstate t
    have hstart : stationOn a (s.taken x 0x72 args) =
        (beginPoll { s with stations := s.stations.set a t }).taken x 0x72 args := by
      rw [← beginPoll_taken]
      exact stationOn_disabled (s := s.taken x 0x72 args) hstate
    exact fixedCommand_answers hs rfl ((stationEnable_on ha).trans (congrArg okay hstart))
  case off =>
    rintro rfl hstate
    exact fixedCommand_answers hs rfl ((stationEnable_off ha).trans (congrArg okay (stationOff_disabled hstate)))
  case withdraw =>
    rintro rfl hstate
    let w := s.taken x 0x72 args
    refine ⟨_, reportsWithdrawn a w, fixedCommand_responds hs rfl
      ((stationEnable_off ha).trans (congrArg okay (stationOff_inService hstate))), rfl, reportsWithdrawn_frame a w,
      fun r => reportsWithdrawn_leavesNone, reportsWithdrawn_planQueue a w, fun n r hr hplan hfrom => ?_,
      fun n hnone => ?_⟩
    · have hmem : n ∈ withdrawnTickets a w :=
        mem_withdrawnTickets.2 ⟨r, List.mem_of_find?_eq_some hr, findStrip_ticket hr, hplan, hfrom⟩
      have hr' : findStrip n w = some r := hr
      rw [findStrip_reportsWithdrawn, hr', Option.map_some, if_pos hmem]
      rfl
    · have hmem : n ∉ withdrawnTickets a w := fun h => by
        obtain ⟨r, hr, hticket, hpending⟩ := mem_withdrawnTickets.1 h
        exact hnone r hr hticket hpending
      rw [findStrip_reportsWithdrawn]
      simp only [if_neg hmem, Option.map_id']
      rfl

end

/-! PROOFS. The gate and the tool sets (R65 to R77): the hold reason, the release test, wear, tool changes, the commands on
tool sets. -/

namespace Sys2Proof.Machine

open Sys2Proof

set_option Elab.async false

variable {s : State} {m : Fin 4}

/-! ### The hold reason (R72) -/

/-- The hold reason of a list of conditions in order: that of the first that fails. -/
def firstFailure (conditions : List (HoldReason × Bool)) : Option HoldReason :=
  (conditions.find? (fun c => !c.2)).map (·.1)

@[simp] theorem firstFailure_nil : firstFailure [] = none := rfl

@[simp] theorem firstFailure_cons (why : HoldReason) (ok : Bool) (rest : List (HoldReason × Bool)) :
    firstFailure ((why, ok) :: rest) = if ok then firstFailure rest else some why := by
  cases ok <;> rfl

theorem holdReasonIsTheFirstFailure : Claims.HoldReasonIsTheFirstFailure := by
  intro s head set conditions
  show holdReason s = firstFailure conditions
  have hhead : headStrip s = head := rfl
  simp only [conditions, firstFailure_cons, firstFailure_nil, holdReason, hhead]
  by_cases hline : s.line = .running
  case neg => simp [hline]
  cases head with
  | none => simp [hline]
  | some r =>
    by_cases hstage : r.stage = .waiting
    case neg => simp [hline, hstage]
    cases hplan : r.plan with
    | none => simp [hline, hstage, hplan]
    | pending => simp [hline, hstage, hplan]
    | running => simp [hline, hstage, hplan]
    | done kind =>
      have hdone : (Plan.done kind == .done .default || Plan.done kind == .done .computed) = true := by
        cases kind <;> rfl
      cases hmounted : mountedSet s with
      | none => simp [hline, hstage, hplan, hdone, set, hmounted]
      | some m =>
        have hset : set = some s.tools[m] := by simp only [set, hmounted, Option.map_some]
        simp [hline, hstage, hplan, hdone, hset]
        simp only [← not_or, ← Nat.not_lt, ite_not]

/-! ### The release test (R73, R75) -/

theorem releaseTest_released {r : Strip} (hreason : holdReason s = none) (hr : headStrip s = some r)
    (hm : mountedSet s = some m) : releaseTest s = releaseHead m r s := by
  simp only [releaseTest, hreason, hr, hm]

theorem releaseTest_mismatched {r : Strip} (hreason : holdReason s = some .profile) (hr : headStrip s = some r) :
    releaseTest s =
      if s.moulder.length < getPar s .moulderCapacity ∧ s.gapTimer = none ∧ s.mismatch ≠ some r.ticket then
        raise .profileMismatch { s with mismatch := some r.ticket } else s := by
  simp only [releaseTest, hreason, hr]

theorem releaseTest_held {why : HoldReason} (hreason : holdReason s = some why) (hwhy : why ≠ .profile) :
    releaseTest s = s := by
  unfold releaseTest
  split
  · next hnone _ _ => cases hreason.symm.trans hnone
  · next hprofile _ => exact absurd (Option.some.inj (hreason.symm.trans hprofile)) hwhy
  · rfl

theorem releaseTestReleases : Claims.ReleaseTest :=
  ⟨fun _ _ _ hreason hr hm => releaseTest_released hreason hr hm,
    fun _ _ hreason hr => releaseTest_mismatched hreason hr, fun _ _ hreason hwhy => releaseTest_held hreason hwhy⟩

/-! ### Wear (R66, R67) -/

theorem wearClass_ne_unmounted (k : Tool) : wearClass k ≠ .unmounted := by
  unfold wearClass
  split
  · exact nofun
  · split <;> exact nofun

/-- The event of the wear class of a set, when it is a class of wear (R66). -/
def raiseWear (state : ToolState) (s : State) : State :=
  if state = .worn then raise .toolWorn s else if state = .exhausted then raise .toolExhausted s else s

theorem classifyTool_eq (m : Fin 4) (before : ToolState) (s : State) :
    classifyTool m before s =
      let u := { s with tools := modifyAt s.tools m (fun k => { k with state := wearClass s.tools[m] }) }
      if wearClass s.tools[m] = before then u else raiseWear (wearClass s.tools[m]) u := by
  unfold classifyTool raiseWear
  dsimp only
  split
  · rfl
  · cases wearClass s.tools[m] <;> rfl

/-- A set with a released length added to its USED, which saturates (R67). -/
def lengthened (len : Nat) (k : Tool) : Tool := { k with used := min 99999999 (k.used + len) }

theorem addWear_length (m : Fin 4) (len : Nat) (s : State) :
    addWear m (some len) s =
      classifyTool m s.tools[m].state { s with tools := s.tools.set m (lengthened len s.tools[m]) } := by
  have hstate : (modifyAt s.tools m (lengthened len))[m.val].state = s.tools[m].state := by rw [modifyAt_same]; rfl
  show classifyTool m (modifyAt s.tools m (lengthened len))[m.val].state _ = _
  rw [hstate]
  rfl

/-- The wear of a release: the set's STATE is its class, and the event of a class entered is raised (R66, R67). -/
theorem addWear_some (m : Fin 4) (len : Nat) (s : State) :
    addWear m (some len) s =
      let k := lengthened len s.tools[m]
      let u := { s with tools := s.tools.set m { k with state := wearClass k } }
      if wearClass k = s.tools[m].state then u else raiseWear (wearClass k) u := by
  simp [addWear_length, classifyTool_eq, modifyAt]

theorem wearFollowsTheReleasedLength : Claims.WearFollowsTheReleasedLength := by
  intro m len s tool used state u
  have hne : state ≠ .unmounted := wearClass_ne_unmounted (lengthened len tool)
  refine ⟨rfl, ?_⟩
  calc addWear m (some len) s = if state = tool.state then u else raiseWear state u := addWear_some m len s
    _ = _ := by
      unfold raiseWear
      cases hcase : state with
      | unmounted => exact absurd hcase hne
      | mounted => simp
      | worn => simp
      | exhausted => simp

/-! ### Tool changes (R70) -/

theorem drainTest_waits (h : s.moulder ≠ []) : drainTest s = s := by
  unfold drainTest
  split
  · rfl
  · exact if_neg h

theorem drainTest_completes (hm : s.pendingChange = some m) (h : s.moulder = []) : drainTest s = completeChange m s := by
  simp only [drainTest, hm, if_pos h]

theorem unmounted_eq {k : Tool} (h : k.state = .unmounted) : { k with state := .unmounted } = k := by rw [← h]

theorem unmount_eq (s : State) : unmount s = { s with tools := (unmount s).tools } := by
  unfold unmount
  split <;> rfl

/-- After the unmounting every set is UNMOUNTED (R70 step 1). -/
theorem unmount_tool (hs : s.ToolsSound) (n : Fin 4) : (unmount s).tools[n] = { s.tools[n] with state := .unmounted } := by
  unfold unmount
  split
  · next hnone => exact (unmounted_eq (mountedSet_none hnone n)).symm
  · next k hk =>
    rw [modifyAt_get]
    split
    · rfl
    · next hn => exact (unmounted_eq (hs.others hk n hn)).symm

/-- The tool sets with one alone mounted, at its wear class (R66, R70). -/
def mountedAlone (m : Fin 4) (s : State) : Vector Tool 4 :=
  Vector.ofFn fun i : Fin 4 => { s.tools[i] with state := if i = m then wearClass s.tools[m] else .unmounted }

/-- The exchange of the mounted set, with the event of the target's wear class (R70 steps 1 and 2, R66). -/
theorem classifyTool_unmount (hs : s.ToolsSound) (m : Fin 4) :
    classifyTool m .unmounted (unmount s) = raiseWear (wearClass s.tools[m]) { s with tools := mountedAlone m s } := by
  have hclass : wearClass (unmount s).tools[m] = wearClass s.tools[m] := by rw [unmount_tool hs]; rfl
  have htools : modifyAt (unmount s).tools m (fun k => { k with state := wearClass s.tools[m] }) = mountedAlone m s := by
    refine Vector.ext fun i hi => ?_
    have hget := modifyAt_get (unmount s).tools m ⟨i, hi⟩ (fun k => { k with state := wearClass s.tools[m] })
    rw [unmount_tool hs] at hget
    refine hget.trans ?_
    simp only [mountedAlone, Vector.getElem_ofFn]
    split <;> rfl
  simp only [classifyTool_eq, hclass, htools, if_neg (wearClass_ne_unmounted _)]
  rw [unmount_eq]

theorem toolChangesCompleteAtTheDrain : Claims.ToolChangesCompleteAtTheDrain := by
  intro s m hs hm
  refine ⟨drainTest_waits, fun hempty => ?_⟩
  intro state u v
  calc drainTest s = completeChange m s := drainTest_completes hm hempty
    _ = releaseTest (raise .toolChanged { raiseWear state u with pendingChange := none }) := by
      rw [completeChange, classifyTool_unmount hs]
      rfl

/-! ### The commands on tool sets (R65, R68, R69, R71) -/

theorem isMounted_iff : isMounted m s = true ↔ s.tools[m].state ≠ .unmounted := by simp [isMounted]

section setTool

variable {set profile width warnPct : Byte} {life : BitVec 16}

theorem setTool_bad (h : 4 ≤ set.toNat) : setTool set profile width life warnPct s = refuse .badArgument s := by
  simp only [setTool, finOf_ge h]

theorem setTool_mounted (hset : set.toNat = m.val) (h : s.tools[m].state ≠ .unmounted) :
    setTool set profile width life warnPct s = refuse .wrongState s := by
  simp only [setTool, finOf_eq hset, isMounted_iff.2 h, if_true]

/-- The set as SET_TOOL stores it, each value held to its range (R65). -/
def givenTool (profile width : Byte) (life : BitVec 16) (warnPct : Byte) (k : Tool) : Tool :=
  { k with configured := true, profile := min 15 profile.toNat, width := max 30 (min 200 width.toNat),
           life := max 1 life.toNat, warnPct := max 1 (min 100 warnPct.toNat) }

/-- Some value given to SET_TOOL lies outside its range (R65). -/
theorem toolClamped_iff :
    (min 15 profile.toNat != profile.toNat || clampNat 30 200 width.toNat != width.toNat ||
      max 1 life.toNat != life.toNat || clampNat 1 100 warnPct.toNat != warnPct.toNat) = true ↔
    15 < profile.toNat ∨ width.toNat < 30 ∨ 200 < width.toNat ∨ life = 0 ∨ warnPct = 0 ∨ 100 < warnPct.toNat := by
  have hlife : life = 0 ↔ life.toNat = 0 := by bv_omega
  have hwarn : warnPct = 0 ↔ warnPct.toNat = 0 := by bv_omega
  rw [clampNat_eq (by decide), clampNat_eq (by decide), hlife, hwarn]
  simp only [Bool.or_eq_true, bne_iff_ne]
  omega

theorem setTool_stored (hset : set.toNat = m.val) (h : s.tools[m].state = .unmounted) :
    setTool set profile width life warnPct s =
      ({ s with tools := s.tools.set m (givenTool profile width life warnPct s.tools[m]) },
        if 15 < profile.toNat ∨ width.toNat < 30 ∨ 200 < width.toNat ∨ life = 0 ∨ warnPct = 0 ∨ 100 < warnPct.toNat then
          .okClamped else .ok, []) := by
  have hfree : ¬ isMounted m s = true := fun hmounted => isMounted_iff.1 hmounted h
  rw [← okOr_eq toolClamped_iff]
  simp only [setTool, finOf_eq hset, if_neg hfree, clampNat_eq (show 30 ≤ 200 by decide),
    clampNat_eq (show 1 ≤ 100 by decide)]
  rfl

end setTool

section toolCommands

variable {set : Byte}

theorem resetWear_bad (h : 4 ≤ set.toNat) : resetWear set s = refuse .badArgument s := by
  simp only [resetWear, finOf_ge h]

theorem resetWear_mounted (hset : set.toNat = m.val) (h : s.tools[m].state ≠ .unmounted) :
    resetWear set s = refuse .wrongState s := by
  simp only [resetWear, finOf_eq hset, isMounted_iff.2 h, if_true]

theorem resetWear_done (hset : set.toNat = m.val) (h : s.tools[m].state = .unmounted) :
    resetWear set s = okay { s with tools := s.tools.set m { s.tools[m] with used := 0 } } := by
  have hfree : ¬ isMounted m s = true := fun hmounted => isMounted_iff.1 hmounted h
  simp only [resetWear, finOf_eq hset, if_neg hfree]
  rfl

theorem changeTools_bad (h : 4 ≤ set.toNat) : changeTools set s = refuse .badArgument s := by
  simp only [changeTools, finOf_ge h]

theorem changeTools_unconfigured (hset : set.toNat = m.val) (h : ¬ s.tools[m].configured = true) :
    changeTools set s = refuse .wrongState s := by
  simp only [changeTools, finOf_eq hset, if_neg h]

theorem changeTools_pending (hset : set.toNat = m.val) (h : s.tools[m].configured = true) :
    changeTools set s = okay (drainTest { s with pendingChange := some m }) := by
  simp only [changeTools, finOf_eq hset, if_pos h]

theorem cancelChange_none (h : s.pendingChange = none) : cancelChange s = refuse .wrongState s := by
  simp only [cancelChange, h]

theorem cancelChange_pending (h : s.pendingChange ≠ none) :
    cancelChange s = okay (releaseTest { s with pendingChange := none }) := by
  obtain ⟨m, hm⟩ := Option.ne_none_iff_exists'.1 h
  simp only [cancelChange, hm]

end toolCommands

end Sys2Proof.Machine

section

open Sys2Proof Sys2Proof.Machine

/-- Settles O25: the hold reason down its table, the release test by the hold reason. -/
theorem theReleaseTest : Obligations.TheReleaseTest := ⟨holdReasonIsTheFirstFailure, releaseTestReleases⟩

/-- Settles O26: wear by the class of the set after the release, the change by the sets with the target alone mounted. -/
theorem wearAndToolChanges : Obligations.WearAndToolChanges :=
  ⟨wearFollowsTheReleasedLength, toolChangesCompleteAtTheDrain⟩

/-- Settles O27: each command by the case of its checks. -/
theorem toolCommands : Obligations.ToolCommands := by
  refine ⟨fun x set profile width life warnPct s hs => ⟨fun hbad => ?setBad, fun m hset =>
      ⟨fun hmounted => ?setMounted, fun hfree => ?setStored⟩⟩,
    fun x set s hs => ⟨fun hbad => ⟨?resetBad, ?changeBad⟩, fun m hset => ⟨?reset, ?change⟩, ?cancel⟩⟩
  case setBad => exact fixedCommand_answers hs rfl (setTool_bad hbad)
  case setMounted => exact fixedCommand_answers hs rfl (setTool_mounted hset hmounted)
  case setStored => exact fixedCommand_answers hs rfl (setTool_stored hset hfree)
  case resetBad => exact fixedCommand_answers hs rfl (resetWear_bad hbad)
  case changeBad => exact fixedCommand_answers hs rfl (changeTools_bad hbad)
  case reset =>
    split
    · next hmounted => exact fixedCommand_answers hs rfl (resetWear_mounted hset hmounted)
    · next hfree => exact fixedCommand_answers hs rfl (resetWear_done hset (Decidable.not_not.1 hfree))
  case change =>
    split
    · next hready => exact fixedCommand_responds hs rfl (changeTools_pending (s := s.taken x 0x32 [set]) hset hready)
    · next hready => exact fixedCommand_answers hs rfl (changeTools_unconfigured hset hready)
  case cancel =>
    split
    · next hnone => exact fixedCommand_answers hs rfl (cancelChange_none hnone)
    · next hpending => exact fixedCommand_responds hs rfl (cancelChange_pending (s := s.taken x 0x33 []) hpending)

end

/-! PROOFS. The timers of the gate (R74, R119) and the transit monitor (R78). Each round of the monitor takes the late head
out of the moulder queue, and what follows it admits entries of AGE 0 alone: the late entries become fewer with each round,
so as many rounds as there are entries leave no late head, and more rounds change nothing. -/

namespace Sys2Proof.Machine

open Sys2Proof

set_option Elab.async false

variable {s t u : State} {e : MoulderEntry} {n : Nat}

/-! ### GAP_TIMER and the time pulses (R74, R119) -/

theorem exec_gapTimerExpiry (h : s.resetHeld = false) :
    exec .gapTimerExpiry s = .next (if s.gapTimer = some 0 then releaseTest { s with gapTimer := none } else s) := by
  show Host.Outcome.next _ = _
  simp [h]

theorem exec_timePulseExpiry (h : s.resetHeld = false) (p : TimePulse) :
    exec (.timePulseExpiry p) s = .next (if pulseDue p s then endPulse p s else s) := by
  show Host.Outcome.next _ = _
  simp [h]

/-- A pulse that is due has no time left to discard (R119). -/
theorem endPulse_eq {p : TimePulse} (h : s.pulses[pulseIdx p].msLeft = 0) :
    endPulse p s =
      { s with pulses := s.pulses.set (pulseIdx p) { s.pulses[pulseIdx p] with on := false } } := by
  unfold endPulse modifyAt
  rw [← h]

theorem gateAndPulseTimers : Claims.GateAndPulseTimers := by
  intro s hreset
  refine ⟨fun hdue => ?_, fun hdue => ?_, fun p => ⟨fun hdue => ?_, fun hdue => ?_⟩⟩
  · rw [exec_gapTimerExpiry hreset, if_pos hdue]
  · rw [exec_gapTimerExpiry hreset, if_neg hdue]
  · rw [exec_timePulseExpiry hreset, if_pos (pulseDue_iff.2 hdue), endPulse_eq hdue.2]
  · rw [exec_timePulseExpiry hreset, if_neg (mt pulseDue_iff.1 hdue)]

/-! ### What the tests of the gate can do to records and the moulder queue -/

/-- From `s` to `t` no record of a new ticket is created, the moulder queue gains entries of AGE 0 alone, and no event flag
is cleared. -/
structure Admits (s t : State) : Prop extends FlagsStay s t where
  strips  : ∀ r ∈ t.strips, ∃ q ∈ s.strips, q.ticket = r.ticket
  moulder : ∀ e ∈ t.moulder, e ∈ s.moulder ∨ e.age = 0

theorem Fades.admits (h : Fades s t) (g : FlagsStay s t) : Admits s t :=
  ⟨g, h.strips, fun _ he => .inl (h.moulder he)⟩

theorem Admits.refl (s : State) : Admits s s := (Fades.refl s).admits (.refl s)

theorem Admits.trans (h : Admits s t) (g : Admits t u) : Admits s u where
  toFlagsStay := h.toFlagsStay.trans g.toFlagsStay
  strips r hr := by
    obtain ⟨q, hq, hqr⟩ := g.strips r hr
    obtain ⟨p, hp, hpq⟩ := h.strips q hq
    exact ⟨p, hp, hpq.trans hqr⟩
  moulder e he := (g.moulder e he).elim (h.moulder e) .inr

theorem raise_admits (k : EventKind) (s : State) (hk : k ≠ .lateFire := by decide) : Admits s (raise k s) :=
  (raise_fades k s).admits (raise_flags hk s)

theorem classifyTool_admits (m : Fin 4) (before : ToolState) (s : State) : Admits s (classifyTool m before s) := by
  have hclass : Admits s { s with tools := modifyAt s.tools m (fun k => { k with state := wearClass s.tools[m] }) } :=
    Fades.admits .of_same .of_events
  unfold classifyTool
  dsimp only
  split
  · exact hclass
  · split
    · exact hclass.trans (raise_admits _ _)
    · exact hclass.trans (raise_admits _ _)
    · exact hclass

theorem addWear_admits (m : Fin 4) (length : Option Nat) (s : State) : Admits s (addWear m length s) := by
  unfold addWear
  split
  · exact .refl s
  · exact (Fades.admits .of_same .of_events).trans (classifyTool_admits _ _ _)

theorem evalPermit_admits (s : State) : Admits s (evalPermit s) :=
  (evalPermit_fades s).admits (evalPermit_works s).toFlagsStay

/-- A release admits the head strip with AGE 0 (R73). -/
theorem releaseHead_admits (m : Fin 4) (r : Strip) (s : State) : Admits s (releaseHead m r s) := by
  have hrecord : Admits s (updateStrip r.ticket (releasedStrip m s.tools[m]) s) :=
    (updateStrip_fades (f := releasedStrip m s.tools[m]) r.ticket (fun _ => rfl) s).admits .of_events
  unfold releaseHead
  dsimp only
  refine Admits.trans ?_ ((evalPermit_admits _).trans (addWear_admits _ _ _))
  refine ⟨.of_events, hrecord.strips, fun e he => (List.mem_append.1 he).imp id fun hnew => ?_⟩
  rw [List.mem_singleton.1 hnew]

theorem releaseTest_admits (s : State) : Admits s (releaseTest s) := by
  unfold releaseTest
  split
  · exact releaseHead_admits _ _ s
  · split
    · exact Admits.trans (Fades.admits .of_same .of_events) (raise_admits _ _)
    · exact .refl s
  · exact .refl s

theorem unmount_admits (s : State) : Admits s (unmount s) := by
  rw [unmount_eq]
  exact Fades.admits .of_same .of_events

theorem drainTest_admits (s : State) : Admits s (drainTest s) := by
  have hchange (m : Fin 4) : Admits s (completeChange m s) :=
    ((unmount_admits s).trans (classifyTool_admits m .unmounted _)).trans <|
      Admits.trans (Fades.admits .of_same .of_events) ((raise_admits .toolChanged _).trans (releaseTest_admits _))
  unfold drainTest
  split
  · exact .refl s
  · split
    · exact hchange _
    · exact .refl s

theorem retire_admits (n : Nat) (why : RetireReason) (s : State) : Admits s (retire n why s) :=
  ((dropPlan_fades n s).trans (retire_dropped n why s).2).admits (retire_works n why s).toFlagsStay

/-! ### The late entries, and a round of the monitor (R78) -/

theorem lateHead_eq_some : lateHead s = some e ↔ s.moulder.head? = some e ∧ getPar s .moulderTransitMs < e.age := by
  simp [lateHead]

theorem lateHead_eq_none :
    lateHead s = none ↔ ∀ e, s.moulder.head? = some e → e.age ≤ getPar s .moulderTransitMs := by
  simp [lateHead, Option.filter_eq_none_iff]

/-- The entries of the moulder queue whose AGE exceeds MOULDER_TRANSIT_MS. -/
def lateEntries (s : State) : Finset MoulderEntry :=
  (s.moulder.filter (fun e => getPar s .moulderTransitMs < e.age)).toFinset

theorem mem_lateEntries : e ∈ lateEntries s ↔ e ∈ s.moulder ∧ getPar s .moulderTransitMs < e.age := by
  simp [lateEntries]

theorem lateEntries_card_le (s : State) : (lateEntries s).card ≤ s.moulder.length :=
  (List.toFinset_card_le _).trans (List.length_filter_le _ _)

theorem lateHead_mem (h : lateHead s = some e) : e ∈ lateEntries s := by
  obtain ⟨hhead, hage⟩ := lateHead_eq_some.1 h
  exact mem_lateEntries.2 ⟨List.mem_of_mem_head? hhead, hage⟩

/-- A late head written off: the retirement, the release test, the drain test (R78). -/
def writeOff (e : MoulderEntry) (s : State) : State :=
  drainTest (releaseTest (retire e.ticket .lostMoulder s))

theorem writeOff_frame (e : MoulderEntry) (s : State) : LineFrame s (writeOff e s) :=
  ((retire_frame _ _ s).trans (releaseTest_frame _)).trans (drainTest_frame _)

theorem retired_admits_writeOff (e : MoulderEntry) (s : State) : Admits (retire e.ticket .lostMoulder s) (writeOff e s) :=
  (releaseTest_admits _).trans (drainTest_admits _)

/-- A round takes its entry from the late ones and adds none: a strip admitted has AGE 0. -/
theorem lateEntries_writeOff (h : lateHead s = some e) : lateEntries (writeOff e s) ⊂ lateEntries s := by
  have hlimit := getPar_of_params (writeOff_frame e s).params .moulderTransitMs
  have hlate (d : MoulderEntry) (hd : d ∈ lateEntries (writeOff e s)) :
      d ∈ (retire e.ticket .lostMoulder s).moulder ∧ getPar s .moulderTransitMs < d.age := by
    obtain ⟨hmem, hage⟩ := mem_lateEntries.1 hd
    rw [hlimit] at hage
    exact ⟨((retired_admits_writeOff e s).moulder d hmem).resolve_right (by omega), hage⟩
  refine (Finset.ssubset_iff_of_subset fun d hd => ?_).2 ⟨e, lateHead_mem h, fun he => ?_⟩
  · obtain ⟨hmem, hage⟩ := hlate d hd
    exact mem_lateEntries.2 ⟨((retire_admits _ _ s).moulder d hmem).resolve_right (by omega), hage⟩
  · exact (retire_dropped _ _ s).1.moulder e (hlate e he).1 rfl

theorem lateEntries_writeOff_card (h : lateHead s = some e) :
    (lateEntries (writeOff e s)).card < (lateEntries s).card :=
  Finset.card_lt_card (lateEntries_writeOff h)

theorem lateEntries_card_pos (h : lateHead s = some e) : 0 < (lateEntries s).card :=
  Finset.card_pos.2 ⟨e, lateHead_mem h⟩

/-! ### The rounds of the monitor -/

theorem transitTest_onTime (h : lateHead s = none) (n : Nat) : transitTest n s = s := by
  cases n with
  | zero => rfl
  | succ n => simp only [transitTest, h]

theorem transitTest_late (h : lateHead s = some e) (n : Nat) : transitTest (n + 1) s = transitTest n (writeOff e s) := by
  simp only [transitTest, h]
  rfl

theorem transitTest_admits (n : Nat) (s : State) : Admits s (transitTest n s) := by
  induction n generalizing s with
  | zero => exact .refl s
  | succ n ih =>
    cases h : lateHead s with
    | none => rw [transitTest_onTime h]; exact .refl s
    | some e =>
      rw [transitTest_late h]
      exact (retire_admits _ _ s).trans ((retired_admits_writeOff e s).trans (ih _))

/-- As many rounds as there are late entries leave no late head. -/
theorem lateHead_transitTest (h : (lateEntries s).card ≤ n) : lateHead (transitTest n s) = none := by
  induction n generalizing s with
  | zero =>
    refine Option.eq_none_iff_forall_ne_some.2 fun e he => ?_
    have hpos := lateEntries_card_pos (s := s) he
    omega
  | succ n ih =>
    cases he : lateHead s with
    | none => rw [transitTest_onTime he]; exact he
    | some e =>
      have hfewer := lateEntries_writeOff_card he
      rw [transitTest_late he]
      exact ih (by omega)

/-- More rounds than there are late entries change nothing. -/
theorem transitTest_enough {k : Nat} (hn : (lateEntries s).card ≤ n) (hk : (lateEntries s).card ≤ k) :
    transitTest n s = transitTest k s := by
  induction n generalizing s k with
  | zero => exact (transitTest_onTime (lateHead_transitTest hn) k).symm
  | succ n ih =>
    cases he : lateHead s with
    | none => rw [transitTest_onTime he, transitTest_onTime he]
    | some e =>
      have hfewer := lateEntries_writeOff_card he
      obtain ⟨j, rfl⟩ : ∃ j, k = j + 1 := ⟨k - 1, by omega⟩
      rw [transitTest_late he, transitTest_late he]
      exact ih (by omega) (by omega)

theorem LineFrame.resetHeld (h : LineFrame s t) : t.resetHeld = s.resetHeld := by
  unfold LineFrame at h
  rw [h]

/-- The monitor at a late head is the monitor after its round. -/
theorem exec_moulderTransitExpiry_late (hreset : s.resetHeld = false) (h : lateHead s = some e) :
    exec .moulderTransitExpiry (writeOff e s) = exec .moulderTransitExpiry s := by
  have hfewer := lateEntries_writeOff_card h
  have hcard := lateEntries_card_le s
  obtain ⟨n, hn⟩ : ∃ n, s.moulder.length = n + 1 := ⟨s.moulder.length - 1, by omega⟩
  rw [exec_moulderTransitExpiry hreset, exec_moulderTransitExpiry ((writeOff_frame e s).resetHeld.trans hreset), hn,
    transitTest_late h, transitTest_enough (lateEntries_card_le _) (show _ ≤ n by omega)]

/-- A strip written off is lost for good: its flag is set, no record has its ticket (R78, R24). -/
theorem transitTest_lost (h : lateHead s = some e) (n : Nat) :
    (transitTest (n + 1) s).events[eventIdx .lostMoulder].flag = true ∧
      findStrip e.ticket (transitTest (n + 1) s) = none := by
  have hadmits : Admits (retire e.ticket .lostMoulder s) (transitTest (n + 1) s) := by
    rw [transitTest_late h]
    exact (retired_admits_writeOff e s).trans (transitTest_admits _ _)
  refine ⟨hadmits.flags _ ?_, List.find?_eq_none.2 fun r hr => ?_⟩
  · rw [retire_of_event (k := .lostMoulder) rfl]
    exact raise_flag _ _
  · obtain ⟨q, hq, hqr⟩ := hadmits.strips r hr
    simpa [hqr] using (retire_dropped _ _ s).1.strips q hq

theorem transitMonitor : Claims.TransitMonitor := by
  intro s hreset
  have hframe := transitTest_frame s.moulder.length s
  have hlimit := getPar_of_params hframe.params .moulderTransitMs
  refine ⟨_, exec_moulderTransitExpiry hreset, hframe, ?_, fun h => transitTest_onTime (lateHead_eq_none.2 h) _,
    fun e hhead hage => ?_⟩
  · rw [← hlimit]
    exact lateHead_eq_none.1 (lateHead_transitTest (lateEntries_card_le s))
  · have hlate : lateHead s = some e := lateHead_eq_some.2 ⟨hhead, hage⟩
    obtain ⟨n, hn⟩ : ∃ n, s.moulder.length = n + 1 :=
      ⟨s.moulder.length - 1, by have := lateEntries_card_le s; have := lateEntries_card_pos hlate; omega⟩
    obtain ⟨hflag, hrecord⟩ := transitTest_lost hlate n
    rw [hn]
    refine ⟨hflag, hrecord, ?_⟩
    rw [← hn, ← exec_moulderTransitExpiry hreset]
    exact exec_moulderTransitExpiry_late hreset hlate

end Sys2Proof.Machine

section

open Sys2Proof Sys2Proof.Machine

/-- Settles O28: the timers by whether they have run out, the monitor by the late entries that each round leaves. -/
theorem timersOfTheGate : Obligations.TimersOfTheGate := ⟨gateAndPulseTimers, transitMonitor⟩

end

/-! PROOFS. The match at PE3 (R79 to R81, R90). -/

namespace Sys2Proof.Machine

open Sys2Proof

set_option Elab.async false

variable {s : State} {e : MoulderEntry} {rest : List MoulderEntry}

/-- What the worn-tool cap makes of a disposition (R81). -/
theorem capped_graded_eq (cap : Nat) (g : Grade) :
    capped cap (.graded g) = if 1 ≤ cap ∧ cap ≤ 6 ∧ g.val + 1 < cap then .graded (Fin.ofNat 6 (cap - 1)) else .graded g := by
  by_cases hcap : 1 ≤ cap ∧ cap ≤ 6
  · have hgrade : (⟨cap - 1, by omega⟩ : Fin 6) = Fin.ofNat 6 (cap - 1) :=
      Fin.ext (Nat.mod_eq_of_lt (by omega)).symm
    rw [capped, dif_pos hcap, hgrade]
    simp only [hcap, true_and]
  · have hoff : ¬ (1 ≤ cap ∧ cap ≤ 6 ∧ g.val + 1 < cap) := fun ⟨hlow, hhigh, _⟩ => hcap ⟨hlow, hhigh⟩
    rw [capped, dif_neg hcap, if_neg hoff]

/-- A record after its match: AT_TRANSFER, the worn-tool cap applied (R79, R81). -/
def matchedStrip (cap : Nat) (r : Strip) : Strip := applyCap cap { r with stage := .atTransfer }

theorem matchedStrip_eq (cap : Nat) (r : Strip) :
    matchedStrip cap r = { r with
      stage := .atTransfer,
      disposition := match r.disposition with
        | some (.graded g) =>
          if r.wornAtRelease = some true ∧ 1 ≤ cap ∧ cap ≤ 6 ∧ g.val + 1 < cap then
            some (.graded (Fin.ofNat 6 (cap - 1))) else some (.graded g)
        | d => d } := by
  unfold matchedStrip applyCap
  by_cases hworn : r.wornAtRelease = some true
  case neg =>
    simp only [hworn, if_false, false_and]
    split
    · next hd => rw [← hd]
    · rfl
  cases hd : r.disposition with
  | none => simp [hworn]
  | some d =>
    cases d with
    | graded g => simp only [hworn, if_true, true_and, Option.map_some, capped_graded_eq, apply_ite some]
    | hold => simp [hworn, capped]
    | trimOut => simp [hworn, capped]
    | rejected => simp [hworn, capped]

theorem updateStrip_updateStrip {f : Strip → Strip} (hf : ∀ r, (f r).ticket = r.ticket) (g : Strip → Strip) (n : Nat)
    (s : State) : updateStrip n g (updateStrip n f s) = updateStrip n (g ∘ f) s := by
  have hboth (r : Strip) : (if (if r.ticket = n then f r else r).ticket = n then g (if r.ticket = n then f r else r)
      else if r.ticket = n then f r else r) = if r.ticket = n then (g ∘ f) r else r := by
    by_cases h : r.ticket = n
    · simp [h, hf]
    · simp [h]
  simp only [updateStrip, List.map_map, Function.comp_def, hboth]

theorem pe3Edge_empty (h : s.moulder = []) : pe3Edge s = raise .phantomMoulder s := by
  simp only [pe3Edge, h]

/-- A strip enters transfer holding with its window (R79). -/
def enterHolding (n window : Nat) (s : State) : State := { s with holding := some n, window := window }

/-- The match: the head entry leaves the queue, its strip enters transfer holding (R79, R81, R90). -/
theorem pe3Edge_match (h : s.moulder = e :: rest) :
    pe3Edge s = drainTest (releaseTest (updateStrip e.ticket (matchedStrip (getPar s .wornGradeCap))
      (enterHolding e.ticket (getPar s .transferWindow) (displaceHolding { s with moulder := rest })))) := by
  have hparams : (displaceHolding { s with moulder := rest }).params = s.params :=
    (displaceHolding_frame { s with moulder := rest }).params
  have hmatch : pe3Edge s = drainTest (releaseTest (updateStrip e.ticket
      (applyCap (getPar (displaceHolding { s with moulder := rest }) .wornGradeCap))
      (updateStrip e.ticket (fun r => { r with stage := .atTransfer })
        (enterHolding e.ticket (getPar (displaceHolding { s with moulder := rest }) .transferWindow)
          (displaceHolding { s with moulder := rest }))))) := by
    simp only [pe3Edge, h]
    rfl
  rw [hmatch, updateStrip_updateStrip (f := fun r => { r with stage := .atTransfer }) (fun _ => rfl),
    getPar_of_params hparams, getPar_of_params hparams]
  rfl

end Sys2Proof.Machine

section

open Sys2Proof Sys2Proof.Machine

/-- Settles O29: the edge by whether the moulder queue is empty, the record by the cap on its disposition. -/
theorem matchAtPe3 : Obligations.MatchAtPe3 := by
  refine ⟨fun s h => pe3Edge_empty h, fun s e rest h => ?_⟩
  intro u v cap lowered
  have hmatched : matchedStrip cap = fun r => { r with stage := .atTransfer, disposition := lowered r } :=
    funext fun r => matchedStrip_eq cap r
  rw [pe3Edge_match h]
  show drainTest (releaseTest (updateStrip e.ticket (matchedStrip cap) _)) = _
  rw [hmatched]
  rfl

end

/-! PROOFS. The ring of lugs: an advance and a retreat move HEAD by one and leave the lug at offset 39 empty (R86, R87, R98),
and every step keeps it empty, SAW_DONE clear on every empty lug, and WINDOW 0 while HOLDING is empty (R89, R96). Away from
a reset, an advance and a retreat the chain stands: `Stands s t` says it of two states, one lemma for each operation along
the operations' own call graph, of the form that what has stood so far still stands after the operation. -/

namespace Sys2Proof.Machine

open Sys2Proof

set_option Elab.async false

/-! ### What stands away from a move -/

/-- The lug at offset 39 is empty (R86, R89). -/
def State.LastEmpty (s : State) : Prop := s.lugs[lugAt s 39].ticket = none

/-- SAW_DONE is clear on every empty lug (R96). -/
def State.SawsClear (s : State) : Prop := ∀ j : Fin 40, s.lugs[j].ticket = none → s.lugs[j].sawDone = false

/-- From `s` to `t` the chain has not moved, and what is sound of lugs and holding is so still. -/
structure Stands (s t : State) : Prop where
  head      : t.head = s.head
  pitchRef  : t.pitchRef = s.pitchRef
  lastPitch : t.lastPitch = s.lastPitch
  last      : s.LastEmpty → t.LastEmpty
  saws      : s.SawsClear → t.SawsClear
  window    : s.WindowSound → t.WindowSound

variable {s t u : State}

theorem State.LastEmpty.of_same (hs : s.LastEmpty) (hhead : t.head = s.head) (hlugs : t.lugs = s.lugs) : t.LastEmpty := by
  simpa only [State.LastEmpty, lugAt, hhead, hlugs] using hs

theorem State.SawsClear.of_same (hs : s.SawsClear) (hlugs : t.lugs = s.lugs) : t.SawsClear := by
  unfold State.SawsClear
  rwa [hlugs]

theorem Stands.refl (s : State) : Stands s s := ⟨rfl, rfl, rfl, id, id, id⟩

/-- An update away from the chain and from holding. -/
theorem Stands.still (h : Stands s t) (hhead : u.head = t.head := by rfl) (hlugs : u.lugs = t.lugs := by rfl)
    (hholding : u.holding = t.holding := by rfl) (hwindow : u.window = t.window := by rfl)
    (href : u.pitchRef = t.pitchRef := by rfl) (hpitch : u.lastPitch = t.lastPitch := by rfl) : Stands s u where
  head := hhead.trans h.head
  pitchRef := href.trans h.pitchRef
  lastPitch := hpitch.trans h.lastPitch
  last hs := (h.last hs).of_same hhead hlugs
  saws hs := (h.saws hs).of_same hlugs
  window hs hnone := hwindow.trans (h.window hs (hholding.symm.trans hnone))

theorem Stands.foldl {α : Type} {f : State → α → State} (hf : ∀ t a, Stands s t → Stands s (f t a)) (h : Stands s t)
    (xs : List α) : Stands s (xs.foldl f t) := by
  induction xs generalizing t with
  | nil => exact h
  | cons a as ih => exact ih (hf t a h)

/-- An update of lugs that fills none: each stays, keeps its ticket, or is emptied. -/
theorem Stands.setLugs (h : Stands s t) {lugs : Vector Lug 40}
    (hlugs : ∀ j : Fin 40, lugs[j] = t.lugs[j] ∨ (lugs[j].ticket = t.lugs[j].ticket ∧ t.lugs[j].ticket ≠ none) ∨
      lugs[j] = emptyLug) : Stands s { t with lugs := lugs } := by
  refine { h with last := fun hs => ?_, saws := fun hs j hj => ?_ }
  · have hempty : t.lugs[lugAt t 39].ticket = none := h.last hs
    show lugs[lugAt t 39].ticket = none
    obtain hsame | ⟨-, hfull⟩ | hnew := hlugs (lugAt t 39)
    · rw [hsame, hempty]
    · exact absurd hempty hfull
    · rw [hnew]; rfl
  · change lugs[j].ticket = none at hj
    show lugs[j].sawDone = false
    obtain hsame | ⟨hticket, hfull⟩ | hnew := hlugs j
    · rw [hsame] at hj ⊢
      exact h.saws hs j hj
    · exact absurd (hticket.symm.trans hj) hfull
    · rw [hnew]; rfl

/-! ### Lugs and holding -/

theorem setSawDone_stands {j : Fin 40} {n : Nat} (h : Stands s t) : Stands s (setSawDone j n t) := by
  refine h.setLugs fun k => ?_
  rw [modifyAt_get]
  split
  · split
    · next hticket => exact .inr (.inl ⟨rfl, by rw [hticket]; exact Option.some_ne_none n⟩)
    · exact .inl rfl
  · exact .inl rfl

theorem clearLugsOf_stands {n : Nat} (h : Stands s t) : Stands s (clearLugsOf n t) := by
  refine h.setLugs fun k => ?_
  rw [Fin.getElem_fin, mapTable_get]
  split
  · exact .inr (.inr rfl)
  · exact .inl rfl

/-- An update of holding and its window: WINDOW is 0, or a strip is held (05 section 5.1). -/
theorem Stands.setHolding (h : Stands s t) {held : Option Nat} {w : Nat} (hw : held = none → w = 0) :
    Stands s { t with holding := held, window := w } :=
  { h with window := fun _ => hw }

theorem updateStrip_stands {n : Nat} {f : Strip → Strip} (h : Stands s t) : Stands s (updateStrip n f t) := h.still

theorem leaveHolding_stands {n : Nat} (h : Stands s t) : Stands s (leaveHolding n t) := by
  unfold leaveHolding
  split
  · exact h.setHolding fun _ => rfl
  · exact h

/-! ### Raising an event (R116, R117) -/

theorem raiseQuiet_stands {k : EventKind} (h : Stands s t) : Stands s (raiseQuiet k t) := by
  unfold raiseQuiet
  dsimp only
  split <;> exact h.still

theorem markMissedCut_stands {p : Pulse} (h : Stands s t) : Stands s (markMissedCut p t) := setSawDone_stands h.still

theorem missPulse_stands {r : EventKind → State → State} (hr : ∀ {k t}, Stands s t → Stands s (r k t)) {o : Fin 24}
    {p : Pulse} (h : Stands s t) : Stands s (missPulse r o p t) := by
  unfold missPulse
  split
  · exact hr (markMissedCut_stands h)
  · exact hr h

theorem stopActive_stands {o : Fin 24} {c : CountedOut} (h : Stands s t) : Stands s (stopActive o c t) := by
  unfold stopActive
  split
  · exact h
  · split
    · split
      · exact setSawDone_stands h
      · exact h
    · exact missPulse_stands raiseQuiet_stands h

theorem stopOut_stands (t : State) (o : Fin 24) (h : Stands s t) : Stands s (stopOut t o) := by
  have hactive : Stands s (stopActive o t.outs[o] (updateOut o idleOut t)) := stopActive_stands h.still
  unfold stopOut
  dsimp only
  split
  · exact hactive
  · exact missPulse_stands raiseQuiet_stands hactive

theorem stopPulses_stands (h : Stands s t) : Stands s (stopPulses t) := h.still

theorem releaseForced_stands (h : Stands s t) : Stands s (releaseForced t) := h.still

theorem enterLine_stands {after : LineState} (h : Stands s t) : Stands s (enterLine after t) := by
  have hline : Stands s { t with line := after } := h.still
  have hstopped := stopPulses_stands (hline.foldl stopOut_stands (indices 24))
  unfold enterLine
  dsimp only
  split <;> split
  · exact releaseForced_stands hstopped
  · exact h.still
  · exact hstopped
  · exact h.still

theorem raise_stands {k : EventKind} (h : Stands s t) : Stands s (raise k t) := by
  unfold raise
  dsimp only
  split
  · exact h.still
  · exact enterLine_stands h.still

/-! ### Records and places -/

theorem evalPermit_stands (h : Stands s t) : Stands s (evalPermit t) := by
  rw [evalPermit_eq]
  exact h.still

theorem dropPlan_stands {n : Nat} (h : Stands s t) : Stands s (dropPlan n t) := by
  unfold dropPlan
  split <;> exact h.still

theorem leaveInfeed_stands {n : Nat} (h : Stands s t) : Stands s (leaveInfeed n t) := by
  unfold leaveInfeed
  split
  · exact evalPermit_stands h.still
  · exact h

theorem freeSlot_stands {n : Nat} (h : Stands s t) : Stands s (freeSlot n t) := h.still

theorem leaveMoulder_stands {n : Nat} (h : Stands s t) : Stands s (leaveMoulder n t) := h.still

theorem withdrawPulses_stands {n : Nat} (h : Stands s t) : Stands s (withdrawPulses n t) := h.still

theorem retireCore_stands {n : Nat} (h : Stands s t) : Stands s (retireCore n t) :=
  withdrawPulses_stands <| clearLugsOf_stands <| leaveHolding_stands <| leaveMoulder_stands <| leaveInfeed_stands <|
    freeSlot_stands (dropPlan_stands h)

/-! ### Bundles, labels and the Dispatch Port -/

theorem retireBundle_stands {l : Fin 8} (h : Stands s t) : Stands s (retireBundle l t) := by
  unfold retireBundle
  dsimp only
  split <;> exact h.still

theorem bundleTest_stands {l : Fin 8} (h : Stands s t) : Stands s (bundleTest l t) := by
  unfold bundleTest
  split
  · split
    · exact retireBundle_stands h
    · exact h
  · exact h

theorem handLabelDone_stands {l : Fin 8} (h : Stands s t) : Stands s (handLabelDone l t) := bundleTest_stands h.still

theorem setCleared_stands {l : Fin 8} (h : Stands s t) : Stands s (setCleared l t) := bundleTest_stands h.still

theorem strobeTest_stands (h : Stands s t) : Stands s (strobeTest t) := by
  unfold strobeTest
  split
  · split <;> exact h.still
  · exact h

theorem startHandshake_stands (h : Stands s t) : Stands s (startHandshake t) := by
  unfold startHandshake
  split
  · exact strobeTest_stands h.still
  · exact h

theorem fillOne_stands (h : Stands s t) : Stands s (fillOne t) := by
  unfold fillOne
  split
  · split <;> exact h.still
  · exact h

theorem fillFifo_stands {n : Nat} (h : Stands s t) : Stands s (fillFifo n t) := by
  induction n generalizing t with
  | zero => exact h
  | succ n ih => exact ih (fillOne_stands h)

theorem composerTest_stands (h : Stands s t) : Stands s (composerTest t) := by
  unfold composerTest
  split
  · split
    · exact h
    · exact startHandshake_stands (fillFifo_stands h.still)
  · exact h

theorem completeByte_stands (h : Stands s t) : Stands s (completeByte t) := by
  unfold completeByte
  split
  · exact h
  · dsimp only
    refine startHandshake_stands ?_
    split
    · split
      · exact raise_stands h.still
      · exact h.still
    · split
      · split
        · exact composerTest_stands (handLabelDone_stands h.still)
        · exact fillOne_stands h.still
      · exact h.still
    · exact h.still

theorem busyEdge_stands {high : Bool} (h : Stands s t) : Stands s (busyEdge high t) := by
  unfold busyEdge
  split
  · exact h.still
  · split <;> exact h.still
  · exact h.still
  · exact completeByte_stands h
  · exact strobeTest_stands h
  · exact h

theorem endStrobe_stands (h : Stands s t) : Stands s (endStrobe t) := by
  unfold endStrobe
  dsimp only
  split
  · exact completeByte_stands h.still
  · split <;> exact h.still

theorem faultAsserted_stands (h : Stands s t) : Stands s (faultAsserted t) := by
  unfold faultAsserted
  refine raise_stands ?_
  split <;> exact h.still

theorem faultCleared_stands (h : Stands s t) : Stands s (faultCleared t) := by
  unfold faultCleared
  refine strobeTest_stands ?_
  split <;> exact h.still

theorem portTimeout_stands (h : Stands s t) : Stands s (portTimeout t) := by
  have hflushed : Stands s (raise .portTimeout (flushPort t)) := raise_stands h.still
  unfold portTimeout
  dsimp only
  split
  · unfold endTry
    split
    · exact composerTest_stands hflushed.still
    · split
      · exact composerTest_stands hflushed.still
      · exact composerTest_stands (raise_stands hflushed.still)
  · exact hflushed

/-! ### Lanes and drop watch -/

theorem closeBundle_stands {l : Fin 8} {why : CloseReason} (h : Stands s t) : Stands s (closeBundle l why t) := by
  have hclosed : Stands s (raise .bundleClosed (updateLane l (fun r => { r with state := .closed })
      (updateBundle l (fun b => { b with closeReason := some why }) t))) := raise_stands h.still
  unfold closeBundle
  dsimp only
  split
  · exact composerTest_stands hclosed.still
  · exact hclosed

theorem markDoubtful_stands {l : Fin 8} {n : Nat} (h : Stands s t) : Stands s (markDoubtful l n t) := by
  unfold markDoubtful
  split
  · split
    · dsimp only
      split <;> exact h.still
    · exact h
  · exact h

theorem expireWatch_stands {l : Fin 8} (h : Stands s t) : Stands s (expireWatch l t) := by
  unfold expireWatch
  split
  · exact h
  · dsimp only
    split
    · exact markDoubtful_stands (raise_stands h.still)
    · exact raise_stands h.still

theorem expireWatches_stands {l : Fin 8} {n : Nat} (h : Stands s t) : Stands s (expireWatches l n t) := by
  induction n generalizing t with
  | zero => exact h
  | succ n ih =>
    unfold expireWatches
    split
    · exact ih (expireWatch_stands h)
    · exact h

theorem appendWatch_stands {l : Fin 8} {w : Watch} (h : Stands s t) : Stands s (appendWatch l w t) := by
  unfold appendWatch
  dsimp only
  split
  · exact (expireWatch_stands h).still
  · exact h.still

theorem commitStrip_stands {l : Fin 8} {r : Strip} (h : Stands s t) : Stands s (commitStrip l r t) := by
  have hcounted : Stands s (countStrip l r t) := by
    unfold countStrip
    split <;> exact h.still
  have hwatched : Stands s (appendWatch l (commitWatch l (retireCore r.ticket (countStrip l r t)))
      (retireCore r.ticket (countStrip l r t))) := appendWatch_stands (retireCore_stands hcounted)
  unfold commitStrip
  dsimp only
  split
  · unfold closureTest
    split
    · exact hwatched
    · split
      · exact closeBundle_stands hwatched
      · split
        · exact closeBundle_stands hwatched
        · exact hwatched
  · exact hwatched

/-! ### Actuators -/

theorem takePoint_stands {o : Fin 24} {k : Point} (h : Stands s t) : Stands s (takePoint o k t) := by
  unfold takePoint
  dsimp only
  split
  · split
    · exact h.still
    · unfold pusherSetPoint
      split
      · exact commitStrip_stands h.still
      · exact (raise_stands (h.still (u := updateOut o (fun c => { c with active := none }) t))).still
  · split
    · exact (setSawDone_stands h).still
    · unfold pusherMerge
      split
      · exact commitStrip_stands h.still
      · exact raise_stands h.still
  · split
    · exact (setSawDone_stands h).still
    · exact h.still
  · exact h

theorem settle_stands {order : List (Fin 24)} {atCount : Bool} {n : Nat} (h : Stands s t) :
    Stands s (settle order atCount n t) := by
  induction n generalizing t with
  | zero => exact h
  | succ n ih =>
    unfold settle
    split
    · exact h
    · exact ih (takePoint_stands h)

theorem settleSets_stands (h : Stands s t) : Stands s (settleSets t) := settle_stands h

theorem retire_stands {n : Nat} {why : RetireReason} (h : Stands s t) : Stands s (retire n why t) := by
  have hsettled := settleSets_stands (retireCore_stands (n := n) h)
  unfold retire
  dsimp only
  split
  · exact hsettled
  · exact raise_stands hsettled

theorem arm_stands {o : Fin 24} {j : Fin 40} {n : Nat} {c0 : Pos} (h : Stands s t) : Stands s (arm o j n c0 t) := by
  have hlate {late : Bool} {t : State} (h : Stands s t) : Stands s (if late = true then raise .lateFire t else t) := by
    split
    · exact raise_stands h
    · exact h
  unfold arm
  dsimp only
  split
  · exact missPulse_stands raise_stands h
  · split
    · exact h
    · split
      · exact settleSets_stands (hlate h.still)
      · split
        · exact missPulse_stands raise_stands (hlate h)
        · exact settleSets_stands (hlate h.still)

theorem reverseOut_stands (t : State) (o : Fin 24) (h : Stands s t) : Stands s (reverseOut t o) := by
  unfold reverseOut
  dsimp only
  split
  · split
    · exact setSawDone_stands h.still
    · exact h.still
  · exact h.still

/-! ### Plans, reports, the gate and the tool sets -/

theorem startEvaluation_stands (h : Stands s t) : Stands s (startEvaluation t) := by
  unfold startEvaluation
  split
  · split <;> exact h.still
  · exact h

theorem finishEvaluation_stands (h : Stands s t) : Stands s (finishEvaluation t) := by
  unfold finishEvaluation
  split
  · exact h
  · dsimp only
    split <;> exact h.still

theorem withdrawReport_stands (t : State) (n : Nat) (h : Stands s t) : Stands s (withdrawReport t n) := by
  unfold withdrawReport
  dsimp only
  split <;> exact h.still

theorem takeReport_stands {a : Fin 4} {n thickness : Nat} {ds : List Defect} (h : Stands s t) :
    Stands s (takeReport a n thickness ds t) := by
  unfold takeReport
  dsimp only
  split <;> exact h.still

theorem classifyTool_stands {m : Fin 4} {before : ToolState} (h : Stands s t) : Stands s (classifyTool m before t) := by
  unfold classifyTool
  dsimp only
  split
  · exact h.still
  · split
    · exact raise_stands h.still
    · exact raise_stands h.still
    · exact h.still

theorem addWear_stands {m : Fin 4} {length : Option Nat} (h : Stands s t) : Stands s (addWear m length t) := by
  unfold addWear
  split
  · exact h
  · exact classifyTool_stands h.still

theorem releaseTest_stands (h : Stands s t) : Stands s (releaseTest t) := by
  unfold releaseTest
  split
  · exact addWear_stands (evalPermit_stands h.still)
  · split
    · exact raise_stands h.still
    · exact h
  · exact h

theorem drainTest_stands (h : Stands s t) : Stands s (drainTest t) := by
  have hunmounted : Stands s (unmount t) := by
    unfold unmount
    split <;> exact h.still
  unfold drainTest
  split
  · exact h
  · split
    · exact releaseTest_stands (raise_stands (classifyTool_stands hunmounted).still)
    · exact h

theorem transitTest_stands {n : Nat} (h : Stands s t) : Stands s (transitTest n t) := by
  induction n generalizing t with
  | zero => exact h
  | succ n ih =>
    unfold transitTest
    split
    · exact h
    · exact ih (drainTest_stands (releaseTest_stands (retire_stands h)))

/-- The strip that enters transfer holding is held with its window (R79). -/
theorem pe3Edge_stands (h : Stands s t) : Stands s (pe3Edge t) := by
  unfold pe3Edge
  split
  · exact raise_stands h
  · next e rest _ =>
    have hdisplaced : Stands s (displaceHolding { t with moulder := rest }) := by
      unfold displaceHolding
      split
      · exact h.still
      · exact retire_stands h.still
    have hheld := hdisplaced.setHolding (held := some e.ticket) (w := getPar (displaceHolding { t with moulder := rest })
      .transferWindow) fun hnone => by cases hnone
    exact drainTest_stands (releaseTest_stands (updateStrip_stands (updateStrip_stands hheld)))

theorem withdrawReports_stands {a : Fin 4} (h : Stands s t) : Stands s (withdrawReports a t) :=
  releaseTest_stands (h.foldl withdrawReport_stands _)

/-! ### The infeed queue -/

theorem doubtMeasuring_stands (h : Stands s t) : Stands s (doubtMeasuring t) := by
  unfold doubtMeasuring
  split <;> exact h.still

theorem joinInfeed_stands {stage : Stage} {add : Strip → Strip} (h : Stands s t) : Stands s (joinInfeed stage add t) :=
  evalPermit_stands h.still

theorem pe1Leading_stands {capture : Pos} (h : Stands s t) : Stands s (pe1Leading capture t) := by
  unfold pe1Leading
  split
  · exact joinInfeed_stands h
  · refine raise_stands ?_
    split <;> exact h.still

theorem pe1Trailing_stands {capture : Pos} (h : Stands s t) : Stands s (pe1Trailing capture t) := by
  unfold pe1Trailing joinIfReported
  split
  · exact h
  · split <;> exact h.still

theorem pe2Arrival_stands (h : Stands s t) : Stands s (pe2Arrival t) := by
  unfold pe2Arrival
  refine releaseTest_stands ?_
  split
  · unfold arriveStrip
    dsimp only
    split
    · exact h.still
    · split <;> exact h.still
  · unfold phantomGate
    dsimp only
    split
    · exact joinInfeed_stands (raise_stands h)
    · exact raise_stands h

/-! ### The encoders -/

theorem chPiece_stands {d : Direction} {turns : Bool} {outputs : List (Fin 24)} (t : State) (k : Fin 3)
    (h : Stands s t) : Stands s (chPiece d turns outputs t k) := by
  match k with
  | 0 => exact settle_stands h
  | 1 =>
    simp only [chPiece]
    split
    · exact h.foldl reverseOut_stands _
    · exact h
  | 2 =>
    simp only [chPiece, chReverseEvent]
    split
    · exact raise_stands h.still
    · exact h

theorem chCount_stands {a b : Bool} {d : Direction} {order : CountOrder} (h : Stands s t) :
    Stands s (chCount a b d order t) := by
  have hcounted : Stands s (speedCount d { t with ch := countEncoder a b d t.ch }) := by cases d <;> exact h.still
  exact hcounted.foldl chPiece_stands _

theorem setPair_stands {unit : EncUnit} {a b : Bool} (h : Stands s t) : Stands s (setPair unit a b t) := by
  cases unit <;> exact h.still

theorem infCount_stands {a b : Bool} {d : Direction} (h : Stands s t) : Stands s (infCount a b d t) := by
  unfold infCount
  extract_lets counted doubted
  have hcounted : Stands s counted := h.still
  have hdoubted : Stands s doubted := by
    unfold doubted
    split
    · exact doubtMeasuring_stands hcounted
    · exact hcounted
  split
  · exact raise_stands hdoubted.still
  · exact hdoubted

theorem encoderCount_stands {unit : EncUnit} {a b : Bool} {order : CountOrder} (h : Stands s t) :
    Stands s (encoderCount unit a b order t) := by
  unfold encoderCount
  split
  · split
    · exact setPair_stands h
    · exact infCount_stands h
  · split
    · exact setPair_stands h
    · exact chCount_stands h

/-! ### The lug chain: an advance and a retreat (R86 to R99) -/

/-- Offsets are counted from HEAD (R86). -/
theorem offsetOf_eq (s : State) (j : Fin 40) : offsetOf s j = (s.head.val + 40 - j.val) % 40 := by
  simp only [offsetOf, Fin.sub_def]
  congr 1
  omega

/-- The lug at a lug's offset is that lug (R86). -/
theorem lugAt_offsetOf (s : State) (j : Fin 40) : lugAt s (offsetOf s j) = j := by
  have hofNat : Fin.ofNat 40 (offsetOf s j) = s.head - j := Fin.ofNat_val_eq_self _
  rw [lugAt, hofNat, sub_sub_cancel]

/-- The lug at offset 39 is not at the load point (R86). -/
theorem lugAt_last_ne_head (s : State) : lugAt s 39 ≠ s.head := by
  have hall : ∀ h : Fin 40, h - Fin.ofNat 40 39 ≠ h := by decide
  exact hall s.head

/-- A strip put on the HEAD lug leaves the lug at offset 39 alone, and its own SAW_DONE is clear (R91, R92). -/
theorem putOnHead_stands {n : Nat} (h : Stands s t) : Stands s (putOnHead n t) := by
  have hget (j : Fin 40) : (t.lugs.set t.head { ticket := some n, sawDone := false })[j] =
      if j = t.head then { ticket := some n, sawDone := false } else t.lugs[j] := by
    rw [Fin.getElem_fin, Vector.getElem_set]
    simp only [Fin.ext_iff, eq_comm, Fin.getElem_fin]
  have hset : Stands s { t with lugs := t.lugs.set t.head { ticket := some n, sawDone := false } } := by
    refine { h with last := fun hs => ?_, saws := fun hs j hj => ?_ }
    · show (t.lugs.set t.head _)[lugAt t 39].ticket = none
      rw [hget, if_neg (lugAt_last_ne_head t)]
      exact h.last hs
    · change (t.lugs.set t.head _)[j].ticket = none at hj
      show (t.lugs.set t.head _)[j].sawDone = false
      rw [hget] at hj ⊢
      split
      · rfl
      · next hother => exact h.saws hs j (by rwa [if_neg hother] at hj)
  exact hset.still

theorem loadPoint_stands (h : Stands s t) : Stands s (loadPoint t) := by
  unfold loadPoint
  split
  · exact putOnHead_stands (h.setHolding fun _ => rfl)
  · exact putOnHead_stands (raise_stands h).still
  · next n _ hheld =>
    have hcounted : Stands s { t with window := t.window - 1 } :=
      { h with window := fun _ hnone => by cases hheld.symm.trans hnone }
    unfold countWindow
    dsimp only
    split
    · exact retire_stands hcounted
    · exact hcounted
  · exact h

theorem presenceCheck_stands (h : Stands s t) : Stands s (presenceCheck t) := by
  unfold presenceCheck
  split
  · exact retire_stands h
  · exact raise_stands h
  · exact h

theorem advancePart_stands {c0 : Pos} (t : State) (p : AdvancePart) (h : Stands s t) : Stands s (advancePart c0 t p) := by
  cases p with
  | piece k =>
    obtain hsame | ⟨o, j, n, harm⟩ := advancePiece_cases c0 t k
    · rw [advancePart, hsame]; exact h
    · rw [advancePart, harm]; exact arm_stands h
  | count a b order => exact encoderCount_stands (unit := .ch) h

/-- The chain has moved from `s` to `t`: HEAD and PITCH_REF as given, the lug at offset 39 empty, SAW_DONE and WINDOW sound
if they were. -/
structure Moved (head : Fin 40) (ref : Option Pos) (s t : State) : Prop where
  head     : t.head = head
  pitchRef : t.pitchRef = ref
  last     : t.LastEmpty
  saws     : s.SawsClear → t.SawsClear
  window   : s.WindowSound → t.WindowSound

theorem Moved.stands {head : Fin 40} {ref : Option Pos} (h : Moved head ref s t) (g : Stands t u) : Moved head ref s u where
  head := g.head.trans h.head
  pitchRef := g.pitchRef.trans h.pitchRef
  last := g.last h.last
  saws := g.saws ∘ h.saws
  window := g.window ∘ h.window

theorem carryOver_stands (h : Stands s t) : Stands s (carryOver t) := by
  unfold carryOver
  split
  · exact h
  · exact retire_stands h

/-- The lug at offset 39 loses its record, whatever it held (R89, R99). -/
theorem carryOver_last (s : State) : (carryOver s).LastEmpty := by
  have hat : lugAt (carryOver s) 39 = lugAt s 39 := by
    unfold lugAt
    rw [(carryOver_stands (.refl s)).head]
  have hempty : (carryOver s).lugs[lugAt s 39].ticket = none := by
    unfold carryOver
    split
    · next hnone => exact hnone
    · next n hn =>
      obtain ⟨hforgets, hfades⟩ := retire_dropped n .carryover s
      refine Option.eq_none_iff_forall_ne_some.2 fun m hm => ?_
      have hbefore := (dropPlan_fades n s).lugs _ m (hfades.lugs _ m hm)
      obtain rfl : n = m := Option.some.inj (hn.symm.trans hbefore)
      exact hforgets.lugs _ hm
  simpa only [State.LastEmpty, hat] using hempty

/-- Once HEAD and PITCH_REF are set, the carry-over completes the move (R87, R89, R98, R99). -/
theorem carryOver_moved {head : Fin 40} {ref : Option Pos} (hhead : t.head = head) (href : t.pitchRef = ref)
    (hlugs : t.lugs = s.lugs) (hholding : t.holding = s.holding) (hwindow : t.window = s.window) (g : Stands t u) :
    Moved head ref s (carryOver u) where
  head := (carryOver_stands g).head.trans hhead
  pitchRef := (carryOver_stands g).pitchRef.trans href
  last := carryOver_last u
  saws hs := (carryOver_stands g).saws (hs.of_same hlugs)
  window hs := (carryOver_stands g).window fun hnone => hwindow.trans (hs (hholding.symm.trans hnone))

theorem advance_moved (c0 : Pos) (parts : List AdvancePart) (s : State) :
    Moved (s.head + 1) (some c0) s (advance c0 parts s) := by
  have hchecked : Moved (s.head + 1) (some c0) s (carryOver (pitchCheck c0 { s with head := s.head + 1 })) := by
    unfold pitchCheck
    split
    · exact carryOver_moved (t := { s with head := s.head + 1, pitchRef := some c0 }) rfl rfl rfl rfl rfl (.refl _)
    · next ref _ =>
      refine carryOver_moved (t := { s with head := s.head + 1, pitchRef := some c0, lastPitch := some (signedDiff c0 ref) })
        rfl rfl rfl rfl rfl ?_
      dsimp only
      split
      · exact raise_stands (.refl _)
      · exact .refl _
  have hafter (t : State) : Stands t ((fullParts parts).foldl (advancePart c0) (presenceCheck (loadPoint t))) :=
    (presenceCheck_stands (loadPoint_stands (.refl t))).foldl advancePart_stands _
  exact hchecked.stands (hafter _)

theorem retreat_moved (s : State) : Moved (s.head - 1) none s (retreat s) :=
  carryOver_moved (t := { s with head := s.head - 1, pitchRef := none }) rfl rfl rfl rfl rfl (.refl _)

theorem retreat_lastPitch (s : State) : (retreat s).lastPitch = s.lastPitch :=
  (carryOver_stands (.refl { s with head := s.head - 1, pitchRef := none })).lastPitch

end Sys2Proof.Machine

section

open Sys2Proof Sys2Proof.Machine

/-- Settles O31: the carry-over empties the lug at offset 39, and what follows it lets the chain stand. -/
theorem theRingMovesByOneLug : Obligations.TheRingMovesByOneLug := by
  refine ⟨fun s j => ⟨offsetOf_eq s j, lugAt_offsetOf s j⟩, fun c0 parts s => ?_⟩
  have hadvance := advance_moved c0 parts s
  have hretreat := retreat_moved s
  exact ⟨hadvance.head, hadvance.pitchRef, hadvance.last, hretreat.head, hretreat.pitchRef, retreat_lastPitch s,
    hretreat.last⟩

end

/-! PROOFS. Every step keeps the ring (O58): the commands, each from what its work lets stand. -/

namespace Sys2Proof.Machine

open Sys2Proof

set_option Elab.async false

variable {s t u : State}

/-! ### What a step keeps of the ring -/

/-- From `s` to `t` the ring of lugs and the transfer window stay sound. -/
structure RingKept (s t : State) : Prop where
  ring   : s.RingSound → t.RingSound
  window : s.WindowSound → t.WindowSound

theorem RingKept.refl (s : State) : RingKept s s := ⟨id, id⟩

theorem RingKept.trans (h : RingKept s t) (g : RingKept t u) : RingKept s u := ⟨g.ring ∘ h.ring, g.window ∘ h.window⟩

theorem RingKept.foldl {α : Type} {f : State → α → State} (h : ∀ s a, RingKept s (f s a)) (xs : List α) (s : State) :
    RingKept s (xs.foldl f s) := by
  induction xs generalizing s with
  | nil => exact .refl s
  | cons a as ih => exact (h s a).trans (ih _)

theorem Stands.ringKept (h : Stands s t) : RingKept s t :=
  ⟨fun hs => ⟨h.last hs.last, h.saws hs.empty⟩, h.window⟩

theorem Moved.ringKept {head : Fin 40} {ref : Option Pos} (h : Moved head ref s t) : RingKept s t :=
  ⟨fun hs => ⟨h.last, h.saws hs.empty⟩, h.window⟩

/-- A reset puts the ring in order (R204, R205). -/
theorem Stands.ringKept_of_reset (h : Stands State.reset t) : RingKept s t :=
  ⟨fun _ => h.ringKept.ring reset_ringSound, fun _ => h.window fun _ => rfl⟩

/-! ### A tick of the channels -/

theorem deliverEdge_ringKept (parts : List AdvancePart) (i : Fin 6) (k : EdgeKind) (s : State) :
    RingKept s (deliverEdge parts i k s) := by
  have hstay : Stands s s := .refl s
  unfold deliverEdge
  split
  · exact (pe1Leading_stands hstay).ringKept
  · exact (pe1Trailing_stands hstay).ringKept
  · exact (pe2Arrival_stands hstay).ringKept
  · exact (pe3Edge_stands hstay).ringKept
  · unfold lugEdge
    split
    · exact (advance_moved _ _ s).ringKept
    · exact (retreat_moved s).ringKept
  · exact .refl s

theorem sampleChannel_ringKept (raw : BitVec 6) (parts : List AdvancePart) (s : State) (i : Fin 6) :
    RingKept s (sampleChannel raw parts s i) := by
  have hstay : Stands s s := .refl s
  have hnotice : Stands s (sampleNotice raw s i) := by
    unfold sampleNotice glitchNotice
    dsimp only
    split
    · exact doubtMeasuring_stands hstay.still
    · exact hstay.still
  rw [sampleChannel_eq]
  split
  · exact hnotice.ringKept
  · exact hnotice.ringKept.trans (deliverEdge_ringKept _ _ _ _)

theorem jamExpiry_stands {i : Fin 6} (h : Stands s t) : Stands s (jamExpiry i t) := by
  unfold jamExpiry
  dsimp only
  split
  · exact raise_stands h.still
  · exact h.still

/-! ### Settings and the line -/

theorem adjustOthers_stands {p : Param} {v : Nat} (h : Stands s t) : Stands s (adjustOthers p (putPar p v t)) := by
  rw [stored_params]
  exact h.still

theorem paramEffect_stands {p : Param} (h : Stands s t) : Stands s (paramEffect p t) := by
  unfold paramEffect
  split
  · exact evalPermit_stands h
  · exact evalPermit_stands h
  · exact releaseTest_stands h
  · exact transitTest_stands h
  · exact h.foldl (fun _ _ => expireWatches_stands) _
  · exact h

theorem setParam_stands {code : Byte} {value : BitVec 32} (h : Stands s t) : Stands s (setParam code value t).1 := by
  unfold setParam
  split
  · exact h
  · dsimp only
    split
    · exact h
    · exact paramEffect_stands (adjustOthers_stands h)

theorem changeLine_stands {after : LineState} (h : Stands s t) : Stands s (changeLine after t) :=
  releaseTest_stands (enterLine_stands h)

theorem lineStart_stands (h : Stands s t) : Stands s (lineStart t).1 := by
  unfold lineStart
  split
  · exact changeLine_stands h
  · exact changeLine_stands h
  · exact h
  · exact h

theorem lineHold_stands (h : Stands s t) : Stands s (lineHold t).1 := by
  unfold lineHold
  split
  · exact changeLine_stands h
  · exact h
  · exact h
  · exact h

theorem lineStop_stands (h : Stands s t) : Stands s (lineStop t).1 := by
  unfold lineStop
  split
  · exact changeLine_stands h
  · exact changeLine_stands h
  · exact h
  · exact h

theorem faultAck_stands (h : Stands s t) : Stands s (faultAck t).1 := by
  unfold faultAck
  split
  · split
    · exact h
    · exact changeLine_stands h
  · exact h
  · exact h
  · exact h

/-- Every lug and transfer holding are emptied (R104, R206). -/
theorem clearTracking_stands (h : Stands s t) : Stands s (clearTracking t) := by
  rw [clearTracking_eq]
  exact { h with
    last := fun _ => by simp [State.LastEmpty], saws := fun _ j _ => by simp, window := fun _ _ => rfl }

theorem trackClear_stands (h : Stands s t) : Stands s (trackClear t).1 := by
  unfold trackClear
  split
  · exact releaseTest_stands (drainTest_stands (clearTracking_stands h))
  · exact h

theorem clearFlag_stands (t : State) (k : EventKind) (h : Stands s t) : Stands s (clearFlag t k) := h.still

theorem clearEvents_stands {bytes : List Byte} (h : Stands s t) : Stands s (clearEvents bytes t).1 := by
  unfold clearEvents
  split
  · exact h.foldl clearFlag_stands _
  · exact h

theorem setEventRoute_stands {kind route masked severity : Byte} (h : Stands s t) :
    Stands s (setEventRoute kind route masked severity t).1 := by
  unfold setEventRoute
  split <;> exact h.still

theorem setEscalation_stands {value : Byte} (h : Stands s t) : Stands s (setEscalation value t).1 := by
  unfold setEscalation
  split <;> exact h.still

theorem setOutputs_stands {setCount : Byte} {bytes : List Byte} (h : Stands s t) :
    Stands s (setOutputs setCount bytes t).1 := by
  have hforced (outs : Vector CountedOut 24) (pulses : Vector PulseOut 3) :
      Stands s { t with outs := outs, pulses := pulses } := h.still
  unfold setOutputs
  dsimp only
  split
  · exact h
  · split
    · exact h
    · exact hforced _ _

theorem setGrade_stands {row enabled : Byte} {maxDensity : BitVec 16} {maxSize : Vector Byte 8} {price : Byte}
    (h : Stands s t) : Stands s (setGrade row enabled maxDensity maxSize price t).1 := by
  unfold setGrade
  split
  · split <;> exact h.still
  · exact h

theorem setSawMap_stands {bytes : List Byte} (h : Stands s t) : Stands s (setSawMap bytes t).1 := by
  unfold setSawMap
  dsimp only
  split
  · exact h
  · split <;> exact h.still

theorem setFilter_stands {channel mode : Byte} {threshold jamMs : BitVec 16} (h : Stands s t) :
    Stands s (setFilter channel mode threshold jamMs t).1 := by
  unfold setFilter
  split <;> exact h.still

theorem clearGlitch_stands {channel : Byte} (h : Stands s t) : Stands s (clearGlitch channel t).1 := by
  unfold clearGlitch
  split <;> exact h.still

/-! ### Records, the gate and tool sets by command -/

theorem regrade_stands {ticket : Nat} {value : Byte} (h : Stands s t) : Stands s (regrade ticket value t).1 := by
  unfold regrade
  split
  · exact h
  · split <;> exact h.still

theorem purge_stands {ticket : Nat} (h : Stands s t) : Stands s (purge ticket t).1 := by
  unfold purge
  split
  · exact h
  · split
    · exact retire_stands (n := ticket) (why := .purged) h
    · exact h

theorem ejectHead_stands (h : Stands s t) : Stands s (ejectHead t).1 := by
  have hejected (r : Strip) : Stands s (retire r.ticket .ejected (startPulse .eject .ejectPulseMs t)) :=
    retire_stands h.still
  unfold ejectHead
  split
  · exact h
  · split
    · exact h
    · exact releaseTest_stands (hejected _).still

theorem setTool_stands {set profile width : Byte} {life : BitVec 16} {warnPct : Byte} (h : Stands s t) :
    Stands s (setTool set profile width life warnPct t).1 := by
  unfold setTool
  split
  · exact h
  · split <;> exact h.still

theorem changeTools_stands {set : Byte} (h : Stands s t) : Stands s (changeTools set t).1 := by
  unfold changeTools
  split
  · exact h
  · split
    · dsimp only [okay]
      exact drainTest_stands h.still
    · exact h

theorem cancelChange_stands (h : Stands s t) : Stands s (cancelChange t).1 := by
  unfold cancelChange
  split
  · exact releaseTest_stands h.still
  · exact h

theorem resetWear_stands {set : Byte} (h : Stands s t) : Stands s (resetWear set t).1 := by
  unfold resetWear
  split
  · exact h
  · split <;> exact h.still

/-! ### Lanes, labels and the Dispatch Port by command -/

theorem setLane_stands {lane kind dropOffset grade : Byte} {minK maxK : BitVec 16} {alternate : Byte}
    {target : BitVec 16} {maxStrips : Byte} {shortMm : BitVec 16} {mixPct : Byte} (h : Stands s t) :
    Stands s (setLane lane kind dropOffset grade minK maxK alternate target maxStrips shortMm mixPct t).1 := by
  unfold setLane
  split
  · split
    · exact h
    · unfold writeLane
      dsimp only
      split
      · exact h
      · split <;> exact h.still
  · exact h

theorem laneEnable_stands {lane value : Byte} (h : Stands s t) : Stands s (laneEnable lane value t).1 := by
  unfold laneEnable
  split
  · unfold laneOn
    split <;> exact h.still
  · unfold laneOff
    dsimp only
    split
    · exact h.still
    · split
      · exact h.still
      · exact closeBundle_stands h.still
    · exact h.still
  · exact h

theorem forceClose_stands {lane : Byte} (h : Stands s t) : Stands s (forceClose lane t).1 := by
  unfold forceClose
  split
  · exact h
  · split
    · exact h
    · split
      · exact h
      · exact closeBundle_stands h

theorem confirmClear_stands {lane : Byte} (h : Stands s t) : Stands s (confirmClear lane t).1 := by
  unfold confirmClear
  split
  · exact h
  · split
    · exact setCleared_stands h
    · exact h

theorem labelRetry_stands {lane : Byte} (h : Stands s t) : Stands s (labelRetry lane t).1 := by
  unfold labelRetry
  split
  · exact h
  · split
    · exact h
    · split
      · exact composerTest_stands h.still
      · exact h

theorem labelDiscard_stands {lane : Byte} (h : Stands s t) : Stands s (labelDiscard lane t).1 := by
  unfold labelDiscard
  split
  · exact h
  · split
    · exact h
    · split
      · exact h
      · exact handLabelDone_stands h.still

theorem returnPrinting_stands (h : Stands s t) : Stands s (returnPrinting t) := by
  unfold returnPrinting
  split <;> exact h.still

theorem portMode_stands {mode : Byte} (h : Stands s t) : Stands s (portMode mode t).1 := by
  unfold portMode
  split
  · unfold changeMode
    split
    · exact h.still
    · exact h.still
    · split
      · exact composerTest_stands h.still
      · exact h
    · exact h
    · exact (returnPrinting_stands h).still
    · exact (returnPrinting_stands h).still
    · exact h
    · exact h
    · exact h
  · exact h

theorem portWrite_stands {bytes : List Byte} (h : Stands s t) : Stands s (portWrite bytes t).1 := by
  unfold portWrite
  split
  · exact h
  · split
    · exact h
    · exact startHandshake_stands h.still

/-! ### The Station Link -/

theorem beginPoll_stands (h : Stands s t) : Stands s (beginPoll t) := by
  unfold beginPoll
  split <;> exact h.still

theorem pollSent_stands (h : Stands s t) : Stands s (pollSent t) := by
  unfold pollSent
  split
  · split
    · exact beginPoll_stands h.still
    · exact h.still
  · exact h

theorem missPoll_stands (h : Stands s t) : Stands s (missPoll t) := by
  unfold missPoll
  split
  · dsimp only
    refine beginPoll_stands ?_
    split
    · exact raise_stands h.still
    · exact h.still
  · exact h

theorem handleRequest_stands {execute : Fin 4 → State → Executed}
    (hexecute : ∀ {a t}, Stands s t → Stands s (execute a t).1) {kind reqId : Byte} {permitted : List Role} {a : Fin 4}
    (h : Stands s t) : Stands s (handleRequest kind reqId permitted execute a t) := by
  unfold handleRequest
  split
  · exact h.still
  · split
    · exact h.still
    · exact (hexecute h).still

theorem scanReport_stands {args : List Byte} {a : Fin 4} (h : Stands s t) : Stands s (scanReport args a t).1 := by
  have hread : Stands s (if args.length < 2 then { t with freeIndex := t.freeIndex + 1 } else t) := by
    split <;> exact h.still
  unfold scanReport
  dsimp only
  split
  · exact takeReport_stands hread
  · exact hread

theorem gradeOverride_stands {ticket : Nat} {value : Byte} (h : Stands s t) :
    Stands s (gradeOverride ticket value t).1 := by
  unfold gradeOverride
  split
  · exact h
  · split <;> exact h.still

theorem dropSeen_stands {lane : Byte} (h : Stands s t) : Stands s (dropSeen lane t).1 := by
  unfold dropSeen
  split
  · exact h
  · split
    · exact h.still
    · exact raise_stands h

theorem bundleCleared_stands {lane : Byte} (h : Stands s t) : Stands s (bundleCleared lane t).1 := by
  unfold bundleCleared
  split
  · exact h
  · split
    · exact setCleared_stands h
    · exact h

theorem serveRequest_stands {reqId : Byte} {request : Request} {a : Fin 4} (h : Stands s t) :
    Stands s (serveRequest reqId request a t) := by
  have hquery {ticket : Nat} {t : State} (h : Stands s t) : Stands s (queryTicket ticket t).1 := by
    unfold queryTicket
    split <;> exact h
  have hlookup {a : Fin 4} {t : State} (h : Stands s t) : Stands s (queryAt a t).1 := by
    unfold queryAt
    split <;> exact h
  cases request with
  | queryAt => exact handleRequest_stands hlookup h
  | queryTicket ticket => exact handleRequest_stands (execute := fun _ => queryTicket ticket.toNat) hquery h
  | scanReport args => exact handleRequest_stands scanReport_stands h
  | gradeOverride ticket value =>
    exact handleRequest_stands (execute := fun _ => gradeOverride ticket.toNat value) gradeOverride_stands h
  | dropSeen lane => exact handleRequest_stands (execute := fun _ => dropSeen lane) dropSeen_stands h
  | bundleCleared lane => exact handleRequest_stands (execute := fun _ => bundleCleared lane) bundleCleared_stands h
  | unknown kind args =>
    simp only [serveRequest, handleUnknown]
    split <;> exact h.still

theorem receive_stands {cs : List Character} (h : Stands s t) : Stands s (receive cs t) := by
  have hserved {body : ReplyBody} {a : Fin 4} {t : State} (h : Stands s t) : Stands s (serveReply body a t) := by
    cases body with
    | idle => exact h
    | request reqId request => exact serveRequest_stands h
  unfold receive
  split
  · split
    · split
      · exact beginPoll_stands (hserved h.still)
      · exact h.still
    · exact h
  · exact h

theorem setStation_stands {address role : Byte} {stationPos : BitVec 16} (h : Stands s t) :
    Stands s (setStation address role stationPos t).1 := by
  unfold setStation
  split
  · split <;> exact h.still
  · exact h

theorem abandonPoll_stands {a : Fin 4} (h : Stands s t) : Stands s (abandonPoll a t) := by
  unfold abandonPoll
  split
  · split <;> exact h.still
  · split
    · exact beginPoll_stands h.still
    · exact h
  · exact h

theorem stationEnable_stands {address value : Byte} (h : Stands s t) : Stands s (stationEnable address value t).1 := by
  unfold stationEnable
  split
  · simp only [okay, stationOn]
    split
    · exact beginPoll_stands h.still
    · exact h
  · simp only [okay, stationOff]
    split
    · exact h
    · exact withdrawReports_stands (abandonPoll_stands h.still)
  · exact h

/-! ### Resets and the part's own time -/

theorem resetBlocks_ringKept (cmd : CommandPort) (s : State) : RingKept s (resetBlocks cmd s) := by
  refine Stands.ringKept_of_reset ?_
  unfold resetBlocks
  dsimp only
  split
  · exact raise_stands (.still (.refl State.reset))
  · exact .still (.refl State.reset)

theorem tick_stands (h : Stands s t) : Stands s (tick t) := by
  have hticked : Stands s (usTick t) := by
    by_cases hphase : 999 ≤ t.usPhase
    · rw [usTick_moves hphase, msTick_eq]
      exact h.still
    · rw [usTick_between hphase]
      exact h.still
  unfold tick
  split
  · exact h
  · exact hticked.still

/-! ### Every command -/

/-- Whatever next state a command answers, the ring stays sound. -/
structure RingKeptNext (s : State) (o : Host.Outcome State Fault Refusal) : Prop where
  kept : ∀ t, o = .next t → RingKept s t

theorem RingKept.next (h : RingKept s t) : RingKeptNext s (.next t) := by
  refine ⟨?_⟩
  rintro _ ⟨⟩
  exact h

/-- A command that acts while RESET is released, or on a condition (logs 2, 12). -/
theorem RingKept.nextIf {c : Prop} [Decidable c] (h : RingKept s t) (g : RingKept s u) :
    RingKeptNext s (.next (if c then t else u)) := by
  split
  · exact h.next
  · exact g.next

/-- A transaction does to the ring what its frame sets off (R201, R202). -/
theorem hostFrame_ringKept {body : State → State} (h : ∀ s, RingKept s (body s)) (x : Xfer) (code : Byte)
    (args : List Byte) (s : State) : RingKeptNext s (hostFrame x code args body s) := by
  have hstay : Stands s s := .refl s
  have hended : Stands s (afterTransfer x code args s) := hstay.still
  refine RingKept.nextIf hstay.still.ringKept ?_
  dsimp only
  split
  · exact hended.still.ringKept
  · split
    · exact hended.still.ringKept
    · exact hended.ringKept.trans (h _)

theorem hostCommand_ringKept {run : State → Answered} (h : ∀ {s t}, Stands s t → Stands s (run t).1) (x : Xfer)
    (code : Byte) (args : List Byte) (s : State) : RingKeptNext s (hostCommand x code args run s) :=
  hostFrame_ringKept (fun s => (h (.refl s)).still.ringKept) x code args s

/-- A read changes nothing. -/
theorem hostRead_ringKept {run : State → Answered} (h : ∀ s, (run s).1 = s) (x : Xfer) (code : Byte) (args : List Byte)
    (s : State) : RingKeptNext s (hostCommand x code args run s) :=
  hostCommand_ringKept (fun {s t} ht => by rwa [h t]) x code args s

theorem linkCommand_ringKept {act : State → State} (h : ∀ {s t}, Stands s t → Stands s (act t)) (s : State) :
    RingKeptNext s (linkCommand act s) := RingKept.nextIf (.refl s) (h (.refl s)).ringKept

theorem execRequest_ringKept (reply : Reply) (request : Request) (s : State) :
    RingKeptNext s (execRequest reply request s) := linkCommand_ringKept receive_stands s

theorem execPbusyChange_ringKept (high : Bool) (s : State) : RingKeptNext s (execPbusyChange high s) := by
  have hpin : Stands s (setPbusy high s) := .still (.refl s)
  refine RingKept.nextIf hpin.ringKept ?_
  split
  · exact .refl s
  · exact (busyEdge_stands hpin).ringKept

theorem execPfaultChange_ringKept (asserted : Bool) (s : State) : RingKeptNext s (execPfaultChange asserted s) := by
  have hpin (v : Bool) : Stands s (setPfault v s) := .still (.refl s)
  refine RingKept.nextIf (hpin _).ringKept ?_
  split
  · exact .refl s
  · split
    · exact (faultAsserted_stands (hpin _)).ringKept
    · exact (faultCleared_stands (hpin _)).ringKept

theorem execReplyTimerExpiry_ringKept (s : State) : RingKeptNext s (execReplyTimerExpiry s) := by
  refine linkCommand_ringKept (fun h => ?_) s
  split
  · exact missPoll_stands h
  · exact h

theorem execTransactionBegin_ringKept (s : State) : RingKeptNext s (execTransactionBegin s) := by
  have hstay : Stands s s := .refl s
  refine RingKept.nextIf (.refl s) ?_
  split <;> exact hstay.still.ringKept

theorem execBadFrame_ringKept (mosi : List Byte) (s : State) : RingKeptNext s (execBadFrame mosi s) := by
  have hstay : Stands s s := .refl s
  unfold execBadFrame
  split
  · exact hstay.still.ringKept.next
  · split
    · exact hstay.still.ringKept.next
    · dsimp only
      split
      · exact hstay.still.ringKept.next
      · exact ⟨fun _ hrefused => by cases hrefused⟩

theorem exec_ringKept (c : Instr) (s : State) : RingKeptNext s (exec c s) := by
  have hstay : Stands s s := .refl s
  have hsame : RingKept s s := .refl s
  cases c with
  | sampleTick raw order =>
    exact RingKept.nextIf hsame (RingKept.foldl (sampleChannel_ringKept raw order.parts) _ s)
  | jamTimerExpiry i => exact RingKept.nextIf (jamExpiry_stands hstay).ringKept hsame
  | encoderCount unit a b order =>
    exact RingKept.nextIf (setPair_stands hstay).ringKept (encoderCount_stands hstay).ringKept
  | speedStallTimeout => exact RingKept.nextIf hstay.still.ringKept hsame
  | timePulseExpiry p => exact RingKept.nextIf hstay.still.ringKept hsame
  | gapTimerExpiry => exact RingKept.nextIf (releaseTest_stands hstay.still).ringKept hsame
  | moulderTransitExpiry => exact RingKept.nextIf hsame (transitTest_stands hstay).ringKept
  | evaluationStart => exact RingKept.nextIf hsame (startEvaluation_stands hstay).ringKept
  | evaluationCompletion =>
    exact RingKept.nextIf (releaseTest_stands (finishEvaluation_stands hstay)).ringKept hsame
  | dropWatchExpiry l => exact RingKept.nextIf (expireWatch_stands hstay).ringKept hsame
  | strobeEnd => exact RingKept.nextIf (endStrobe_stands hstay).ringKept hsame
  | pbusyChange high => exact execPbusyChange_ringKept high s
  | pfaultChange asserted => exact execPfaultChange_ringKept asserted s
  | handshakeTimeout => exact RingKept.nextIf (portTimeout_stands hstay).ringKept hsame
  | pollSent => exact linkCommand_ringKept pollSent_stands s
  | idleReply arrival => exact linkCommand_ringKept receive_stands s
  | replyTimerExpiry => exact execReplyTimerExpiry_ringKept s
  | queryAt reply => exact execRequest_ringKept ..
  | queryTicket reply ticket => exact execRequest_ringKept ..
  | scanReport reply args => exact execRequest_ringKept ..
  | gradeOverride reply ticket value => exact execRequest_ringKept ..
  | dropSeen reply lane => exact execRequest_ringKept ..
  | bundleCleared reply lane => exact execRequest_ringKept ..
  | unknownRequest reply kind args => exact execRequest_ringKept ..
  | transactionBegin => exact execTransactionBegin_ringKept s
  | emptyTransaction clocks => exact RingKept.nextIf hstay.still.ringKept hstay.still.ringKept
  | badFrame mosi => exact execBadFrame_ringKept mosi s
  | resetAssert => exact hstay.still.ringKept.next
  | powerOnReset => exact (resetBlocks_ringKept _ s).next
  | nop x => exact hostFrame_ringKept .refl ..
  | lineStart x => exact hostCommand_ringKept lineStart_stands ..
  | lineHold x => exact hostCommand_ringKept lineHold_stands ..
  | lineStop x => exact hostCommand_ringKept lineStop_stands ..
  | faultAck x => exact hostCommand_ringKept faultAck_stands ..
  | softReset x => exact hostFrame_ringKept (resetBlocks_ringKept _) ..
  | trackClear x => exact hostCommand_ringKept trackClear_stands ..
  | setParam => exact hostCommand_ringKept setParam_stands ..
  | getParam x code => exact hostRead_ringKept (getParam_same code) ..
  | setGrade => exact hostCommand_ringKept setGrade_stands ..
  | getGrade x row => exact hostRead_ringKept (getGrade_same row) ..
  | setWeights => exact hostCommand_ringKept .still ..
  | setSawMap => exact hostCommand_ringKept setSawMap_stands ..
  | setLane => exact hostCommand_ringKept setLane_stands ..
  | getLane x lane => exact hostRead_ringKept (getLane_same lane) ..
  | setFilter => exact hostCommand_ringKept setFilter_stands ..
  | setLot => exact hostCommand_ringKept .still ..
  | setStation => exact hostCommand_ringKept setStation_stands ..
  | clearGlitch => exact hostCommand_ringKept clearGlitch_stands ..
  | readStrip x ticket => exact hostRead_ringKept (readStrip_same _) ..
  | listQueue x place => exact hostRead_ringKept (listQueue_same place) ..
  | readLug x lug => exact hostRead_ringKept (readLug_same lug) ..
  | regrade => exact hostCommand_ringKept regrade_stands ..
  | purge => exact hostCommand_ringKept purge_stands ..
  | ejectHead x => exact hostCommand_ringKept ejectHead_stands ..
  | setTool => exact hostCommand_ringKept setTool_stands ..
  | readTool x set => exact hostRead_ringKept (readTool_same set) ..
  | changeTools => exact hostCommand_ringKept changeTools_stands ..
  | cancelChange x => exact hostCommand_ringKept cancelChange_stands ..
  | resetWear => exact hostCommand_ringKept resetWear_stands ..
  | readBundle x lane => exact hostRead_ringKept (readBundle_same lane) ..
  | forceClose => exact hostCommand_ringKept forceClose_stands ..
  | laneEnable => exact hostCommand_ringKept laneEnable_stands ..
  | confirmClear => exact hostCommand_ringKept confirmClear_stands ..
  | readLabel x lane => exact hostRead_ringKept (readLabel_same lane) ..
  | labelRetry => exact hostCommand_ringKept labelRetry_stands ..
  | labelDiscard => exact hostCommand_ringKept labelDiscard_stands ..
  | portMode => exact hostCommand_ringKept portMode_stands ..
  | portWrite => exact hostCommand_ringKept portWrite_stands ..
  | portStatus x => exact hostRead_ringKept (fun _ => rfl) ..
  | readEvents x => exact hostRead_ringKept (fun _ => rfl) ..
  | clearEvents => exact hostCommand_ringKept clearEvents_stands ..
  | setEventRoute => exact hostCommand_ringKept setEventRoute_stands ..
  | setEscalation => exact hostCommand_ringKept setEscalation_stands ..
  | setOutputs => exact hostCommand_ringKept setOutputs_stands ..
  | readIo x => exact hostRead_ringKept (fun _ => rfl) ..
  | stationEnable => exact hostCommand_ringKept stationEnable_stands ..
  | readStation x address => exact hostRead_ringKept (readStation_same address) ..

theorem step_ringKept (s : State) : RingKeptNext s (step s) := by
  have hstay : Stands s s := .refl s
  unfold step
  split
  · next c rest _ =>
    have hpop : RingKept s { s with pending := rest } := hstay.still.ringKept
    exact ⟨fun t ht => hpop.trans ((exec_ringKept c _).kept t ht)⟩
  · exact (tick_stands hstay).ringKept.next

end Sys2Proof.Machine

section

open Sys2Proof Sys2Proof.Machine

/-- Settles O58: the chain stands but at a reset, an advance and a retreat, and each of them leaves the ring in order. -/
theorem everyStepKeepsTheRing : Obligations.EveryStepKeepsTheRing := by
  intro s t hstep
  have hkept := (step_ringKept s).kept t hstep
  exact ⟨hkept.ring, hkept.window⟩

end

/-! PROOFS. The work of an advance, step by step: the pitch check, PE4 and transfer holding, the saw station, the
presentations, and the order they come in (R87 to R97, R133). -/

namespace Sys2Proof.Machine

open Sys2Proof

set_option Elab.async false

variable {s t u : State} {c0 : Pos} {n : Nat} {r : Strip}

/-! ### The pitch check (R88) -/

theorem pitchBad_iff {pitch : Nat} {counts : Int} :
    pitchBad pitch counts = true ↔ counts * 4 < 3 * pitch ∨ counts * 4 > 5 * pitch := by
  simp [pitchBad]

theorem pitchCheck_none (h : s.pitchRef = none) (c0 : Pos) : pitchCheck c0 s = { s with pitchRef := some c0 } := by
  simp only [pitchCheck, h]

theorem pitchCheck_some {ref : Pos} (h : s.pitchRef = some ref) (c0 : Pos) :
    pitchCheck c0 s =
      if pitchBad (getPar s .chainPitch) (signedDiff c0 ref) = true then
        raise .pitchFault { s with pitchRef := some c0, lastPitch := some (signedDiff c0 ref) }
      else { s with pitchRef := some c0, lastPitch := some (signedDiff c0 ref) } := by
  simp only [pitchCheck, h]
  rfl

theorem pitchIsChecked : Claims.PitchCheck := by
  refine fun c0 s => ⟨fun hnone => pitchCheck_none hnone c0, fun ref href => ?_⟩
  exact (pitchCheck_some href c0).trans (if_congr pitchBad_iff rfl rfl)

/-! ### PE4 and transfer holding (R91 to R93) -/

/-- The placeholder of a PE4 phantom on its lug (R92). -/
def phantomStrip (n : Nat) (s : State) : Strip :=
  { freshStrip n s.lot s.species .onLug with
    doubt := true, plan := .done .default, kept := some 0, disposition := some .hold, lug := some s.head }

/-- A new record is put on the HEAD lug; the records of other tickets stay (R22, R92). -/
theorem putOnHead_created (hfree : nextTicketOf s ∉ s.strips.map (·.ticket)) :
    putOnHead (nextTicketOf s) (createStrip .onLug placeholder s) =
      { s with nextTicket := nextNumber (nextTicketOf s),
               lugs := s.lugs.set s.head { ticket := some (nextTicketOf s), sawDone := false },
               strips := s.strips ++ [phantomStrip (nextTicketOf s) s] } := by
  have hothers : s.strips.map (fun r => if r.ticket = nextTicketOf s then { r with stage := .onLug, lug := some s.head }
      else r) = s.strips := by
    refine List.map_congr_left (fun r hr => if_neg fun heq => hfree ?_) |>.trans (List.map_id _)
    exact heq ▸ List.mem_map_of_mem hr
  simp only [putOnHead, updateStrip, createStrip, List.map_append, hothers]
  simp only [List.map_cons, List.map_nil, phantomStrip, placeholder, freshStrip, if_true]

theorem loadPoint_blocked_some (hlevel : s.channels[3].level = .blocked) (hheld : s.holding = some n) :
    loadPoint s = loadHolding n s := by
  simp only [loadPoint, hlevel, hheld]

theorem loadPoint_blocked_none (hlevel : s.channels[3].level = .blocked) (hheld : s.holding = none) :
    loadPoint s = phantomLug s := by
  simp only [loadPoint, hlevel, hheld]

theorem loadPoint_clear_some (hlevel : s.channels[3].level = .clear) (hheld : s.holding = some n) :
    loadPoint s = countWindow n s := by
  simp only [loadPoint, hlevel, hheld]

theorem loadPoint_clear_none (hlevel : s.channels[3].level = .clear) (hheld : s.holding = none) : loadPoint s = s := by
  simp only [loadPoint, hlevel, hheld]

theorem theLoadPoint : Claims.LoadPoint := by
  refine fun s => ⟨fun n hlevel hheld => loadPoint_blocked_some hlevel hheld, fun hlevel hheld => ?_,
    fun n hlevel hheld => ?_, fun hlevel hheld => loadPoint_clear_none hlevel hheld⟩
  · exact fun hfree => (loadPoint_blocked_none hlevel hheld).trans (putOnHead_created hfree)
  · exact (loadPoint_clear_some hlevel hheld).trans (if_congr Nat.sub_eq_zero_iff_le rfl rfl)

/-! ### The saw station (R94, R95) -/

theorem sawToArm_eq_some {lug : Lug} {i : Fin 16} (hsaw : r.saw = some i) (hrejected : r.disposition ≠ some .rejected)
    (htrim : r.disposition ≠ some .trimOut) (hdone : lug.sawDone = false) : sawToArm r lug = some i := by
  simp [sawToArm, hsaw, hrejected, htrim, hdone]

theorem sawToArm_eq_none {lug : Lug}
    (h : r.saw = none ∨ r.disposition = some .rejected ∨ r.disposition = some .trimOut ∨ lug.sawDone = true) :
    sawToArm r lug = none := by
  unfold sawToArm
  split
  · rfl
  · next hnot => exact h.resolve_right hnot

/-- The lug at the saw station (R94). -/
def sawLug (s : State) : Fin 40 := lugAt s (getPar s .sawOffset)

/-- With PE5 clear no saw is armed: the presence check has written the strip off, or there is none (R94). -/
theorem sawArming_clear (hlevel : s.channels[5].level = .clear) (c0 : Pos) : sawArming c0 s = s := by
  unfold sawArming
  dsimp only
  split
  · next hblocked => cases hlevel.symm.trans hblocked
  · rfl

theorem sawArming_empty (hticket : s.lugs[sawLug s].ticket = none) (c0 : Pos) : sawArming c0 s = s := by
  unfold sawArming
  dsimp only
  split
  · next hloaded _ => cases hticket.symm.trans hloaded
  · rfl

/-- What is armed for a strip that is present is the saw it is to be cut by (R95). -/
theorem sawArming_present {i : Fin 16} (hticket : s.lugs[sawLug s].ticket = some n) (hr : findStrip n s = some r)
    (hlevel : s.channels[5].level = .blocked) (hsaw : sawToArm r s.lugs[sawLug s] = some i) (c0 : Pos) :
    sawArming c0 s = arm (sawOut i) (sawLug s) n c0 s := by
  unfold sawLug at *
  simp only [sawArming, hticket, hlevel, hr, Option.bind_some, hsaw]

theorem sawArming_uncut (hticket : s.lugs[sawLug s].ticket = some n) (hr : findStrip n s = some r)
    (hlevel : s.channels[5].level = .blocked) (hsaw : sawToArm r s.lugs[sawLug s] = none) (c0 : Pos) :
    sawArming c0 s = s := by
  unfold sawLug at *
  simp only [sawArming, hticket, hlevel, hr, Option.bind_some, hsaw]

theorem presenceCheck_lost (hticket : s.lugs[sawLug s].ticket = some n) (hlevel : s.channels[5].level = .clear) :
    presenceCheck s = retire n .lostAtSaw s := by
  unfold sawLug at hticket
  simp only [presenceCheck, hticket, hlevel]

theorem presenceCheck_phantom (hticket : s.lugs[sawLug s].ticket = none) (hlevel : s.channels[5].level = .blocked) :
    presenceCheck s = raise .phantomAtSaw s := by
  unfold sawLug at hticket
  simp only [presenceCheck, hticket, hlevel]

theorem presenceCheck_bare (hticket : s.lugs[sawLug s].ticket = none) (hlevel : s.channels[5].level = .clear) :
    presenceCheck s = s := by
  unfold sawLug at hticket
  simp only [presenceCheck, hticket, hlevel]

theorem presenceCheck_present (hticket : s.lugs[sawLug s].ticket = some n) (hlevel : s.channels[5].level = .blocked) :
    presenceCheck s = s := by
  unfold sawLug at hticket
  simp only [presenceCheck, hticket, hlevel]

theorem theSawStation : Claims.SawStation := by
  intro c0 s j
  refine ⟨fun n hticket hlevel => ?lost, fun hticket hlevel => ?phantom, fun hticket hlevel => ?bare,
    fun n r hticket hr hlevel => ⟨presenceCheck_present hticket hlevel, fun i hsaw hrejected htrim hdone => ?cut,
      fun hnone => ?uncut⟩⟩
  case lost => exact ⟨presenceCheck_lost hticket hlevel, sawArming_clear hlevel c0⟩
  case phantom => exact ⟨presenceCheck_phantom hticket hlevel, sawArming_empty hticket c0⟩
  case bare => exact ⟨presenceCheck_bare hticket hlevel, sawArming_empty hticket c0⟩
  case cut => exact sawArming_present hticket hr hlevel (sawToArm_eq_some hsaw hrejected htrim hdone) c0
  case uncut => exact sawArming_uncut hticket hr hlevel (sawToArm_eq_none hnone) c0

/-! ### The presentations (R97, R133) -/

/-- A lug is presented once: by the lowest-numbered of the lanes that share its offset (R97). -/
theorem presents_iff {l : Fin 8} :
    presents s l = true ↔ ∀ k < l, s.lanes[k].dropOffset ≠ s.lanes[l].dropOffset := by
  simp only [presents, List.all_eq_true, mem_indices, true_imp_iff, Bool.or_eq_true, decide_eq_true_eq, bne_iff_ne]
  exact forall_congr' fun k => or_iff_not_imp_left.trans (imp_congr_left Nat.not_le)

theorem advancePiece_lane (c0 : Pos) (s : State) (l : Fin 8) :
    advancePiece c0 s l.succ = if presents s l then present c0 s.lanes[l].dropOffset s else s := rfl

theorem present_empty {o : Nat} (h : s.lugs[lugAt s o].ticket = none) (c0 : Pos) : present c0 o s = s := by
  simp only [present, h, Option.bind_none]

/-- The intended lane is found afresh, and armed when it is at the offset (R97). -/
theorem present_intended {o : Nat} {m : Fin 8} (h : s.lugs[lugAt s o].ticket = some n) (hr : findStrip n s = some r)
    (hlane : intendedLane o r s = some m) (c0 : Pos) :
    present c0 o s = if s.lanes[m].dropOffset = o then arm (divOut m) (lugAt s o) n c0 s else s := by
  simp only [present, h, Option.bind_some, hr, hlane, findStrip_ticket hr]

theorem present_unintended {o : Nat} (h : s.lugs[lugAt s o].ticket = some n) (hr : findStrip n s = some r)
    (hlane : intendedLane o r s = none) (c0 : Pos) : present c0 o s = s := by
  simp only [present, h, Option.bind_some, hr, hlane]

theorem thePresentations : Claims.Presentation := by
  intro c0 l s o j u
  have hpiece : u = if presents s l then present c0 o s else s := advancePiece_lane c0 s l
  refine ⟨fun ⟨k, hk, hshared⟩ => ?shared, fun hfirst => ?first⟩
  case shared => exact hpiece.trans (if_neg fun hpresents => presents_iff.1 hpresents k hk hshared)
  case first =>
    have hpresented : u = present c0 o s := hpiece.trans (if_pos (presents_iff.2 hfirst))
    exact ⟨fun hticket => hpresented.trans (present_empty hticket c0), fun n r hticket hr =>
      ⟨fun hlane => hpresented.trans (present_unintended hticket hr hlane c0),
        fun m hlane => hpresented.trans (present_intended hticket hr hlane c0)⟩⟩

/-! ### The order of the steps (R87) -/

theorem eraseDups_eq_self {α : Type} [DecidableEq α] {xs : List α} (h : xs.Nodup) : xs.eraseDups = xs := by
  induction xs with
  | nil => rfl
  | cons a as ih =>
    obtain ⟨hnew, hrest⟩ := List.nodup_cons.1 h
    have hkeep : as.filter (fun b => !b == a) = as := List.filter_eq_self.2 fun b hb => by
      simpa using fun heq : b = a => hnew (heq ▸ hb)
    rw [List.eraseDups_cons, hkeep, ih hrest]

/-- No part is taken twice (log 5). -/
theorem fullParts_nodup (given : List AdvancePart) : (fullParts given).Nodup := by
  have hpieces : ((indices 9).map AdvancePart.piece).Nodup :=
    (indices_nodup 9).map fun _ _ h => AdvancePart.piece.inj h
  refine List.Nodup.append (eraseDups_nodup given) (hpieces.filter _) fun p hgiven hrest => ?_
  simp only [List.mem_filter, Bool.not_eq_true', List.contains_eq_mem, decide_eq_false_iff_not] at hrest
  exact hrest.2 (List.mem_eraseDups.1 hgiven)

theorem count_mem_fullParts {given : List AdvancePart} {a b : Bool} {o : CountOrder} :
    .count a b o ∈ fullParts given ↔ .count a b o ∈ given := by
  simp [mem_fullParts]

theorem theStepsOfAnAdvance : Claims.AdvanceInOrder := by
  intro c0 parts s
  have hbegins (hnodup : parts.Nodup) : ∃ rest, fullParts parts = parts ++ rest :=
    ⟨_, congrArg (· ++ _) (eraseDups_eq_self hnodup)⟩
  exact ⟨fullParts parts, fullParts_nodup parts, fun k => mem_fullParts.2 (.inr ⟨k, rfl⟩), fun a b o => count_mem_fullParts,
    hbegins, rfl, fun v => ⟨rfl, fun l => rfl, fun a b o hreset => exec_encoderCount .ch a b o hreset⟩⟩

end Sys2Proof.Machine

section

open Sys2Proof Sys2Proof.Machine

/-- Settles O32: each step by the cases of its definition, the order as the operand gives it with the pieces it leaves out. -/
theorem theWorkOfAnAdvance : Obligations.TheWorkOfAnAdvance :=
  ⟨pitchIsChecked, theLoadPoint, theSawStation, thePresentations, theStepsOfAnAdvance⟩

end

/-! PROOFS. LINE_STOP in RUNNING and HOLD (R117, R189): it stops the 24 counted outputs one after the other, and each stop
is made of an output going IDLE, of SAW_DONE reports and of missed pulses. What all of these keep, the whole keeps; what one
output does to its schedule, to the lugs and to the records of its pulses, the other outputs' stops leave. -/

namespace Sys2Proof.Machine

open Sys2Proof

set_option Elab.async false

variable {s t u : State} {o : Fin 24} {p : Pulse}

/-! ### What the stop of an output is made of (R117) -/

/-- A missed pulse in a line that is stopped already (R116). -/
abbrev missQuiet (o : Fin 24) (p : Pulse) (s : State) : State := missPulse raiseQuiet o p s

/-- What the idle output starts with, and SAW_DONE reports and missed pulses keep, the stop of an output ends with. -/
theorem stopOut_preserves {P : State → Prop} (hidle : P (updateOut o idleOut s))
    (hdone : ∀ {t j n}, P t → P (setSawDone j n t)) (hmiss : ∀ {t p}, P t → P (missQuiet o p t)) : P (stopOut s o) := by
  have hactive : P (stopActive o s.outs[o] (updateOut o idleOut s)) := by
    unfold stopActive
    split
    · exact hidle
    · split
      · split
        · exact hdone hidle
        · exact hidle
      · exact hmiss hidle
  unfold stopOut
  dsimp only
  split
  · exact hactive
  · exact hmiss hactive

theorem stopOuts_preserve {P : State → Prop} (hidle : ∀ {t o}, P t → P (updateOut o idleOut t))
    (hdone : ∀ {t j n}, P t → P (setSawDone j n t)) (hmiss : ∀ {t o p}, P t → P (missQuiet o p t)) (h : P s)
    (os : List (Fin 24)) : P (os.foldl stopOut s) := by
  induction os generalizing s with
  | nil => exact h
  | cons o rest ih => exact ih (stopOut_preserves (hidle h) hdone hmiss)

/-! ### The schedules of the outputs -/

/-- An output but for its FORCED value. -/
def CountedOut.schedule (c : CountedOut) : OutState × Option Pulse × Option Pulse := (c.state, c.active, c.waiting)

theorem schedule_eq_iff {c d : CountedOut} :
    c.schedule = d.schedule ↔ c.state = d.state ∧ c.active = d.active ∧ c.waiting = d.waiting := by
  simp [CountedOut.schedule]

theorem raiseQuiet_schedule (k : EventKind) (s : State) (j : Fin 24) :
    (raiseQuiet k s).outs[j].schedule = s.outs[j].schedule := by
  unfold raiseQuiet
  dsimp only
  split
  · rfl
  · simp only [releaseForced, Fin.getElem_fin, mapTable_get]
    rfl

theorem missQuiet_schedule (o : Fin 24) (p : Pulse) (s : State) (j : Fin 24) :
    (missQuiet o p s).outs[j].schedule = s.outs[j].schedule := by
  unfold missQuiet missPulse
  split
  · exact raiseQuiet_schedule _ _ j
  · exact raiseQuiet_schedule _ _ j

/-- The stop of an output changes no other output's schedule. -/
theorem stopOut_schedule (s : State) (o j : Fin 24) :
    (stopOut s o).outs[j].schedule = if j = o then (.idle, none, none) else s.outs[j].schedule := by
  refine stopOut_preserves (P := fun t => t.outs[j].schedule = if j = o then (.idle, none, none) else s.outs[j].schedule)
    ?_ id fun h => (missQuiet_schedule _ _ _ j).trans h
  rw [updateOut_outs_get]
  split <;> rfl

theorem stopOuts_schedule (os : List (Fin 24)) (s : State) (j : Fin 24) :
    (os.foldl stopOut s).outs[j].schedule = if j ∈ os then (.idle, none, none) else s.outs[j].schedule := by
  induction os generalizing s with
  | nil => rfl
  | cons o rest ih =>
    rw [List.foldl_cons, ih, stopOut_schedule]
    by_cases hj : j = o <;> by_cases hin : j ∈ rest <;> simp [hj, hin]

/-! ### The line (R194) -/

/-- The line is stopped, by command or by an escalation. -/
def State.Halted (s : State) : Prop := s.line = .stopped ∨ s.line = .faultStop

/-- The line is STOPPED, and a missed pulse does not escalate it (R194). -/
def State.Calm (s : State) : Prop :=
  s.line = .stopped ∧ (s.escalation = false ∨ s.events[eventIdx .missedActuation].severity ≠ .stop)

/-- A line that is stopped escalates to FAULT_STOP alone, and by severity STOP alone (R194). -/
theorem escalated_halted {v : Severity} {line after : LineState} (h : line = .stopped ∨ line = .faultStop)
    (ha : escalated v line = some after) : after = .faultStop ∧ v = .stop := by
  obtain rfl | rfl := h
  · cases v with
    | stop => exact ⟨(Option.some.inj ha).symm, rfl⟩
    | hold => cases ha
    | note => cases ha
  · cases v <;> cases ha

theorem escalationOf_halted {k : EventKind} {after : LineState} (h : s.Halted) (ha : escalationOf k s = some after) :
    after = .faultStop ∧ s.escalation = true ∧ s.events[eventIdx k].severity = .stop := by
  unfold escalationOf at ha
  split at ha
  · next hon =>
    obtain ⟨hfault, hstop⟩ := escalated_halted h ha
    exact ⟨hfault, hon, hstop⟩
  · cases ha

theorem raiseQuiet_halted {k : EventKind} (h : s.Halted) : (raiseQuiet k s).Halted := by
  have hflag : (setFlag k s).Halted := h
  unfold raiseQuiet
  dsimp only
  split
  · exact hflag
  · next after ha => exact .inr (escalationOf_halted hflag ha).1

theorem raiseQuiet_calm (h : s.Calm) : (raiseQuiet .missedActuation s).Calm := by
  obtain ⟨hline, hmild⟩ := h
  have hseverity : (setFlag .missedActuation s).events[eventIdx .missedActuation].severity =
      s.events[eventIdx .missedActuation].severity := by
    rw [setFlag_events, if_pos rfl]
  have hcalm : (setFlag .missedActuation s).Calm := ⟨hline, by rwa [hseverity]⟩
  have hnone : escalationOf .missedActuation (setFlag .missedActuation s) = none := by
    refine Option.eq_none_iff_forall_ne_some.2 fun after ha => ?_
    obtain ⟨-, hon, hstop⟩ := escalationOf_halted (s := setFlag .missedActuation s) (.inl hline) ha
    exact hcalm.2.elim (fun hoff => by cases hoff.symm.trans hon) (· hstop)
  unfold raiseQuiet
  dsimp only
  rwa [hnone]

theorem missQuiet_halted (h : s.Halted) : (missQuiet o p s).Halted := by
  unfold missQuiet missPulse
  split
  · exact raiseQuiet_halted (s := markMissedCut p s) h
  · exact raiseQuiet_halted h

theorem missQuiet_calm (h : s.Calm) : (missQuiet o p s).Calm := by
  unfold missQuiet missPulse
  split
  · exact raiseQuiet_calm (s := markMissedCut p s) h
  · exact raiseQuiet_calm h

/-! ### Missed pulses (R116) -/

/-- The pulse has not been taken at its set point: it is NEXT, or the ARMED one. -/
def CountedOut.Unfired (c : CountedOut) (p : Pulse) : Prop := c.waiting = some p ∨ c.state = .armed ∧ c.active = some p

/-- The miss of a pulse is reported: MISSED_ACTUATION is flagged, and a saw's marks the record it serves. -/
structure State.Missed (o : Fin 24) (p : Pulse) (s : State) : Prop where
  flag : s.events[eventIdx .missedActuation].flag = true
  cut  : isSaw o = true → ∀ r ∈ s.strips, r.ticket = p.ticket → r.missedCut = true ∧ r.disposition = some .hold

theorem raiseQuiet_strips (k : EventKind) (s : State) : (raiseQuiet k s).strips = s.strips := by
  unfold raiseQuiet
  dsimp only
  split <;> rfl

theorem raiseQuiet_flag (k : EventKind) (s : State) : (raiseQuiet k s).events[eventIdx k].flag = true := by
  have hset : (setFlag k s).events[eventIdx k].flag = true := by rw [setFlag_events, if_pos rfl]
  unfold raiseQuiet
  dsimp only
  split <;> exact hset

theorem missQuiet_strips (o : Fin 24) (p : Pulse) (s : State) :
    (missQuiet o p s).strips = if isSaw o = true then (markMissedCut p s).strips else s.strips := by
  rw [missQuiet, missPulse, raiseQuiet_strips]
  split <;> rfl

/-- A record that is marked stays so, and the record of a missed cut is marked. -/
theorem markMissedCut_marks {n : Nat}
    (h : n = p.ticket ∨ ∀ r ∈ s.strips, r.ticket = n → r.missedCut = true ∧ r.disposition = some .hold) :
    ∀ r ∈ (markMissedCut p s).strips, r.ticket = n → r.missedCut = true ∧ r.disposition = some .hold := by
  intro r hr hn
  obtain ⟨q, hq, rfl⟩ := List.mem_map.1 hr
  split at hn
  · next hp => rw [if_pos hp]; exact ⟨rfl, rfl⟩
  · next hp =>
    rw [if_neg hp]
    obtain rfl | hmarked := h
    · exact absurd hn hp
    · exact hmarked q hq hn

theorem missQuiet_missed (o : Fin 24) (p : Pulse) (s : State) : (missQuiet o p s).Missed o p where
  flag := raiseQuiet_flag _ _
  cut hsaw := by
    rw [missQuiet_strips, if_pos hsaw]
    exact markMissedCut_marks (.inl rfl)

/-- What is reported stays reported when another pulse is missed. -/
theorem State.Missed.miss {k : Fin 24} {q : Pulse} (h : s.Missed o p) : (missQuiet k q s).Missed o p where
  flag := raiseQuiet_flag _ _
  cut hsaw := by
    rw [missQuiet_strips]
    split
    · exact markMissedCut_marks (.inr (h.cut hsaw))
    · exact h.cut hsaw

theorem State.Missed.sawDone {j : Fin 40} {n : Nat} (h : s.Missed o p) : (setSawDone j n s).Missed o p := ⟨h.flag, h.cut⟩

theorem State.Missed.idle {k : Fin 24} (h : s.Missed o p) : (updateOut k idleOut s).Missed o p := ⟨h.flag, h.cut⟩

/-- The stop of an output reports the pulses it has not taken. -/
theorem stopOut_missed (h : s.outs[o].Unfired p) : (stopOut s o).Missed o p := by
  unfold stopOut
  dsimp only
  obtain hwaiting | ⟨harmed, hactive⟩ := h
  · rw [hwaiting]
    exact missQuiet_missed o p _
  · have hmissed : (stopActive o s.outs[o] (updateOut o idleOut s)).Missed o p := by
      simp only [stopActive, hactive, harmed]
      exact missQuiet_missed o p _
    split
    · exact hmissed
    · exact hmissed.miss

theorem unfired_congr {c d : CountedOut} (h : c.schedule = d.schedule) (hd : d.Unfired p) : c.Unfired p := by
  obtain ⟨hstate, hactive, hwaiting⟩ := schedule_eq_iff.1 h
  unfold CountedOut.Unfired
  rwa [hstate, hactive, hwaiting]

theorem stopOuts_missed {os : List (Fin 24)} (ho : o ∈ os) (h : s.outs[o].Unfired p) : (os.foldl stopOut s).Missed o p := by
  induction os generalizing s with
  | nil => cases ho
  | cons k rest ih =>
    rw [List.foldl_cons]
    by_cases hk : o = k
    · subst hk
      exact stopOuts_preserve State.Missed.idle State.Missed.sawDone State.Missed.miss (stopOut_missed h) rest
    · refine ih ((List.mem_cons.1 ho).resolve_left hk) (unfired_congr ?_ h)
      rw [stopOut_schedule, if_neg hk]

/-- The output has no pulse left to take at its set point. -/
def CountedOut.Fired (c : CountedOut) : Prop := c.waiting = none ∧ (c.state = .on ∨ c.active = none)

/-- A stop that finds no pulse left to take raises no event and marks no record. -/
theorem stopOut_fired (h : s.outs[o].Fired) : (stopOut s o).events = s.events ∧ (stopOut s o).strips = s.strips := by
  obtain ⟨hwaiting, hactive⟩ := h
  have hkept : (stopActive o s.outs[o] (updateOut o idleOut s)).events = s.events ∧
      (stopActive o s.outs[o] (updateOut o idleOut s)).strips = s.strips := by
    unfold stopActive
    split
    · exact ⟨rfl, rfl⟩
    · next q hq =>
      have hon : s.outs[o].state = .on := hactive.resolve_right fun hnone => by cases hq.symm.trans hnone
      rw [hon]
      dsimp only
      split <;> exact ⟨rfl, rfl⟩
  simpa only [stopOut, hwaiting] using hkept

theorem fired_congr {c d : CountedOut} (h : c.schedule = d.schedule) (hd : d.Fired) : c.Fired := by
  obtain ⟨hstate, hactive, hwaiting⟩ := schedule_eq_iff.1 h
  unfold CountedOut.Fired
  rwa [hstate, hactive, hwaiting]

theorem stopOuts_fired (h : ∀ o : Fin 24, s.outs[o].Fired) (os : List (Fin 24)) :
    (os.foldl stopOut s).events = s.events ∧ (os.foldl stopOut s).strips = s.strips := by
  induction os generalizing s with
  | nil => exact ⟨rfl, rfl⟩
  | cons k rest ih =>
    have hafter (o : Fin 24) : (stopOut s k).outs[o].Fired := by
      by_cases ho : o = k
      · refine fired_congr (d := idleOut s.outs[o]) ?_ ⟨rfl, .inr rfl⟩
        rw [stopOut_schedule, if_pos ho]
        rfl
      · refine fired_congr ?_ (h o)
        rw [stopOut_schedule, if_neg ho]
    obtain ⟨hevents, hstrips⟩ := stopOut_fired (h k)
    obtain ⟨hrestEvents, hrestStrips⟩ := ih hafter
    exact ⟨hrestEvents.trans hevents, hrestStrips.trans hstrips⟩

/-! ### SAW_DONE (R96, log 18) -/

/-- The lug has SAW_DONE set when the condition holds, and is else as it was. -/
structure DoneIff (c : Prop) (before after : Lug) : Prop where
  done : c → after = { before with sawDone := true }
  kept : ¬ c → after = before

theorem DoneIff.ticket {c : Prop} {a b : Lug} (h : DoneIff c a b) : b.ticket = a.ticket := by
  by_cases hc : c
  · rw [h.done hc]
  · rw [h.kept hc]

theorem DoneIff.refl {c : Prop} (hc : ¬ c) (a : Lug) : DoneIff c a a := ⟨fun h => absurd h hc, fun _ => rfl⟩

theorem DoneIff.trans {c d : Prop} {a b e : Lug} (h : DoneIff c a b) (g : DoneIff d b e) : DoneIff (c ∨ d) a e := by
  by_cases hc : c <;> by_cases hd : d
  · exact ⟨fun _ => by rw [g.done hd, h.done hc], fun hnot => absurd (.inl hc) hnot⟩
  · exact ⟨fun _ => by rw [g.kept hd, h.done hc], fun hnot => absurd (.inl hc) hnot⟩
  · exact ⟨fun _ => by rw [g.done hd, h.kept hc], fun hnot => absurd (.inr hd) hnot⟩
  · exact ⟨fun hor => (hor.elim hc hd).elim, fun _ => by rw [g.kept hd, h.kept hc]⟩

theorem DoneIff.congr {c d : Prop} {a b : Lug} (h : DoneIff c a b) (hcd : c ↔ d) : DoneIff d a b := propext hcd ▸ h

/-- The pulse is a saw's, for the ticket that the lug still holds (log 18). -/
def Reports (o : Fin 24) (p : Pulse) (j : Fin 40) (l : Lug) : Prop :=
  isSaw o = true ∧ p.lug = j ∧ l.ticket = some p.ticket

/-- Some pulse of the output is reported for the lug. -/
def CountedOut.ReportsAt (o : Fin 24) (c : CountedOut) (j : Fin 40) (l : Lug) : Prop :=
  ∃ p, (c.active = some p ∨ c.waiting = some p) ∧ Reports o p j l

theorem sawReport_lugs (o : Fin 24) (p : Pulse) (s : State) (j : Fin 40) :
    DoneIff (Reports o p j s.lugs[j]) s.lugs[j] (if isSaw o = true then setSawDone p.lug p.ticket s else s).lugs[j] := by
  by_cases hsaw : isSaw o = true
  · rw [if_pos hsaw, setSawDone_lugs]
    exact ⟨fun ⟨_, hlug, hticket⟩ => if_pos ⟨hlug.symm, hticket⟩,
      fun hnot => if_neg fun ⟨hlug, hticket⟩ => hnot ⟨hsaw, hlug.symm, hticket⟩⟩
  · rw [if_neg hsaw]
    exact .refl (fun ⟨h, _⟩ => hsaw h) _

theorem raiseQuiet_lugs (k : EventKind) (s : State) : (raiseQuiet k s).lugs = s.lugs := by
  unfold raiseQuiet
  dsimp only
  split <;> rfl

/-- A missed pulse is reported as a made one is (R116 step 4, R117). -/
theorem missQuiet_lugs (o : Fin 24) (p : Pulse) (s : State) (j : Fin 40) :
    DoneIff (Reports o p j s.lugs[j]) s.lugs[j] (missQuiet o p s).lugs[j] := by
  have hlugs : (missQuiet o p s).lugs = (if isSaw o = true then setSawDone p.lug p.ticket s else s).lugs := by
    rw [missQuiet, missPulse, raiseQuiet_lugs]
    split <;> rfl
  rw [hlugs]
  exact sawReport_lugs o p s j

theorem stopActive_lugs (o : Fin 24) (c : CountedOut) (s : State) (j : Fin 40) :
    DoneIff (∃ p, c.active = some p ∧ Reports o p j s.lugs[j]) s.lugs[j] (stopActive o c s).lugs[j] := by
  unfold stopActive
  split
  · next hnone => exact .refl (fun ⟨p, hp, _⟩ => by cases hnone.symm.trans hp) _
  · next p hp =>
    have hone : Reports o p j s.lugs[j] ↔ ∃ q, c.active = some q ∧ Reports o q j s.lugs[j] :=
      ⟨fun h => ⟨p, hp, h⟩, fun ⟨q, hq, h⟩ => Option.some.inj (hp.symm.trans hq) ▸ h⟩
    split
    · exact (sawReport_lugs o p s j).congr hone
    · exact (missQuiet_lugs o p s j).congr hone

theorem reports_congr {k l : Lug} {j : Fin 40} (h : k.ticket = l.ticket) : Reports o p j k ↔ Reports o p j l := by
  rw [Reports, Reports, h]

theorem reportsAt_of_none {c : CountedOut} (h : c.waiting = none) (o : Fin 24) (j : Fin 40) (l : Lug) :
    (∃ p, c.active = some p ∧ Reports o p j l) ↔ c.ReportsAt o j l := by
  simp [CountedOut.ReportsAt, h]

theorem reportsAt_of_some {c : CountedOut} (h : c.waiting = some p) (o : Fin 24) (j : Fin 40) (l : Lug) :
    (∃ q, c.active = some q ∧ Reports o q j l) ∨ Reports o p j l ↔ c.ReportsAt o j l := by
  simp [CountedOut.ReportsAt, h, or_and_right, exists_or]

theorem stopOut_lugs (s : State) (o : Fin 24) (j : Fin 40) :
    DoneIff (s.outs[o].ReportsAt o j s.lugs[j]) s.lugs[j] (stopOut s o).lugs[j] := by
  have hactive : DoneIff (∃ p, s.outs[o].active = some p ∧ Reports o p j s.lugs[j]) s.lugs[j]
      (stopActive o s.outs[o] (updateOut o idleOut s)).lugs[j] := stopActive_lugs o s.outs[o] (updateOut o idleOut s) j
  unfold stopOut
  dsimp only
  split
  · next hnone => exact hactive.congr (reportsAt_of_none hnone o j _)
  · next q hq =>
    have hnext := (missQuiet_lugs o q (stopActive o s.outs[o] (updateOut o idleOut s)) j).congr
      (reports_congr hactive.ticket)
    exact (hactive.trans hnext).congr (reportsAt_of_some hq o j _)

theorem reportsAt_congr {c d : CountedOut} {k l : Lug} {j : Fin 40} (h : c.schedule = d.schedule)
    (hticket : k.ticket = l.ticket) : c.ReportsAt o j k ↔ d.ReportsAt o j l := by
  obtain ⟨-, hactive, hwaiting⟩ := schedule_eq_iff.1 h
  unfold CountedOut.ReportsAt Reports
  rw [hactive, hwaiting, hticket]

theorem stopOuts_lugs {os : List (Fin 24)} (hos : os.Nodup) (s : State) (j : Fin 40) :
    DoneIff (∃ o ∈ os, s.outs[o].ReportsAt o j s.lugs[j]) s.lugs[j] (os.foldl stopOut s).lugs[j] := by
  induction os generalizing s with
  | nil => exact .refl (by simp) _
  | cons k rest ih =>
    obtain ⟨hk, hrest⟩ := List.nodup_cons.1 hos
    have hfirst := stopOut_lugs s k j
    refine (hfirst.trans (ih hrest (stopOut s k))).congr ?_
    have hsame (o : Fin 24) (ho : o ∈ rest) :
        (stopOut s k).outs[o].ReportsAt o j (stopOut s k).lugs[j] ↔ s.outs[o].ReportsAt o j s.lugs[j] := by
      refine reportsAt_congr ?_ hfirst.ticket
      have hother : o ≠ k := ne_of_mem_of_not_mem ho hk
      rw [stopOut_schedule, if_neg hother]
    rw [List.exists_mem_cons_iff]
    exact or_congr_right (exists_congr fun o => and_congr_right (hsame o))

/-! ### The command (R189, R191) -/

/-- The state in which LINE_STOP leaves a line that was moving: every counted output is stopped, one after the other, and
every time pulse (R117). -/
def lineStopped (s : State) : State :=
  stopPulses ((indices 24).foldl stopOut { s with line := .stopped })

theorem stopPulses_halted (h : s.Halted) : (stopPulses s).Halted := h

theorem lineStopped_halted (s : State) : (lineStopped s).Halted := by
  have hline : State.Halted { s with line := .stopped } := .inl rfl
  rw [lineStopped]
  exact stopPulses_halted (stopOuts_preserve (P := State.Halted) id id missQuiet_halted hline (indices 24))

theorem enterLine_stopped (h : s.line = .running ∨ s.line = .hold) : enterLine .stopped s = lineStopped s := by
  have hstops : (s.line = .running ∨ s.line = .hold) ∧ (LineState.stopped = .stopped ∨ LineState.stopped = .faultStop) :=
    ⟨h, .inl rfl⟩
  have hstays : ¬ (s.line = .stopped ∧ LineState.stopped ≠ .stopped) := fun hboth => hboth.2 rfl
  unfold enterLine
  dsimp only
  rw [if_pos hstops, if_neg hstays, lineStopped]

/-- The release test finds the line out of RUNNING (R72). -/
theorem holdReason_halted (h : s.Halted) : holdReason s = some .line := by
  refine if_pos fun hrunning => ?_
  obtain hstopped | hfault := h
  · cases hrunning.symm.trans hstopped
  · cases hrunning.symm.trans hfault

theorem lineStop_moving (h : s.line = .running ∨ s.line = .hold) : lineStop s = (lineStopped s, .ok, []) := by
  have hchange : changeLine .stopped s = lineStopped s := by
    rw [changeLine, enterLine_stopped h, releaseTest_held (holdReason_halted (lineStopped_halted s)) (by decide)]
  obtain hline | hline := h
  · simp only [lineStop, hline, okay, hchange]
  · simp only [lineStop, hline, okay, hchange]

/-! ### The state it leaves -/

theorem lineStopped_frame (h : s.line = .running ∨ s.line = .hold) : RaiseFrame s (lineStopped s) :=
  enterLine_stopped h ▸ enterLine_frame .stopped s

theorem stopPulses_outs (s : State) : (stopPulses s).outs = s.outs := rfl

theorem stopPulses_lugs (s : State) : (stopPulses s).lugs = s.lugs := rfl

theorem stopPulses_events (s : State) : (stopPulses s).events = s.events := rfl

theorem stopPulses_strips (s : State) : (stopPulses s).strips = s.strips := rfl

theorem stopPulses_pulse (s : State) (i : Fin 3) :
    (stopPulses s).pulses[i].on = false ∧ (stopPulses s).pulses[i].msLeft = 0 := by
  simp [stopPulses]

theorem stopPulses_missed (h : s.Missed o p) : (stopPulses s).Missed o p := ⟨h.flag, h.cut⟩

theorem stopPulses_calm (h : s.Calm) : (stopPulses s).Calm := h

theorem eq_of_schedule {c d : CountedOut} (h : c.schedule = d.schedule) : c = { d with forced := c.forced } := by
  obtain ⟨hstate, hactive, hwaiting⟩ := schedule_eq_iff.1 h
  rw [← hstate, ← hactive, ← hwaiting]

theorem lineStopped_pulses (s : State) (i : Fin 3) :
    (lineStopped s).pulses[i].on = false ∧ (lineStopped s).pulses[i].msLeft = 0 := by
  rw [lineStopped]
  exact stopPulses_pulse _ i

/-- Every counted output is IDLE with no pulse; its FORCED value is an escalation's alone (R117, R122). -/
theorem lineStopped_outs (s : State) (o : Fin 24) :
    (lineStopped s).outs[o] = { s.outs[o] with state := .idle, active := none, waiting := none,
                                               forced := (lineStopped s).outs[o].forced } := by
  refine eq_of_schedule (d := idleOut s.outs[o]) ?_
  rw [lineStopped, stopPulses_outs, stopOuts_schedule, if_pos (mem_indices o)]
  rfl

theorem lineStopped_calm (h : s.escalation = false ∨ s.events[eventIdx .missedActuation].severity ≠ .stop) :
    (lineStopped s).line = .stopped := by
  have hline : State.Calm { s with line := .stopped } := ⟨rfl, h⟩
  rw [lineStopped]
  exact (stopPulses_calm (stopOuts_preserve (P := State.Calm) id id missQuiet_calm hline (indices 24))).1

theorem lineStopped_fired (h : ∀ o : Fin 24, s.outs[o].Fired) :
    (lineStopped s).events = s.events ∧ (lineStopped s).strips = s.strips := by
  rw [lineStopped, stopPulses_events, stopPulses_strips]
  exact stopOuts_fired (s := { s with line := .stopped }) h (indices 24)

theorem lineStopped_missed (h : s.outs[o].Unfired p) : (lineStopped s).Missed o p := by
  rw [lineStopped]
  exact stopPulses_missed (stopOuts_missed (s := { s with line := .stopped }) (mem_indices o) h)

theorem findStrip_mem {n : Nat} {r : Strip} (h : findStrip n s = some r) : r ∈ s.strips := List.mem_of_find?_eq_some h

/-- The record of a missed cut that is still live is marked (R116). -/
theorem lineStopped_cut {i : Fin 16} {r : Strip} (h : s.outs[sawOut i].Unfired p)
    (hr : findStrip p.ticket (lineStopped s) = some r) : r.missedCut = true ∧ r.disposition = some .hold :=
  (lineStopped_missed h).cut (isSaw_sawOut i) r (findStrip_mem hr) (findStrip_ticket hr)

/-- The outputs of saws are the outputs that report to lugs (R96). -/
theorem reports_iff_saw {l : Lug} {j : Fin 40} :
    (∃ o ∈ indices 24, s.outs[o].ReportsAt o j l) ↔ ∃ (i : Fin 16) (p : Pulse), p.lug = j ∧ l.ticket = some p.ticket ∧
      (s.outs[sawOut i].active = some p ∨ s.outs[sawOut i].waiting = some p) := by
  constructor
  · rintro ⟨o, -, p, hp, hsaw, hlug, hticket⟩
    exact ⟨⟨o.val, isSaw_iff.1 hsaw⟩, p, hlug, hticket, hp⟩
  · rintro ⟨i, p, hlug, hticket, hp⟩
    exact ⟨sawOut i, mem_indices _, p, hp, isSaw_sawOut i, hlug, hticket⟩

theorem lineStopped_lugs (s : State) (j : Fin 40) :
    DoneIff (∃ (i : Fin 16) (p : Pulse), p.lug = j ∧ s.lugs[j].ticket = some p.ticket ∧
      (s.outs[sawOut i].active = some p ∨ s.outs[sawOut i].waiting = some p)) s.lugs[j] (lineStopped s).lugs[j] := by
  rw [lineStopped, stopPulses_lugs]
  exact (stopOuts_lugs (indices_nodup 24) { s with line := .stopped } j).congr reports_iff_saw

end Sys2Proof.Machine

section

open Sys2Proof Sys2Proof.Machine

/-- Settles O35: each output's stop by what it is made of, and the 24 stops one after the other. -/
theorem lineStopEndsEveryPulse : Obligations.LineStopEndsEveryPulse := by
  intro x s hs hline
  have hlug := lineStopped_lugs (s.taken x 0x03 [])
  exact ⟨lineStopped (s.taken x 0x03 []), fixedCommand_responds hs rfl (lineStop_moving hline),
    lineStopped_frame (s := s.taken x 0x03 []) hline, lineStopped_outs (s.taken x 0x03 []),
    lineStopped_pulses (s.taken x 0x03 []), lineStopped_calm (s := s.taken x 0x03 []),
    lineStopped_fired (s := s.taken x 0x03 []),
    fun i p h => ⟨(lineStopped_missed (s := s.taken x 0x03 []) h).flag, fun r => lineStopped_cut (s := s.taken x 0x03 []) h⟩,
    fun l p h => (lineStopped_missed (s := s.taken x 0x03 []) h).flag, fun j => ⟨(hlug j).done, (hlug j).kept⟩⟩

end

/-! PROOFS. The outputs and the line (R106, R117, R122): what a change of LINE_STATE and a raising do to the outputs, and
that each update of an output, a time pulse or the line keeps them in agreement. Soundness of a schedule is kept output by
output, so that it can be lacking on one output while an event is raised (R110). -/

namespace Sys2Proof.Machine

open Sys2Proof

set_option Elab.async false

variable {s t u : State}

/-! ### Agreement, output by output -/

theorem CountedOut.Sound.of_schedule {c d : CountedOut} (hd : d.Sound) (h : c.schedule = d.schedule) : c.Sound := by
  obtain ⟨hstate, hactive, hwaiting⟩ := schedule_eq_iff.1 h
  unfold CountedOut.Sound
  rwa [hstate, hactive, hwaiting]

theorem schedule_idle_iff {c : CountedOut} :
    c.schedule = (.idle, none, none) ↔ c.state = .idle ∧ c.active = none ∧ c.waiting = none := by
  simp [CountedOut.schedule]

theorem CountedOut.Sound.of_idle {c : CountedOut} (h : c.schedule = (.idle, none, none)) : c.Sound := by
  obtain ⟨hstate, hactive, hwaiting⟩ := schedule_idle_iff.1 h
  exact ⟨⟨fun _ => hactive, fun _ => hstate⟩, fun _ => hwaiting⟩

/-- An output that is ARMED or ON with a pulse is sound, whatever NEXT holds. -/
theorem CountedOut.Sound.of_busy {c : CountedOut} {p : Pulse} (hstate : c.state ≠ .idle) (hactive : c.active = some p) :
    c.Sound := by
  refine ⟨⟨fun hidle => absurd hidle hstate, fun hnone => ?_⟩, fun hidle => absurd hidle hstate⟩
  cases hactive.symm.trans hnone

theorem CountedOut.Sound.schedule_idle {c : CountedOut} (h : c.Sound) (hstate : c.state = .idle) :
    c.schedule = (.idle, none, none) := by
  rw [CountedOut.schedule, hstate, h.1.1 hstate, h.2 hstate]

theorem CountedOut.Sound.state_ne {c : CountedOut} {p : Pulse} (h : c.Sound) (hactive : c.active = some p) :
    c.state ≠ .idle := fun hidle => by cases hactive.symm.trans (h.1.1 hidle)

/-- No FORCED value is ON. -/
structure State.Unforced (s : State) : Prop where
  outs   : ∀ o : Fin 24, s.outs[o].forced = false
  pulses : ∀ p : Fin 3, s.pulses[p].forced = false

/-- No output holds a pulse and no time pulse runs. -/
structure State.Idle (s : State) : Prop where
  outs   : ∀ o : Fin 24, s.outs[o].schedule = (.idle, none, none)
  pulses : ∀ p : Fin 3, s.pulses[p].on = false

/-- What the line state asks of the outputs, but for the soundness of each schedule. -/
structure State.LineObeyed (s : State) : Prop where
  idle     : s.Halted → s.Idle
  unforced : s.line ≠ .stopped → s.Unforced

theorem outputsAgree_iff : s.OutputsAgree ↔ (∀ o : Fin 24, s.outs[o].Sound) ∧ s.LineObeyed := by
  constructor
  · intro h
    exact ⟨h.sound, fun hhalted => ⟨fun o => (h.sound o).schedule_idle (h.stopped hhalted o), h.pulses hhalted⟩,
      fun hline => ⟨(h.forced hline).1, (h.forced hline).2⟩⟩
  · rintro ⟨hsound, hidle, hunforced⟩
    exact ⟨hsound, fun hhalted o => congrArg Prod.fst ((hidle hhalted).outs o), fun hhalted => (hidle hhalted).pulses,
      fun hline => ⟨(hunforced hline).outs, (hunforced hline).pulses⟩⟩

theorem State.OutputsAgree.obeyed (h : s.OutputsAgree) : s.LineObeyed := (outputsAgree_iff.1 h).2

/-- Outputs that are idle and unforced agree with every line state. -/
theorem State.LineObeyed.of_idle (hidle : s.Idle) (hunforced : s.Unforced) : s.LineObeyed :=
  ⟨fun _ => hidle, fun _ => hunforced⟩

/-- An update away from the outputs and from LINE_STATE. -/
theorem State.LineObeyed.still (h : t.LineObeyed) (houts : u.outs = t.outs := by rfl)
    (hpulses : u.pulses = t.pulses := by rfl) (hline : u.line = t.line := by rfl) : u.LineObeyed where
  idle hhalted := by
    have hidle := h.idle (by rwa [State.Halted, ← hline])
    exact ⟨by rw [houts]; exact hidle.outs, by rw [hpulses]; exact hidle.pulses⟩
  unforced hmoved := by
    have hunforced := h.unforced (by rwa [← hline])
    exact ⟨by rw [houts]; exact hunforced.outs, by rw [hpulses]; exact hunforced.pulses⟩

theorem State.OutputsAgree.still (h : t.OutputsAgree) (houts : u.outs = t.outs := by rfl)
    (hpulses : u.pulses = t.pulses := by rfl) (hline : u.line = t.line := by rfl) : u.OutputsAgree :=
  outputsAgree_iff.2 ⟨by rw [houts]; exact h.sound, h.obeyed.still houts hpulses hline⟩

theorem State.OutputsAgree.foldl {α : Type} {f : State → α → State}
    (hf : ∀ t a, t.OutputsAgree → (f t a).OutputsAgree) (h : t.OutputsAgree) (xs : List α) :
    (xs.foldl f t).OutputsAgree := by
  induction xs generalizing t with
  | nil => exact h
  | cons a as ih => exact ih (hf t a h)

/-- Where an output holds a pulse the line is not stopped. -/
theorem State.OutputsAgree.not_halted {o : Fin 24} {p : Pulse} (h : s.OutputsAgree)
    (hactive : s.outs[o].active = some p) : ¬ s.Halted := fun hhalted =>
  (h.sound o).state_ne hactive (h.stopped hhalted o)

theorem not_halted_of_acts (h : actuatorsAct s = true) : ¬ s.Halted := fun hhalted => by
  cases h.symm.trans (actuatorsAct_stopped hhalted)

/-! ### A change of LINE_STATE (R117, R122, R191) -/

theorem State.Unforced.idleOut (h : s.Unforced) (o : Fin 24) : (updateOut o idleOut s).Unforced where
  outs j := by
    rw [updateOut_outs_get]
    split <;> exact h.outs j
  pulses := h.pulses

theorem releaseForced_unforced (s : State) : (releaseForced s).Unforced where
  outs o := by rw [releaseForced, Fin.getElem_fin, mapTable_get]
  pulses p := by rw [releaseForced, Fin.getElem_fin, mapTable_get]

theorem releaseForced_schedule (s : State) (o : Fin 24) : (releaseForced s).outs[o].schedule = s.outs[o].schedule := by
  rw [releaseForced, Fin.getElem_fin, mapTable_get]
  rfl

theorem State.Idle.releaseForced (h : s.Idle) : (releaseForced s).Idle where
  outs o := (releaseForced_schedule s o).trans (h.outs o)
  pulses p := by
    have hkept : (Machine.releaseForced s).pulses[p].on = s.pulses[p].on := by
      rw [Machine.releaseForced, Fin.getElem_fin, mapTable_get]
      rfl
    rw [hkept, h.pulses]

theorem missQuiet_unforced {o : Fin 24} {p : Pulse} (h : s.Unforced) : (missQuiet o p s).Unforced := by
  have hraised (v : State) (hv : v.Unforced) : (raiseQuiet .missedActuation v).Unforced := by
    unfold raiseQuiet
    dsimp only
    split
    · exact ⟨hv.outs, hv.pulses⟩
    · exact releaseForced_unforced _
  unfold missQuiet missPulse
  split
  · exact hraised _ ⟨h.outs, h.pulses⟩
  · exact hraised _ h

/-- A line stop ends every pulse, whatever the stop of an output raises (R117). -/
theorem stopped_idle (s : State) : (stopPulses ((indices 24).foldl stopOut s)).Idle where
  outs o := by rw [stopPulses_outs, stopOuts_schedule, if_pos (mem_indices o)]
  pulses p := (stopPulses_pulse _ p).1

theorem stopPulses_forced (s : State) (p : Fin 3) : (stopPulses s).pulses[p].forced = s.pulses[p].forced := by
  rw [stopPulses, Fin.getElem_fin, mapTable_get]
  rfl

theorem State.Unforced.stopPulses (h : s.Unforced) : (stopPulses s).Unforced :=
  ⟨h.outs, fun p => (stopPulses_forced s p).trans (h.pulses p)⟩

theorem stopOuts_unforced (h : s.Unforced) (os : List (Fin 24)) : (os.foldl stopOut s).Unforced :=
  stopOuts_preserve (P := State.Unforced) (fun hv => hv.idleOut _) (fun hv => ⟨hv.outs, hv.pulses⟩) missQuiet_unforced
    h os

/-- What a change of LINE_STATE does to the outputs, by the line it leaves and the line it takes (R117, R122). -/
theorem enterLine_cases (after : LineState) (s : State) :
    ((s.line = .running ∨ s.line = .hold) ∧ (after = .stopped ∨ after = .faultStop) ∧
      enterLine after s = stopPulses ((indices 24).foldl stopOut { s with line := after })) ∨
    (s.line = .stopped ∧ after ≠ .stopped ∧ enterLine after s = releaseForced { s with line := after }) ∨
    (((s.line = .running ∨ s.line = .hold) → ¬ (after = .stopped ∨ after = .faultStop)) ∧
      (s.line = .stopped → after = .stopped) ∧ enterLine after s = { s with line := after }) := by
  unfold enterLine
  dsimp only
  by_cases hstops : (s.line = .running ∨ s.line = .hold) ∧ (after = .stopped ∨ after = .faultStop)
  · have hmoving : ¬ (s.line = .stopped ∧ after ≠ .stopped) := fun hleaves => by
      obtain hline | hline := hstops.1 <;> cases hline.symm.trans hleaves.1
    rw [if_pos hstops, if_neg hmoving]
    exact .inl ⟨hstops.1, hstops.2, rfl⟩
  · rw [if_neg hstops]
    by_cases hleaves : s.line = .stopped ∧ after ≠ .stopped
    · rw [if_pos hleaves]
      exact .inr (.inl ⟨hleaves.1, hleaves.2, rfl⟩)
    · rw [if_neg hleaves]
      exact .inr (.inr ⟨fun hmoving hhalts => hstops ⟨hmoving, hhalts⟩,
        fun hline => by_contra fun hafter => hleaves ⟨hline, hafter⟩, rfl⟩)

theorem halted_or_moving (s : State) : s.Halted ∨ (s.line = .running ∨ s.line = .hold) := by
  unfold State.Halted
  cases s.line <;> simp

theorem enterLine_obeyed {after : LineState} (h : s.LineObeyed) : (enterLine after s).LineObeyed := by
  obtain ⟨hmoving, -, hstopped⟩ | ⟨hline, -, hreleased⟩ | ⟨hmoves, hstays, hsame⟩ := enterLine_cases after s
  · have hunforced : s.Unforced := h.unforced fun hline => by
      obtain hmoving | hmoving := hmoving <;> cases hmoving.symm.trans hline
    have hline : State.Unforced { s with line := after } := ⟨hunforced.outs, hunforced.pulses⟩
    rw [hstopped]
    exact .of_idle (stopped_idle _) (stopOuts_unforced hline (indices 24)).stopPulses
  · have hidle := h.idle (.inl hline)
    rw [hreleased]
    exact .of_idle (State.Idle.releaseForced ⟨hidle.outs, hidle.pulses⟩) (releaseForced_unforced _)
  · rw [hsame]
    refine ⟨fun hhalted => ?_, fun hafter => ?_⟩
    · have hidle := h.idle ((halted_or_moving s).resolve_right fun hmoving => hmoves hmoving hhalted)
      exact ⟨hidle.outs, hidle.pulses⟩
    · have hunforced := h.unforced fun hline => hafter (hstays hline)
      exact ⟨hunforced.outs, hunforced.pulses⟩

/-- A change of LINE_STATE leaves an output's schedule or ends it. -/
theorem enterLine_schedule (after : LineState) (s : State) (o : Fin 24) :
    (enterLine after s).outs[o].schedule = s.outs[o].schedule ∨
      (enterLine after s).outs[o].schedule = (.idle, none, none) := by
  obtain ⟨-, -, hstopped⟩ | ⟨-, -, hreleased⟩ | ⟨-, -, hsame⟩ := enterLine_cases after s
  · rw [hstopped]; exact .inr ((stopped_idle _).outs o)
  · rw [hreleased]; exact .inl (releaseForced_schedule _ o)
  · rw [hsame]; exact .inl rfl

theorem enterLine_sound {after : LineState} {o : Fin 24} (h : s.outs[o].Sound) : (enterLine after s).outs[o].Sound :=
  (enterLine_schedule after s o).elim h.of_schedule .of_idle

theorem enterLine_agrees {after : LineState} (h : s.OutputsAgree) : (enterLine after s).OutputsAgree :=
  outputsAgree_iff.2 ⟨fun o => enterLine_sound (h.sound o), enterLine_obeyed h.obeyed⟩

/-! ### Raising an event (R193, R194, R116) -/

theorem raise_obeyed {k : EventKind} (h : s.LineObeyed) : (raise k s).LineObeyed := by
  unfold raise
  dsimp only
  split
  · exact h.still
  · exact enterLine_obeyed h.still

theorem raise_sound {k : EventKind} {o : Fin 24} (h : s.outs[o].Sound) : (raise k s).outs[o].Sound := by
  unfold raise
  dsimp only
  split
  · exact h
  · exact enterLine_sound (s := noteEscalation k _ (setFlag k s)) h

theorem raise_agrees {k : EventKind} (h : s.OutputsAgree) : (raise k s).OutputsAgree :=
  outputsAgree_iff.2 ⟨fun o => raise_sound (h.sound o), raise_obeyed h.obeyed⟩

theorem missPulse_agrees {o : Fin 24} {p : Pulse} (h : s.OutputsAgree) : (missPulse raise o p s).OutputsAgree := by
  have hmarked : (markMissedCut p s).OutputsAgree := h.still
  unfold missPulse
  split
  · exact raise_agrees hmarked
  · exact raise_agrees h

/-! ### Updates of outputs -/

/-- An output changed in its schedule alone: sound, and IDLE in a stopped line. -/
theorem updateOut_agrees {o : Fin 24} {f : CountedOut → CountedOut} (hobeyed : s.LineObeyed)
    (hothers : ∀ j, j ≠ o → s.outs[j].Sound) (hsound : (f s.outs[o]).Sound)
    (hidle : s.Halted → (f s.outs[o]).schedule = (.idle, none, none))
    (hforced : (f s.outs[o]).forced = s.outs[o].forced) : (updateOut o f s).OutputsAgree := by
  refine outputsAgree_iff.2 ⟨fun j => ?_, fun hhalted => ⟨fun j => ?_, (hobeyed.idle hhalted).pulses⟩,
    fun hline => ⟨fun j => ?_, (hobeyed.unforced hline).pulses⟩⟩
  · rw [updateOut_outs_get]
    split
    · next hj => rw [hj]; exact hsound
    · next hj => exact hothers j hj
  · rw [updateOut_outs_get]
    split
    · next hj => rw [hj]; exact hidle hhalted
    · exact (hobeyed.idle hhalted).outs j
  · rw [updateOut_outs_get]
    split
    · next hj => rw [hj, hforced]; exact (hobeyed.unforced hline).outs o
    · exact (hobeyed.unforced hline).outs j

/-- In a moving line an output may take any sound schedule. -/
theorem State.OutputsAgree.updateOut {o : Fin 24} {f : CountedOut → CountedOut} (h : s.OutputsAgree)
    (hmoving : ¬ s.Halted) (hsound : (f s.outs[o]).Sound)
    (hforced : (f s.outs[o]).forced = s.outs[o].forced := by rfl) : (updateOut o f s).OutputsAgree :=
  updateOut_agrees h.obeyed (fun j _ => h.sound j) hsound (fun hhalted => absurd hhalted hmoving) hforced

theorem State.OutputsAgree.idleOut {o : Fin 24} (h : s.OutputsAgree) : (Machine.updateOut o idleOut s).OutputsAgree :=
  updateOut_agrees h.obeyed (fun j _ => h.sound j) (.of_idle rfl) (fun _ => rfl) rfl

/-- Every output changed in its schedule alone, each sound and none taken out of IDLE. -/
theorem State.OutputsAgree.mapOuts {f : CountedOut → CountedOut} (h : s.OutputsAgree)
    (hsound : ∀ c, c.Sound → (f c).Sound)
    (hidle : ∀ c, c.schedule = (.idle, none, none) → (f c).schedule = (.idle, none, none))
    (hforced : ∀ c, (f c).forced = c.forced) : State.OutputsAgree { s with outs := mapTable f s.outs } := by
  have hget (o : Fin 24) : (mapTable f s.outs)[o] = f s.outs[o] := mapTable_get s.outs f o
  refine outputsAgree_iff.2 ⟨fun o => ?_, fun hhalted => ⟨fun o => ?_, (h.obeyed.idle hhalted).pulses⟩,
    fun hline => ⟨fun o => ?_, (h.obeyed.unforced hline).pulses⟩⟩
  · rw [hget]; exact hsound _ (h.sound o)
  · rw [hget]; exact hidle _ ((h.obeyed.idle hhalted).outs o)
  · rw [hget, hforced]; exact (h.obeyed.unforced hline).outs o

/-! ### Time pulses (R119) -/

/-- A time pulse starts in a moving line alone. -/
theorem startPulse_agrees {p : TimePulse} {length : Param} (h : s.OutputsAgree) (hmoving : ¬ s.Halted) :
    (startPulse p length s).OutputsAgree := by
  refine outputsAgree_iff.2 ⟨h.sound, fun hhalted => absurd hhalted hmoving,
    fun hline => ⟨(h.obeyed.unforced hline).outs, fun q => ?_⟩⟩
  rw [startPulse, modifyAt_get]
  split <;> exact (h.obeyed.unforced hline).pulses q

/-- Time pulses that run on no longer and are forced no more than before. -/
theorem State.OutputsAgree.setPulses {pulses : Vector PulseOut 3} (h : s.OutputsAgree)
    (hon : ∀ p : Fin 3, s.pulses[p].on = false → pulses[p].on = false)
    (hforced : ∀ p : Fin 3, pulses[p].forced = s.pulses[p].forced) :
    State.OutputsAgree { s with pulses := pulses } :=
  outputsAgree_iff.2 ⟨h.sound,
    fun hhalted => ⟨(h.obeyed.idle hhalted).outs, fun p => hon p ((h.obeyed.idle hhalted).pulses p)⟩,
    fun hline => ⟨(h.obeyed.unforced hline).outs, fun p => (hforced p).trans ((h.obeyed.unforced hline).pulses p)⟩⟩

theorem endPulse_agrees {p : TimePulse} (h : s.OutputsAgree) : (endPulse p s).OutputsAgree := by
  refine h.setPulses (fun q hq => ?_) fun q => ?_
  · rw [modifyAt_get]
    split
    · rfl
    · exact hq
  · rw [modifyAt_get]
    split <;> rfl

theorem countPulse_agrees (h : s.OutputsAgree) :
    State.OutputsAgree { s with pulses := mapTable countPulse s.pulses } := by
  refine h.setPulses (fun p hp => ?_) fun p => ?_
  · rw [Fin.getElem_fin, mapTable_get, countPulse]
    split <;> exact hp
  · rw [Fin.getElem_fin, mapTable_get, countPulse]
    split <;> rfl

/-! ### NEXT taken up, pulses withdrawn (R111, R114) -/

theorem takeUpNext_sound (c : CountedOut) : (takeUpNext c).Sound := by
  unfold takeUpNext
  split
  · next hnone => exact .of_idle (by rw [CountedOut.schedule, hnone])
  · exact .of_busy (by simp) rfl

theorem takeUpNext_idle {c : CountedOut} (h : c.schedule = (.idle, none, none)) :
    (takeUpNext c).schedule = (.idle, none, none) := by
  have hnone : c.waiting = none := congrArg (fun x => x.2.2) h
  simp only [takeUpNext, hnone, CountedOut.schedule]

theorem takeUpNext_forced (c : CountedOut) : (takeUpNext c).forced = c.forced := by
  unfold takeUpNext
  split <;> rfl

/-- NEXT is dropped, and what is left is taken up or stays: the two ways of a withdrawal. -/
theorem withdrawOut_cases (n : Nat) (c : CountedOut) :
    ∃ d : CountedOut, (d = c ∨ d = { c with waiting := none }) ∧
      (withdrawOut n c = d ∨ withdrawOut n c = takeUpNext d) := by
  unfold withdrawOut
  dsimp only
  split
  · exact ⟨_, .inr rfl, by split <;> simp⟩
  · exact ⟨_, .inl rfl, by split <;> simp⟩

theorem withdrawOut_sound {n : Nat} {c : CountedOut} (h : c.Sound) : (withdrawOut n c).Sound := by
  obtain ⟨d, hd, hsame | htaken⟩ := withdrawOut_cases n c
  · rw [hsame]
    obtain rfl | rfl := hd
    · exact h
    · exact ⟨h.1, fun _ => rfl⟩
  · rw [htaken]
    exact takeUpNext_sound d

theorem withdrawOut_idle {n : Nat} {c : CountedOut} (h : c.schedule = (.idle, none, none)) :
    (withdrawOut n c).schedule = (.idle, none, none) := by
  obtain ⟨d, hd, hw⟩ := withdrawOut_cases n c
  have hidle : d.schedule = (.idle, none, none) := by
    obtain ⟨hstate, hactive, -⟩ := schedule_idle_iff.1 h
    obtain rfl | rfl := hd
    · exact h
    · rw [CountedOut.schedule, hstate, hactive]
  obtain hw | hw := hw
  · rw [hw, hidle]
  · rw [hw, takeUpNext_idle hidle]

theorem withdrawOut_forced (n : Nat) (c : CountedOut) : (withdrawOut n c).forced = c.forced := by
  obtain ⟨d, hd, hw⟩ := withdrawOut_cases n c
  have hkept : d.forced = c.forced := by obtain rfl | rfl := hd <;> rfl
  obtain hw | hw := hw
  · rw [hw, hkept]
  · rw [hw, takeUpNext_forced, hkept]

theorem withdrawPulses_agrees {n : Nat} (h : s.OutputsAgree) : (withdrawPulses n s).OutputsAgree :=
  h.mapOuts (fun _ => withdrawOut_sound) (fun _ => withdrawOut_idle) (withdrawOut_forced n)

end Sys2Proof.Machine

/-! PROOFS. The outputs and the line, along the operations' call graph (R106): records and lanes, actuators, the gate, the
chain, a tick of the channels. Points are taken and time pulses start in a moving line alone; what acts on no output leaves
the agreement alone but for the events it raises. -/

namespace Sys2Proof.Machine

open Sys2Proof

set_option Elab.async false

variable {s t u : State}

/-! ### Records and places -/

theorem evalPermit_agrees (h : s.OutputsAgree) : (evalPermit s).OutputsAgree := by
  rw [evalPermit_eq]
  exact h.still

theorem dropPlan_agrees {n : Nat} (h : s.OutputsAgree) : (dropPlan n s).OutputsAgree := by
  unfold dropPlan
  split <;> exact h.still

theorem updateStrip_agrees {n : Nat} {f : Strip → Strip} (h : s.OutputsAgree) : (updateStrip n f s).OutputsAgree :=
  h.still

theorem setSawDone_agrees {j : Fin 40} {n : Nat} (h : s.OutputsAgree) : (setSawDone j n s).OutputsAgree := h.still

theorem clearLugsOf_agrees {n : Nat} (h : s.OutputsAgree) : (clearLugsOf n s).OutputsAgree := h.still

theorem leaveHolding_agrees {n : Nat} (h : s.OutputsAgree) : (leaveHolding n s).OutputsAgree := by
  unfold leaveHolding
  split
  · exact h.still
  · exact h

theorem leaveInfeed_agrees {n : Nat} (h : s.OutputsAgree) : (leaveInfeed n s).OutputsAgree := by
  unfold leaveInfeed
  split
  · exact evalPermit_agrees h.still
  · exact h

theorem freeSlot_agrees {n : Nat} (h : s.OutputsAgree) : (freeSlot n s).OutputsAgree := h.still

theorem leaveMoulder_agrees {n : Nat} (h : s.OutputsAgree) : (leaveMoulder n s).OutputsAgree := h.still

theorem retireCore_agrees {n : Nat} (h : s.OutputsAgree) : (retireCore n s).OutputsAgree :=
  withdrawPulses_agrees <| clearLugsOf_agrees <| leaveHolding_agrees <| leaveMoulder_agrees <| leaveInfeed_agrees <|
    freeSlot_agrees (dropPlan_agrees h)

/-! ### Bundles, labels and the Dispatch Port -/

theorem retireBundle_agrees {l : Fin 8} (h : s.OutputsAgree) : (retireBundle l s).OutputsAgree := by
  unfold retireBundle
  dsimp only
  split <;> exact h.still

theorem bundleTest_agrees {l : Fin 8} (h : s.OutputsAgree) : (bundleTest l s).OutputsAgree := by
  unfold bundleTest
  split
  · split
    · exact retireBundle_agrees h
    · exact h
  · exact h

theorem handLabelDone_agrees {l : Fin 8} (h : s.OutputsAgree) : (handLabelDone l s).OutputsAgree :=
  bundleTest_agrees h.still

theorem setCleared_agrees {l : Fin 8} (h : s.OutputsAgree) : (setCleared l s).OutputsAgree := bundleTest_agrees h.still

theorem strobeTest_agrees (h : s.OutputsAgree) : (strobeTest s).OutputsAgree := by
  unfold strobeTest
  split
  · split <;> exact h.still
  · exact h

theorem startHandshake_agrees (h : s.OutputsAgree) : (startHandshake s).OutputsAgree := by
  unfold startHandshake
  split
  · exact strobeTest_agrees h.still
  · exact h

theorem fillOne_agrees (h : s.OutputsAgree) : (fillOne s).OutputsAgree := by
  unfold fillOne
  split
  · split <;> exact h.still
  · exact h

theorem fillFifo_agrees {n : Nat} (h : s.OutputsAgree) : (fillFifo n s).OutputsAgree := by
  induction n generalizing s with
  | zero => exact h
  | succ n ih => exact ih (fillOne_agrees h)

theorem composerTest_agrees (h : s.OutputsAgree) : (composerTest s).OutputsAgree := by
  unfold composerTest
  split
  · split
    · exact h
    · exact startHandshake_agrees (fillFifo_agrees h.still)
  · exact h

theorem completeByte_agrees (h : s.OutputsAgree) : (completeByte s).OutputsAgree := by
  unfold completeByte
  split
  · exact h
  · dsimp only
    refine startHandshake_agrees ?_
    split
    · split
      · exact raise_agrees h.still
      · exact h.still
    · split
      · split
        · exact composerTest_agrees (handLabelDone_agrees h.still)
        · exact fillOne_agrees h.still
      · exact h.still
    · exact h.still

theorem busyEdge_agrees {high : Bool} (h : s.OutputsAgree) : (busyEdge high s).OutputsAgree := by
  unfold busyEdge
  split
  · exact h.still
  · split <;> exact h.still
  · exact h.still
  · exact completeByte_agrees h
  · exact strobeTest_agrees h
  · exact h

theorem endStrobe_agrees (h : s.OutputsAgree) : (endStrobe s).OutputsAgree := by
  unfold endStrobe
  dsimp only
  split
  · exact completeByte_agrees h.still
  · split <;> exact h.still

theorem faultAsserted_agrees (h : s.OutputsAgree) : (faultAsserted s).OutputsAgree := by
  unfold faultAsserted
  refine raise_agrees ?_
  split <;> exact h.still

theorem faultCleared_agrees (h : s.OutputsAgree) : (faultCleared s).OutputsAgree := by
  unfold faultCleared
  refine strobeTest_agrees ?_
  split <;> exact h.still

theorem portTimeout_agrees (h : s.OutputsAgree) : (portTimeout s).OutputsAgree := by
  have hflushed : (raise .portTimeout (flushPort s)).OutputsAgree := raise_agrees h.still
  unfold portTimeout
  dsimp only
  split
  · unfold endTry
    split
    · exact composerTest_agrees hflushed.still
    · split
      · exact composerTest_agrees hflushed.still
      · exact composerTest_agrees (raise_agrees hflushed.still)
  · exact hflushed

/-! ### Lanes and drop watch -/

theorem closeBundle_agrees {l : Fin 8} {why : CloseReason} (h : s.OutputsAgree) :
    (closeBundle l why s).OutputsAgree := by
  have hclosed : (raise .bundleClosed (updateLane l (fun r => { r with state := .closed })
      (updateBundle l (fun b => { b with closeReason := some why }) s))).OutputsAgree := raise_agrees h.still
  unfold closeBundle
  dsimp only
  split
  · exact composerTest_agrees hclosed.still
  · exact hclosed

theorem markDoubtful_agrees {l : Fin 8} {n : Nat} (h : s.OutputsAgree) : (markDoubtful l n s).OutputsAgree := by
  unfold markDoubtful
  split
  · split
    · dsimp only
      split <;> exact h.still
    · exact h
  · exact h

theorem expireWatch_agrees {l : Fin 8} (h : s.OutputsAgree) : (expireWatch l s).OutputsAgree := by
  unfold expireWatch
  split
  · exact h
  · dsimp only
    split
    · exact markDoubtful_agrees (raise_agrees h.still)
    · exact raise_agrees h.still

theorem expireWatches_agrees {l : Fin 8} {n : Nat} (h : s.OutputsAgree) : (expireWatches l n s).OutputsAgree := by
  induction n generalizing s with
  | zero => exact h
  | succ n ih =>
    unfold expireWatches
    split
    · exact ih (expireWatch_agrees h)
    · exact h

theorem appendWatch_agrees {l : Fin 8} {w : Watch} (h : s.OutputsAgree) : (appendWatch l w s).OutputsAgree := by
  unfold appendWatch
  dsimp only
  split
  · exact (expireWatch_agrees h).still
  · exact h.still

theorem commitStrip_agrees {l : Fin 8} {r : Strip} (h : s.OutputsAgree) : (commitStrip l r s).OutputsAgree := by
  have hcounted : (countStrip l r s).OutputsAgree := by
    unfold countStrip
    split <;> exact h.still
  have hwatched : (appendWatch l (commitWatch l (retireCore r.ticket (countStrip l r s)))
      (retireCore r.ticket (countStrip l r s))).OutputsAgree := appendWatch_agrees (retireCore_agrees hcounted)
  unfold commitStrip
  dsimp only
  split
  · unfold closureTest
    split
    · exact hwatched
    · split
      · exact closeBundle_agrees hwatched
      · split
        · exact closeBundle_agrees hwatched
        · exact hwatched
  · exact hwatched

/-! ### Actuators -/

/-- A pusher's pulse that is suppressed leaves its output without ACTIVE while DIVERT_SUPPRESSED is raised; NEXT is taken
up if the raising has not stopped the line (R110). -/
theorem suppressed_agrees {o : Fin 24} (h : s.OutputsAgree) (hmoving : ¬ s.Halted) :
    (updateOut o takeUpNext
      (raise .divertSuppressed (updateOut o (fun c => { c with active := none }) s))).OutputsAgree := by
  have hdropped : (updateOut o (fun c => { c with active := none }) s).LineObeyed := by
    refine ⟨fun hhalted => absurd hhalted hmoving, fun hline => ⟨fun j => ?_, (h.obeyed.unforced hline).pulses⟩⟩
    rw [updateOut_outs_get]
    split <;> exact (h.obeyed.unforced hline).outs j
  have hraised := raise_obeyed (k := .divertSuppressed) hdropped
  refine updateOut_agrees hraised (fun j hj => raise_sound ?_) (takeUpNext_sound _)
    (fun hhalted => takeUpNext_idle ((hraised.idle hhalted).outs o)) (takeUpNext_forced _)
  rw [updateOut_outs_get, if_neg hj]
  exact h.sound j

theorem pusherSetPoint_agrees {o : Fin 24} {l : Fin 8} {p : Pulse} (h : s.OutputsAgree)
    (hactive : s.outs[o].active = some p) : (pusherSetPoint o l p s).OutputsAgree := by
  have hmoving := h.not_halted hactive
  unfold pusherSetPoint
  split
  · exact commitStrip_agrees (h.updateOut hmoving (.of_busy (by simp) hactive))
  · exact suppressed_agrees h hmoving

theorem pusherMerge_agrees {o : Fin 24} {l : Fin 8} {p q : Pulse} (h : s.OutputsAgree)
    (hactive : s.outs[o].active = some p) : (pusherMerge o l p q s).OutputsAgree := by
  have hmoving := h.not_halted hactive
  have hbusy := (h.sound o).state_ne hactive
  unfold pusherMerge
  split
  · exact commitStrip_agrees (h.updateOut hmoving (.of_busy hbusy rfl))
  · exact raise_agrees (h.updateOut hmoving (.of_busy hbusy hactive))

theorem takePoint_agrees {o : Fin 24} {k : Point} (h : s.OutputsAgree) : (takePoint o k s).OutputsAgree := by
  unfold takePoint
  dsimp only
  split
  · next hactive =>
    split
    · exact h.updateOut (h.not_halted hactive) (.of_busy (by simp) hactive)
    · exact pusherSetPoint_agrees h hactive
  · next hactive _ =>
    split
    · exact (setSawDone_agrees h).updateOut (h.not_halted hactive) (.of_busy ((h.sound o).state_ne hactive) rfl)
    · exact pusherMerge_agrees h hactive
  · next hactive =>
    have hdone (p : Pulse) : (if isSaw o then setSawDone p.lug p.ticket s else s).OutputsAgree ∧
        ¬ (if isSaw o then setSawDone p.lug p.ticket s else s).Halted := by
      split
      · exact ⟨setSawDone_agrees h, h.not_halted hactive⟩
      · exact ⟨h, h.not_halted hactive⟩
    exact (hdone _).1.updateOut (hdone _).2 (takeUpNext_sound _) (takeUpNext_forced _)
  · exact h

theorem settle_agrees {order : List (Fin 24)} {atCount : Bool} {n : Nat} (h : s.OutputsAgree) :
    (settle order atCount n s).OutputsAgree := by
  induction n generalizing s with
  | zero => exact h
  | succ n ih =>
    unfold settle
    split
    · exact h
    · exact ih (takePoint_agrees h)

theorem settleSets_agrees (h : s.OutputsAgree) : (settleSets s).OutputsAgree := settle_agrees h

theorem retire_agrees {n : Nat} {why : RetireReason} (h : s.OutputsAgree) : (retire n why s).OutputsAgree := by
  have hsettled := settleSets_agrees (retireCore_agrees (n := n) h)
  unfold retire
  dsimp only
  split
  · exact hsettled
  · exact raise_agrees hsettled

theorem arm_agrees {o : Fin 24} {j : Fin 40} {n : Nat} {c0 : Pos} (h : s.OutputsAgree) :
    (arm o j n c0 s).OutputsAgree := by
  have hlate {late : Bool} {t : State} (ht : t.OutputsAgree) :
      State.OutputsAgree (if late = true then raise .lateFire t else t) := by
    split
    · exact raise_agrees ht
    · exact ht
  unfold arm
  dsimp only
  split
  · exact missPulse_agrees h
  · next hacts =>
    have hmoving : ¬ s.Halted := not_halted_of_acts (by simpa using hacts)
    split
    · exact h
    · split
      · exact settleSets_agrees (hlate (h.updateOut hmoving (.of_busy (by simp) rfl)))
      · next hbusy =>
        split
        · exact missPulse_agrees (hlate h)
        · exact settleSets_agrees (hlate (h.updateOut hmoving ⟨(h.sound o).1, fun hidle => absurd hidle hbusy⟩))

theorem reverseOut_agrees (s : State) (o : Fin 24) (h : s.OutputsAgree) : (reverseOut s o).OutputsAgree := by
  unfold reverseOut
  dsimp only
  split
  · split
    · exact setSawDone_agrees h.idleOut
    · exact h.idleOut
  · exact h.idleOut

/-! ### Plans, reports, the gate and the tool sets -/

theorem startEvaluation_agrees (h : s.OutputsAgree) : (startEvaluation s).OutputsAgree := by
  unfold startEvaluation
  split
  · split <;> exact h.still
  · exact h

theorem finishEvaluation_agrees (h : s.OutputsAgree) : (finishEvaluation s).OutputsAgree := by
  unfold finishEvaluation
  split
  · exact h
  · dsimp only
    split <;> exact h.still

theorem withdrawReport_agrees (s : State) (n : Nat) (h : s.OutputsAgree) : (withdrawReport s n).OutputsAgree := by
  unfold withdrawReport
  dsimp only
  split <;> exact h.still

theorem takeReport_agrees {a : Fin 4} {n thickness : Nat} {ds : List Defect} (h : s.OutputsAgree) :
    (takeReport a n thickness ds s).OutputsAgree := by
  unfold takeReport
  dsimp only
  split <;> exact h.still

theorem classifyTool_agrees {m : Fin 4} {before : ToolState} (h : s.OutputsAgree) :
    (classifyTool m before s).OutputsAgree := by
  unfold classifyTool
  dsimp only
  split
  · exact h.still
  · split
    · exact raise_agrees h.still
    · exact raise_agrees h.still
    · exact h.still

theorem addWear_agrees {m : Fin 4} {length : Option Nat} (h : s.OutputsAgree) : (addWear m length s).OutputsAgree := by
  unfold addWear
  split
  · exact h
  · exact classifyTool_agrees h.still

theorem releaseHead_agrees {m : Fin 4} {r : Strip} (h : s.OutputsAgree) (hmoving : ¬ s.Halted) :
    (releaseHead m r s).OutputsAgree :=
  addWear_agrees (evalPermit_agrees (startPulse_agrees (p := .gate) (length := .gatePulseMs) h hmoving).still)

/-- A strip is released, and GATE starts, in RUNNING alone (R72, R73). -/
theorem releaseTest_agrees (h : s.OutputsAgree) : (releaseTest s).OutputsAgree := by
  unfold releaseTest
  split
  · next hreason _ _ =>
    exact releaseHead_agrees h fun hhalted => by cases (holdReason_halted hhalted).symm.trans hreason
  · split
    · exact raise_agrees h.still
    · exact h
  · exact h

theorem drainTest_agrees (h : s.OutputsAgree) : (drainTest s).OutputsAgree := by
  have hunmounted : (unmount s).OutputsAgree := by
    unfold unmount
    split <;> exact h.still
  unfold drainTest
  split
  · exact h
  · split
    · exact releaseTest_agrees (raise_agrees (classifyTool_agrees hunmounted).still)
    · exact h

theorem transitTest_agrees {n : Nat} (h : s.OutputsAgree) : (transitTest n s).OutputsAgree := by
  induction n generalizing s with
  | zero => exact h
  | succ n ih =>
    unfold transitTest
    split
    · exact h
    · exact ih (drainTest_agrees (releaseTest_agrees (retire_agrees h)))

theorem pe3Edge_agrees (h : s.OutputsAgree) : (pe3Edge s).OutputsAgree := by
  unfold pe3Edge
  split
  · exact raise_agrees h
  · next e rest _ =>
    have hdisplaced : State.OutputsAgree (displaceHolding { s with moulder := rest }) := by
      unfold displaceHolding
      split
      · exact h.still
      · exact retire_agrees h.still
    exact drainTest_agrees (releaseTest_agrees (updateStrip_agrees (updateStrip_agrees hdisplaced.still)))

theorem withdrawReports_agrees {a : Fin 4} (h : s.OutputsAgree) : (withdrawReports a s).OutputsAgree :=
  releaseTest_agrees (h.foldl withdrawReport_agrees _)

/-! ### The infeed queue -/

theorem doubtMeasuring_agrees (h : s.OutputsAgree) : (doubtMeasuring s).OutputsAgree := by
  unfold doubtMeasuring
  split <;> exact h.still

theorem joinInfeed_agrees {stage : Stage} {add : Strip → Strip} (h : s.OutputsAgree) :
    (joinInfeed stage add s).OutputsAgree :=
  evalPermit_agrees h.still

theorem pe1Leading_agrees {capture : Pos} (h : s.OutputsAgree) : (pe1Leading capture s).OutputsAgree := by
  unfold pe1Leading
  split
  · exact joinInfeed_agrees h
  · refine raise_agrees ?_
    split
    · next hacts => exact startPulse_agrees h (not_halted_of_acts hacts)
    · exact h

theorem pe1Trailing_agrees {capture : Pos} (h : s.OutputsAgree) : (pe1Trailing capture s).OutputsAgree := by
  unfold pe1Trailing joinIfReported
  split
  · exact h
  · split <;> exact h.still

theorem pe2Arrival_agrees (h : s.OutputsAgree) : (pe2Arrival s).OutputsAgree := by
  unfold pe2Arrival
  refine releaseTest_agrees ?_
  split
  · unfold arriveStrip
    dsimp only
    split
    · exact h.still
    · split <;> exact h.still
  · unfold phantomGate
    dsimp only
    split
    · exact joinInfeed_agrees (raise_agrees h)
    · exact raise_agrees h

/-! ### The encoders -/

theorem chPiece_agrees {d : Direction} {turns : Bool} {outputs : List (Fin 24)} (s : State) (k : Fin 3)
    (h : s.OutputsAgree) : (chPiece d turns outputs s k).OutputsAgree := by
  match k with
  | 0 => exact settle_agrees h
  | 1 =>
    simp only [chPiece]
    split
    · exact h.foldl reverseOut_agrees _
    · exact h
  | 2 =>
    simp only [chPiece, chReverseEvent]
    split
    · exact raise_agrees h.still
    · exact h

theorem chCount_agrees {a b : Bool} {d : Direction} {order : CountOrder} (h : s.OutputsAgree) :
    (chCount a b d order s).OutputsAgree := by
  have hcounted : (speedCount d { s with ch := countEncoder a b d s.ch }).OutputsAgree := by cases d <;> exact h.still
  exact hcounted.foldl chPiece_agrees _

theorem setPair_agrees {unit : EncUnit} {a b : Bool} (h : s.OutputsAgree) : (setPair unit a b s).OutputsAgree := by
  cases unit <;> exact h.still

theorem infCount_agrees {a b : Bool} {d : Direction} (h : s.OutputsAgree) : (infCount a b d s).OutputsAgree := by
  unfold infCount
  extract_lets counted doubted
  have hcounted : counted.OutputsAgree := h.still
  have hdoubted : doubted.OutputsAgree := by
    unfold doubted
    split
    · exact doubtMeasuring_agrees hcounted
    · exact hcounted
  split
  · exact raise_agrees hdoubted.still
  · exact hdoubted

theorem encoderCount_agrees {unit : EncUnit} {a b : Bool} {order : CountOrder} (h : s.OutputsAgree) :
    (encoderCount unit a b order s).OutputsAgree := by
  unfold encoderCount
  split
  · split
    · exact setPair_agrees h
    · exact infCount_agrees h
  · split
    · exact setPair_agrees h
    · exact chCount_agrees h

/-! ### The lug chain -/

theorem pitchCheck_agrees {c0 : Pos} (h : s.OutputsAgree) : (pitchCheck c0 s).OutputsAgree := by
  unfold pitchCheck
  split
  · exact h.still
  · dsimp only
    split
    · exact raise_agrees h.still
    · exact h.still

theorem carryOver_agrees (h : s.OutputsAgree) : (carryOver s).OutputsAgree := by
  unfold carryOver
  split
  · exact h
  · exact retire_agrees h

theorem putOnHead_agrees {n : Nat} (h : s.OutputsAgree) : (putOnHead n s).OutputsAgree := h.still

theorem loadPoint_agrees (h : s.OutputsAgree) : (loadPoint s).OutputsAgree := by
  unfold loadPoint
  split
  · exact putOnHead_agrees h.still
  · exact putOnHead_agrees (raise_agrees h).still
  · unfold countWindow
    dsimp only
    split
    · exact retire_agrees h.still
    · exact h.still
  · exact h

theorem presenceCheck_agrees (h : s.OutputsAgree) : (presenceCheck s).OutputsAgree := by
  unfold presenceCheck
  split
  · exact retire_agrees h
  · exact raise_agrees h
  · exact h

theorem advancePart_agrees {c0 : Pos} (s : State) (p : AdvancePart) (h : s.OutputsAgree) :
    (advancePart c0 s p).OutputsAgree := by
  cases p with
  | piece k =>
    obtain hsame | ⟨o, j, n, harm⟩ := advancePiece_cases c0 s k
    · rw [advancePart, hsame]; exact h
    · rw [advancePart, harm]; exact arm_agrees h
  | count a b order => exact encoderCount_agrees (unit := .ch) h

theorem advance_agrees {c0 : Pos} {parts : List AdvancePart} (h : s.OutputsAgree) :
    (advance c0 parts s).OutputsAgree := by
  have hchecked : (pitchCheck c0 { s with head := s.head + 1 }).OutputsAgree := pitchCheck_agrees h.still
  exact (presenceCheck_agrees (loadPoint_agrees (carryOver_agrees hchecked))).foldl advancePart_agrees _

theorem retreat_agrees (h : s.OutputsAgree) : (retreat s).OutputsAgree := carryOver_agrees h.still

/-! ### A tick of the channels -/

theorem deliverEdge_agrees {parts : List AdvancePart} {i : Fin 6} {k : EdgeKind} (h : s.OutputsAgree) :
    (deliverEdge parts i k s).OutputsAgree := by
  unfold deliverEdge
  split
  · exact pe1Leading_agrees h
  · exact pe1Trailing_agrees h
  · exact pe2Arrival_agrees h
  · exact pe3Edge_agrees h
  · unfold lugEdge
    split
    · exact advance_agrees h
    · exact retreat_agrees h
  · exact h

theorem sampleChannel_agrees {raw : BitVec 6} {parts : List AdvancePart} (s : State) (i : Fin 6) (h : s.OutputsAgree) :
    (sampleChannel raw parts s i).OutputsAgree := by
  have hnotice : (sampleNotice raw s i).OutputsAgree := by
    unfold sampleNotice glitchNotice
    dsimp only
    split
    · exact doubtMeasuring_agrees h.still
    · exact h.still
  rw [sampleChannel_eq]
  split
  · exact hnotice
  · exact deliverEdge_agrees hnotice

end Sys2Proof.Machine

/-! PROOFS. The outputs and the line in every command and every step (R106), and the levels that the line state drives
(R192). -/

namespace Sys2Proof.Machine

open Sys2Proof

set_option Elab.async false

variable {s t u : State}

/-! ### A jam -/

theorem jamExpiry_agrees {i : Fin 6} (h : s.OutputsAgree) : (jamExpiry i s).OutputsAgree := by
  unfold jamExpiry
  dsimp only
  split
  · exact raise_agrees h.still
  · exact h.still

/-! ### Settings and the line -/

theorem adjustOthers_agrees {p : Param} {v : Nat} (h : s.OutputsAgree) :
    (adjustOthers p (putPar p v s)).OutputsAgree := by
  rw [stored_params]
  exact h.still

theorem paramEffect_agrees {p : Param} (h : s.OutputsAgree) : (paramEffect p s).OutputsAgree := by
  unfold paramEffect
  split
  · exact evalPermit_agrees h
  · exact evalPermit_agrees h
  · exact releaseTest_agrees h
  · exact transitTest_agrees h
  · exact h.foldl (fun _ _ => expireWatches_agrees) _
  · exact h

theorem setParam_agrees {code : Byte} {value : BitVec 32} (h : s.OutputsAgree) :
    (setParam code value s).1.OutputsAgree := by
  unfold setParam
  split
  · exact h
  · dsimp only
    split
    · exact h
    · exact paramEffect_agrees (adjustOthers_agrees h)

theorem changeLine_agrees {after : LineState} (h : s.OutputsAgree) : (changeLine after s).OutputsAgree :=
  releaseTest_agrees (enterLine_agrees h)

theorem lineStart_agrees (h : s.OutputsAgree) : (lineStart s).1.OutputsAgree := by
  unfold lineStart
  split
  · exact changeLine_agrees h
  · exact changeLine_agrees h
  · exact h
  · exact h

theorem lineHold_agrees (h : s.OutputsAgree) : (lineHold s).1.OutputsAgree := by
  unfold lineHold
  split
  · exact changeLine_agrees h
  · exact h
  · exact h
  · exact h

theorem lineStop_agrees (h : s.OutputsAgree) : (lineStop s).1.OutputsAgree := by
  unfold lineStop
  split
  · exact changeLine_agrees h
  · exact changeLine_agrees h
  · exact h
  · exact h

theorem faultAck_agrees (h : s.OutputsAgree) : (faultAck s).1.OutputsAgree := by
  unfold faultAck
  split
  · split
    · exact h
    · exact changeLine_agrees h
  · exact h
  · exact h
  · exact h

theorem clearTracking_agrees (h : s.OutputsAgree) : (clearTracking s).OutputsAgree := by
  have hidled := h.mapOuts (f := idleOut) (fun _ _ => .of_idle rfl) (fun _ _ => rfl) fun _ => rfl
  rw [clearTracking_eq]
  exact hidled.still

theorem trackClear_agrees (h : s.OutputsAgree) : (trackClear s).1.OutputsAgree := by
  unfold trackClear
  split
  · exact releaseTest_agrees (drainTest_agrees (clearTracking_agrees h))
  · exact h

theorem clearFlag_agrees (s : State) (k : EventKind) (h : s.OutputsAgree) : (clearFlag s k).OutputsAgree := h.still

theorem clearEvents_agrees {bytes : List Byte} (h : s.OutputsAgree) : (clearEvents bytes s).1.OutputsAgree := by
  unfold clearEvents
  split
  · exact h.foldl clearFlag_agrees _
  · exact h

theorem setEventRoute_agrees {kind route masked severity : Byte} (h : s.OutputsAgree) :
    (setEventRoute kind route masked severity s).1.OutputsAgree := by
  unfold setEventRoute
  split <;> exact h.still

theorem setEscalation_agrees {value : Byte} (h : s.OutputsAgree) : (setEscalation value s).1.OutputsAgree := by
  unfold setEscalation
  split <;> exact h.still

/-- FORCED values take any value in STOPPED (R121). -/
theorem forceOutputs_agrees {sets clears : List Byte} (h : s.OutputsAgree) (hline : s.line = .stopped) :
    (forceOutputs sets clears s).OutputsAgree := by
  have hidle := h.obeyed.idle (.inl hline)
  have hout (o : Fin 24) : (forceOutputs sets clears s).outs[o].schedule = s.outs[o].schedule := by
    rw [forceOutputs, Fin.getElem_fin, Vector.getElem_ofFn]
    rfl
  have hpulse (p : Fin 3) : (forceOutputs sets clears s).pulses[p].on = s.pulses[p].on := by
    rw [forceOutputs, Fin.getElem_fin, Vector.getElem_ofFn]
  have hstays : (forceOutputs sets clears s).line = .stopped := by rw [forceOutputs, hline]
  exact outputsAgree_iff.2 ⟨fun o => (h.sound o).of_schedule (hout o),
    fun _ => ⟨fun o => (hout o).trans (hidle.outs o), fun p => (hpulse p).trans (hidle.pulses p)⟩,
    fun hmoved => absurd hstays hmoved⟩

theorem setOutputs_agrees {setCount : Byte} {bytes : List Byte} (h : s.OutputsAgree) :
    (setOutputs setCount bytes s).1.OutputsAgree := by
  unfold setOutputs
  dsimp only
  split
  · exact h
  · next hline =>
    split
    · exact h
    · exact forceOutputs_agrees h (not_not.1 hline)

theorem setGrade_agrees {row enabled : Byte} {maxDensity : BitVec 16} {maxSize : Vector Byte 8} {price : Byte}
    (h : s.OutputsAgree) : (setGrade row enabled maxDensity maxSize price s).1.OutputsAgree := by
  unfold setGrade
  split
  · split <;> exact h.still
  · exact h

theorem setSawMap_agrees {bytes : List Byte} (h : s.OutputsAgree) : (setSawMap bytes s).1.OutputsAgree := by
  unfold setSawMap
  dsimp only
  split
  · exact h
  · split <;> exact h.still

theorem setFilter_agrees {channel mode : Byte} {threshold jamMs : BitVec 16} (h : s.OutputsAgree) :
    (setFilter channel mode threshold jamMs s).1.OutputsAgree := by
  unfold setFilter
  split <;> exact h.still

theorem clearGlitch_agrees {channel : Byte} (h : s.OutputsAgree) : (clearGlitch channel s).1.OutputsAgree := by
  unfold clearGlitch
  split <;> exact h.still

/-! ### Records, the gate and tool sets by command -/

theorem regrade_agrees {ticket : Nat} {value : Byte} (h : s.OutputsAgree) :
    (regrade ticket value s).1.OutputsAgree := by
  unfold regrade
  split
  · exact h
  · split <;> exact h.still

theorem purge_agrees {ticket : Nat} (h : s.OutputsAgree) : (purge ticket s).1.OutputsAgree := by
  unfold purge
  split
  · exact h
  · split
    · exact retire_agrees (n := ticket) (why := .purged) h
    · exact h

/-- EJECT starts where actuators act alone (R76). -/
theorem ejectHead_agrees (h : s.OutputsAgree) : (ejectHead s).1.OutputsAgree := by
  unfold ejectHead
  split
  · exact h
  · next hacts =>
    have hmoving : ¬ s.Halted := not_halted_of_acts (by simpa using hacts)
    split
    · exact h
    · exact releaseTest_agrees
        (retire_agrees (why := .ejected) (startPulse_agrees (p := .eject) (length := .ejectPulseMs) h hmoving)).still

theorem setTool_agrees {set profile width : Byte} {life : BitVec 16} {warnPct : Byte} (h : s.OutputsAgree) :
    (setTool set profile width life warnPct s).1.OutputsAgree := by
  unfold setTool
  split
  · exact h
  · split <;> exact h.still

theorem changeTools_agrees {set : Byte} (h : s.OutputsAgree) : (changeTools set s).1.OutputsAgree := by
  unfold changeTools
  split
  · exact h
  · split
    · dsimp only [okay]
      exact drainTest_agrees h.still
    · exact h

theorem cancelChange_agrees (h : s.OutputsAgree) : (cancelChange s).1.OutputsAgree := by
  unfold cancelChange
  split
  · exact releaseTest_agrees h.still
  · exact h

theorem resetWear_agrees {set : Byte} (h : s.OutputsAgree) : (resetWear set s).1.OutputsAgree := by
  unfold resetWear
  split
  · exact h
  · split <;> exact h.still

/-! ### Lanes, labels and the Dispatch Port by command -/

theorem setLane_agrees {lane kind dropOffset grade : Byte} {minK maxK : BitVec 16} {alternate : Byte}
    {target : BitVec 16} {maxStrips : Byte} {shortMm : BitVec 16} {mixPct : Byte} (h : s.OutputsAgree) :
    (setLane lane kind dropOffset grade minK maxK alternate target maxStrips shortMm mixPct s).1.OutputsAgree := by
  unfold setLane
  split
  · split
    · exact h
    · unfold writeLane
      dsimp only
      split
      · exact h
      · split <;> exact h.still
  · exact h

theorem laneEnable_agrees {lane value : Byte} (h : s.OutputsAgree) : (laneEnable lane value s).1.OutputsAgree := by
  unfold laneEnable
  split
  · unfold laneOn
    split <;> exact h.still
  · unfold laneOff
    dsimp only
    split
    · exact h.still
    · split
      · exact h.still
      · exact closeBundle_agrees h.still
    · exact h.still
  · exact h

theorem forceClose_agrees {lane : Byte} (h : s.OutputsAgree) : (forceClose lane s).1.OutputsAgree := by
  unfold forceClose
  split
  · exact h
  · split
    · exact h
    · split
      · exact h
      · exact closeBundle_agrees h

theorem confirmClear_agrees {lane : Byte} (h : s.OutputsAgree) : (confirmClear lane s).1.OutputsAgree := by
  unfold confirmClear
  split
  · exact h
  · split
    · exact setCleared_agrees h
    · exact h

theorem labelRetry_agrees {lane : Byte} (h : s.OutputsAgree) : (labelRetry lane s).1.OutputsAgree := by
  unfold labelRetry
  split
  · exact h
  · split
    · exact h
    · split
      · exact composerTest_agrees h.still
      · exact h

theorem labelDiscard_agrees {lane : Byte} (h : s.OutputsAgree) : (labelDiscard lane s).1.OutputsAgree := by
  unfold labelDiscard
  split
  · exact h
  · split
    · exact h
    · split
      · exact h
      · exact handLabelDone_agrees h.still

theorem returnPrinting_agrees (h : s.OutputsAgree) : (returnPrinting s).OutputsAgree := by
  unfold returnPrinting
  split <;> exact h.still

theorem portMode_agrees {mode : Byte} (h : s.OutputsAgree) : (portMode mode s).1.OutputsAgree := by
  unfold portMode
  split
  · unfold changeMode
    split
    · exact h.still
    · exact h.still
    · split
      · exact composerTest_agrees h.still
      · exact h
    · exact h
    · exact (returnPrinting_agrees h).still
    · exact (returnPrinting_agrees h).still
    · exact h
    · exact h
    · exact h
  · exact h

theorem portWrite_agrees {bytes : List Byte} (h : s.OutputsAgree) : (portWrite bytes s).1.OutputsAgree := by
  unfold portWrite
  split
  · exact h
  · split
    · exact h
    · exact startHandshake_agrees h.still

/-! ### The Station Link -/

theorem beginPoll_agrees (h : s.OutputsAgree) : (beginPoll s).OutputsAgree := by
  unfold beginPoll
  split <;> exact h.still

theorem pollSent_agrees (h : s.OutputsAgree) : (pollSent s).OutputsAgree := by
  unfold pollSent
  split
  · split
    · exact beginPoll_agrees h.still
    · exact h.still
  · exact h

theorem missPoll_agrees (h : s.OutputsAgree) : (missPoll s).OutputsAgree := by
  unfold missPoll
  split
  · dsimp only
    refine beginPoll_agrees ?_
    split
    · exact raise_agrees h.still
    · exact h.still
  · exact h

theorem handleRequest_agrees {execute : Fin 4 → State → Executed}
    (hexecute : ∀ {a s}, s.OutputsAgree → (execute a s).1.OutputsAgree) {kind reqId : Byte}
    {permitted : List Role} {a : Fin 4} (h : s.OutputsAgree) :
        (handleRequest kind reqId permitted execute a s).OutputsAgree := by
  unfold handleRequest
  split
  · exact h.still
  · split
    · exact h.still
    · exact (hexecute h).still

theorem scanReport_agrees {args : List Byte} {a : Fin 4} (h : s.OutputsAgree) :
    (scanReport args a s).1.OutputsAgree := by
  have hread : State.OutputsAgree (if args.length < 2 then { s with freeIndex := s.freeIndex + 1 } else s) := by
    split <;> exact h.still
  unfold scanReport
  dsimp only
  split
  · exact takeReport_agrees hread
  · exact hread

theorem gradeOverride_agrees {ticket : Nat} {value : Byte} (h : s.OutputsAgree) :
    (gradeOverride ticket value s).1.OutputsAgree := by
  unfold gradeOverride
  split
  · exact h
  · split <;> exact h.still

theorem dropSeen_agrees {lane : Byte} (h : s.OutputsAgree) : (dropSeen lane s).1.OutputsAgree := by
  unfold dropSeen
  split
  · exact h
  · split
    · exact h.still
    · exact raise_agrees h

theorem bundleCleared_agrees {lane : Byte} (h : s.OutputsAgree) : (bundleCleared lane s).1.OutputsAgree := by
  unfold bundleCleared
  split
  · exact h
  · split
    · exact setCleared_agrees h
    · exact h

theorem serveRequest_agrees {reqId : Byte} {request : Request} {a : Fin 4} (h : s.OutputsAgree) :
    (serveRequest reqId request a s).OutputsAgree := by
  have hquery {ticket : Nat} {s : State} (h : s.OutputsAgree) : (queryTicket ticket s).1.OutputsAgree := by
    unfold queryTicket
    split <;> exact h
  have hlookup {a : Fin 4} {s : State} (h : s.OutputsAgree) : (queryAt a s).1.OutputsAgree := by
    unfold queryAt
    split <;> exact h
  cases request with
  | queryAt => exact handleRequest_agrees hlookup h
  | queryTicket ticket => exact handleRequest_agrees (execute := fun _ => queryTicket ticket.toNat) hquery h
  | scanReport args => exact handleRequest_agrees scanReport_agrees h
  | gradeOverride ticket value =>
    exact handleRequest_agrees (execute := fun _ => gradeOverride ticket.toNat value) gradeOverride_agrees h
  | dropSeen lane => exact handleRequest_agrees (execute := fun _ => dropSeen lane) dropSeen_agrees h
  | bundleCleared lane => exact handleRequest_agrees (execute := fun _ => bundleCleared lane) bundleCleared_agrees h
  | unknown kind args =>
    simp only [serveRequest, handleUnknown]
    split <;> exact h.still

theorem receive_agrees {cs : List Character} (h : s.OutputsAgree) : (receive cs s).OutputsAgree := by
  have hserved {body : ReplyBody} {a : Fin 4} {s : State} (h : s.OutputsAgree) :
      (serveReply body a s).OutputsAgree := by
    cases body with
    | idle => exact h
    | request reqId request => exact serveRequest_agrees h
  unfold receive
  split
  · split
    · split
      · exact beginPoll_agrees (hserved h.still)
      · exact h.still
    · exact h
  · exact h

theorem setStation_agrees {address role : Byte} {stationPos : BitVec 16} (h : s.OutputsAgree) :
    (setStation address role stationPos s).1.OutputsAgree := by
  unfold setStation
  split
  · split <;> exact h.still
  · exact h

theorem abandonPoll_agrees {a : Fin 4} (h : s.OutputsAgree) : (abandonPoll a s).OutputsAgree := by
  unfold abandonPoll
  split
  · split <;> exact h.still
  · split
    · exact beginPoll_agrees h.still
    · exact h
  · exact h

theorem stationEnable_agrees {address value : Byte} (h : s.OutputsAgree) :
    (stationEnable address value s).1.OutputsAgree := by
  unfold stationEnable
  split
  · simp only [okay, stationOn]
    split
    · exact beginPoll_agrees h.still
    · exact h
  · simp only [okay, stationOff]
    split
    · exact h
    · exact withdrawReports_agrees (abandonPoll_agrees h.still)
  · exact h

/-! ### Resets and the part's own time -/

theorem resetBlocks_agrees (cmd : CommandPort) (s : State) : (resetBlocks cmd s).OutputsAgree := by
  rw [resetBlocks_eq]
  exact reset_outputsAgree.still

theorem msTick_agrees (h : s.OutputsAgree) : (msTick s).OutputsAgree := by
  unfold msTick
  dsimp only
  split
  · exact (countPulse_agrees h).still
  · exact h.still

theorem tick_agrees (h : s.OutputsAgree) : (tick s).OutputsAgree := by
  have hticked : (usTick s).OutputsAgree := by
    by_cases hphase : 999 ≤ s.usPhase
    · rw [usTick_moves hphase]
      exact msTick_agrees h.still
    · rw [usTick_between hphase]
      exact h.still
  unfold tick
  split
  · exact h
  · exact hticked.still

/-! ### Every command -/

/-- In whatever next state an outcome gives, the outputs agree with the line. -/
structure NextAgrees (o : Host.Outcome State Fault Refusal) : Prop where
  agrees : ∀ t, o = .next t → t.OutputsAgree

theorem NextAgrees.next (h : t.OutputsAgree) : NextAgrees (.next t) := by
  refine ⟨?_⟩
  rintro _ ⟨⟩
  exact h

/-- A command that acts while RESET is released, or on a condition (logs 2, 12). -/
theorem NextAgrees.ite {c : Prop} [Decidable c] (h : t.OutputsAgree) (g : u.OutputsAgree) :
    NextAgrees (.next (if c then t else u)) := by
  split
  · exact .next h
  · exact .next g

/-- A transaction does to the outputs what its frame sets off (R201, R202). -/
theorem hostFrame_agrees {body : State → State} {x : Xfer} {code : Byte} {args : List Byte} (h : s.OutputsAgree)
    (hbody : ∀ {s : State}, s.OutputsAgree → (body s).OutputsAgree) : NextAgrees (hostFrame x code args body s) := by
  have hended : (afterTransfer x code args s).OutputsAgree := h.still
  refine .ite h.still ?_
  dsimp only
  split
  · exact hended.still
  · split
    · exact hended.still
    · exact hbody hended

theorem hostCommand_agrees {run : State → Answered} {x : Xfer} {code : Byte} {args : List Byte} (h : s.OutputsAgree)
    (hrun : ∀ {s : State}, s.OutputsAgree → (run s).1.OutputsAgree) : NextAgrees (hostCommand x code args run s) :=
  hostFrame_agrees h fun ht => (hrun ht).still

/-- A read changes nothing. -/
theorem hostRead_agrees {run : State → Answered} {x : Xfer} {code : Byte} {args : List Byte} (h : s.OutputsAgree)
    (hrun : ∀ s, (run s).1 = s) : NextAgrees (hostCommand x code args run s) :=
  hostCommand_agrees h fun {t} ht => by rwa [hrun t]

theorem linkCommand_agrees {act : State → State} (h : s.OutputsAgree)
    (hact : ∀ {s : State}, s.OutputsAgree → (act s).OutputsAgree) : NextAgrees (linkCommand act s) := .ite h (hact h)

theorem execRequest_agrees {reply : Reply} {request : Request} (h : s.OutputsAgree) :
    NextAgrees (execRequest reply request s) := linkCommand_agrees h receive_agrees

theorem execPbusyChange_agrees {high : Bool} (h : s.OutputsAgree) : NextAgrees (execPbusyChange high s) := by
  have hpin : (setPbusy high s).OutputsAgree := h.still
  refine .ite hpin ?_
  split
  · exact h
  · exact busyEdge_agrees hpin

theorem execPfaultChange_agrees {asserted : Bool} (h : s.OutputsAgree) : NextAgrees (execPfaultChange asserted s) := by
  have hpin (v : Bool) : (setPfault v s).OutputsAgree := h.still
  refine .ite (hpin _) ?_
  split
  · exact h
  · split
    · exact faultAsserted_agrees (hpin _)
    · exact faultCleared_agrees (hpin _)

theorem execReplyTimerExpiry_agrees (h : s.OutputsAgree) : NextAgrees (execReplyTimerExpiry s) := by
  refine linkCommand_agrees h fun ht => ?_
  split
  · exact missPoll_agrees ht
  · exact ht

theorem execTransactionBegin_agrees (h : s.OutputsAgree) : NextAgrees (execTransactionBegin s) := by
  refine .ite h ?_
  split <;> exact h.still

theorem execBadFrame_agrees {mosi : List Byte} (h : s.OutputsAgree) : NextAgrees (execBadFrame mosi s) := by
  unfold execBadFrame
  split
  · exact .next h.still
  · split
    · exact .next h.still
    · dsimp only
      split
      · exact .next h.still
      · exact ⟨fun _ hrefused => by cases hrefused⟩

theorem exec_agrees (c : Instr) (h : s.OutputsAgree) : NextAgrees (exec c s) := by
  cases c with
  | sampleTick raw order => exact NextAgrees.ite h (h.foldl sampleChannel_agrees _)
  | jamTimerExpiry i => exact NextAgrees.ite (jamExpiry_agrees h) h
  | encoderCount unit a b order => exact NextAgrees.ite (setPair_agrees h) (encoderCount_agrees h)
  | speedStallTimeout => exact NextAgrees.ite h.still h
  | timePulseExpiry p => exact NextAgrees.ite (endPulse_agrees h) h
  | gapTimerExpiry => exact NextAgrees.ite (releaseTest_agrees h.still) h
  | moulderTransitExpiry => exact NextAgrees.ite h (transitTest_agrees h)
  | evaluationStart => exact NextAgrees.ite h (startEvaluation_agrees h)
  | evaluationCompletion => exact NextAgrees.ite (releaseTest_agrees (finishEvaluation_agrees h)) h
  | dropWatchExpiry l => exact NextAgrees.ite (expireWatch_agrees h) h
  | strobeEnd => exact NextAgrees.ite (endStrobe_agrees h) h
  | pbusyChange high => exact execPbusyChange_agrees h
  | pfaultChange asserted => exact execPfaultChange_agrees h
  | handshakeTimeout => exact NextAgrees.ite (portTimeout_agrees h) h
  | pollSent => exact linkCommand_agrees h pollSent_agrees
  | idleReply arrival => exact linkCommand_agrees h receive_agrees
  | replyTimerExpiry => exact execReplyTimerExpiry_agrees h
  | queryAt reply => exact execRequest_agrees h
  | queryTicket reply ticket => exact execRequest_agrees h
  | scanReport reply args => exact execRequest_agrees h
  | gradeOverride reply ticket value => exact execRequest_agrees h
  | dropSeen reply lane => exact execRequest_agrees h
  | bundleCleared reply lane => exact execRequest_agrees h
  | unknownRequest reply kind args => exact execRequest_agrees h
  | transactionBegin => exact execTransactionBegin_agrees h
  | emptyTransaction clocks => exact NextAgrees.ite h.still h.still
  | badFrame mosi => exact execBadFrame_agrees h
  | resetAssert => exact .next h.still
  | powerOnReset => exact .next (resetBlocks_agrees _ s)
  | nop x => exact hostFrame_agrees h id
  | lineStart x => exact hostCommand_agrees h lineStart_agrees
  | lineHold x => exact hostCommand_agrees h lineHold_agrees
  | lineStop x => exact hostCommand_agrees h lineStop_agrees
  | faultAck x => exact hostCommand_agrees h faultAck_agrees
  | softReset x => exact hostFrame_agrees h fun _ => resetBlocks_agrees _ _
  | trackClear x => exact hostCommand_agrees h trackClear_agrees
  | setParam => exact hostCommand_agrees h setParam_agrees
  | getParam x code => exact hostRead_agrees h (getParam_same code)
  | setGrade => exact hostCommand_agrees h setGrade_agrees
  | getGrade x row => exact hostRead_agrees h (getGrade_same row)
  | setWeights => exact hostCommand_agrees h .still
  | setSawMap => exact hostCommand_agrees h setSawMap_agrees
  | setLane => exact hostCommand_agrees h setLane_agrees
  | getLane x lane => exact hostRead_agrees h (getLane_same lane)
  | setFilter => exact hostCommand_agrees h setFilter_agrees
  | setLot => exact hostCommand_agrees h .still
  | setStation => exact hostCommand_agrees h setStation_agrees
  | clearGlitch => exact hostCommand_agrees h clearGlitch_agrees
  | readStrip x ticket => exact hostRead_agrees h (readStrip_same _)
  | listQueue x place => exact hostRead_agrees h (listQueue_same place)
  | readLug x lug => exact hostRead_agrees h (readLug_same lug)
  | regrade => exact hostCommand_agrees h regrade_agrees
  | purge => exact hostCommand_agrees h purge_agrees
  | ejectHead x => exact hostCommand_agrees h ejectHead_agrees
  | setTool => exact hostCommand_agrees h setTool_agrees
  | readTool x set => exact hostRead_agrees h (readTool_same set)
  | changeTools => exact hostCommand_agrees h changeTools_agrees
  | cancelChange x => exact hostCommand_agrees h cancelChange_agrees
  | resetWear => exact hostCommand_agrees h resetWear_agrees
  | readBundle x lane => exact hostRead_agrees h (readBundle_same lane)
  | forceClose => exact hostCommand_agrees h forceClose_agrees
  | laneEnable => exact hostCommand_agrees h laneEnable_agrees
  | confirmClear => exact hostCommand_agrees h confirmClear_agrees
  | readLabel x lane => exact hostRead_agrees h (readLabel_same lane)
  | labelRetry => exact hostCommand_agrees h labelRetry_agrees
  | labelDiscard => exact hostCommand_agrees h labelDiscard_agrees
  | portMode => exact hostCommand_agrees h portMode_agrees
  | portWrite => exact hostCommand_agrees h portWrite_agrees
  | portStatus x => exact hostRead_agrees h (fun _ => rfl)
  | readEvents x => exact hostRead_agrees h (fun _ => rfl)
  | clearEvents => exact hostCommand_agrees h clearEvents_agrees
  | setEventRoute => exact hostCommand_agrees h setEventRoute_agrees
  | setEscalation => exact hostCommand_agrees h setEscalation_agrees
  | setOutputs => exact hostCommand_agrees h setOutputs_agrees
  | readIo x => exact hostRead_agrees h (fun _ => rfl)
  | stationEnable => exact hostCommand_agrees h stationEnable_agrees
  | readStation x address => exact hostRead_agrees h (readStation_same address)

theorem step_agrees (h : s.OutputsAgree) : NextAgrees (step s) := by
  unfold step
  split
  · exact exec_agrees _ h.still
  · exact .next (tick_agrees h)

/-! ### The driven levels (R106, R192) -/

/-- With RESET released the line state says what drives each output. -/
theorem drivenLevels : Claims.DrivenLevels := by
  intro s hreset
  refine ⟨?moving, ?stopped, ?faultStop, ?lineOk⟩
  case moving =>
    rintro (hline | hline)
    · exact ⟨fun o => by simp [outLevel, hreset, hline], fun p => by simp [pulseLevel, hreset, hline]⟩
    · exact ⟨fun o => by simp [outLevel, hreset, hline], fun p => by simp [pulseLevel, hreset, hline]⟩
  case stopped =>
    intro hline
    exact ⟨fun o => by simp [outLevel, hreset, hline], fun p => by simp [pulseLevel, hreset, hline]⟩
  case faultStop =>
    intro hline
    exact ⟨fun o => by simp [outLevel, hreset, hline], fun p => by simp [pulseLevel, hreset, hline]⟩
  case lineOk => simp [lineOk, hreset]

end Sys2Proof.Machine

section

open Sys2Proof Sys2Proof.Machine

/-- Settles O57: every operation keeps the agreement of outputs and line; the levels by the cases of the line. -/
theorem everyStepKeepsOutputsWithTheLine : Obligations.EveryStepKeepsOutputsWithTheLine :=
  ⟨fun _ t h hstep => (step_agrees h).agrees t hstep, drivenLevels⟩

end

/-! PROOFS. RESET held (R204, R192): every command but the release of the RESET line comes down to a pin that is followed,
or to nothing (log 12). -/

namespace Sys2Proof.Machine

open Sys2Proof

set_option Elab.async false

variable {s t u : State}

/-- `t` is `s` but for the levels of input pins, with ACTIVE cleared or not: what may differ while RESET is held. -/
def PinsFollowed (s t : State) : Prop :=
  t = { s with inf := { s.inf with pairA := t.inf.pairA, pairB := t.inf.pairB },
               ch := { s.ch with pairA := t.ch.pairA, pairB := t.ch.pairB },
               port := { s.port with pbusy := t.port.pbusy, pfault := t.port.pfault },
               cmd := { s.cmd with ssLow := t.cmd.ssLow, active := t.cmd.active } }

/-- The outcome is a next state that has only followed the pins. -/
def OnlyFollowsPins (s : State) (o : Host.Outcome State Fault Refusal) : Prop := ∃ t, o = .next t ∧ PinsFollowed s t

theorem PinsFollowed.refl (s : State) : PinsFollowed s s := rfl

theorem setPair_followed (unit : EncUnit) (a b : Bool) (s : State) : PinsFollowed s (setPair unit a b s) := by
  cases unit <;> rfl

theorem raiseSs_followed (s : State) : PinsFollowed s (raiseSs s) := rfl

theorem PinsFollowed.only (h : PinsFollowed s t) : OnlyFollowsPins s (.next t) := ⟨t, rfl, h⟩

/-- A command whose test of RESET comes first takes nothing but its pin. -/
theorem OnlyFollowsPins.ofHeld {c : Prop} [Decidable c] (hc : c) (h : PinsFollowed s t) :
    OnlyFollowsPins s (.next (if c then t else u)) := by
  rw [if_pos hc]
  exact h.only

/-- An expiry finds RESET held. -/
theorem OnlyFollowsPins.ofExpiry {due : Bool} (hs : s.resetHeld = true) :
    OnlyFollowsPins s (.next (if !s.resetHeld && due then u else s)) := by
  rw [hs]
  exact (PinsFollowed.refl s).only

theorem takesFrame_held (hs : s.resetHeld = true) : takesFrame s = false := by
  simp [takesFrame, hs]

/-- No frame is dealt with: SS rises (R204). -/
theorem hostFrame_held (hs : s.resetHeld = true) (x : Xfer) (code : Byte) (args : List Byte) (body : State → State) :
    OnlyFollowsPins s (hostFrame x code args body s) :=
  .ofHeld (by rw [takesFrame_held hs]; rfl) (raiseSs_followed s)

theorem execBadFrame_held (hs : s.resetHeld = true) (mosi : List Byte) : OnlyFollowsPins s (execBadFrame mosi s) := by
  have hnone : (!takesFrame s) = true := by rw [takesFrame_held hs]; rfl
  rw [execBadFrame, if_pos hnone]
  exact (raiseSs_followed s).only

theorem execEmptyTransaction_held (hs : s.resetHeld = true) (clocks : Fin 8) :
    OnlyFollowsPins s (execEmptyTransaction clocks s) := by
  rw [execEmptyTransaction, takesFrame_held hs]
  exact (raiseSs_followed s).only

/-- SS falls, and no transaction begins. -/
theorem execTransactionBegin_held (hs : s.resetHeld = true) : OnlyFollowsPins s (execTransactionBegin s) := by
  unfold execTransactionBegin
  split
  · exact (PinsFollowed.refl s).only
  · exact PinsFollowed.only rfl

theorem linkCommand_held (hs : s.resetHeld = true) (act : State → State) : OnlyFollowsPins s (linkCommand act s) :=
  .ofHeld hs (.refl s)

theorem exec_held (hs : s.resetHeld = true) {c : Instr} (hc : c ≠ .powerOnReset) : OnlyFollowsPins s (exec c s) := by
  cases c with
  | powerOnReset => exact absurd rfl hc
  | resetAssert =>
    refine PinsFollowed.only ?_
    rw [PinsFollowed, hs]
  | sampleTick => exact .ofHeld hs (.refl s)
  | moulderTransitExpiry => exact .ofHeld hs (.refl s)
  | evaluationStart => exact .ofHeld hs (.refl s)
  | encoderCount unit a b => exact .ofHeld hs (setPair_followed unit a b s)
  | pbusyChange => exact .ofHeld hs rfl
  | pfaultChange => exact .ofHeld hs rfl
  | jamTimerExpiry => exact .ofExpiry hs
  | speedStallTimeout => exact .ofExpiry hs
  | timePulseExpiry => exact .ofExpiry hs
  | gapTimerExpiry => exact .ofExpiry hs
  | evaluationCompletion => exact .ofExpiry hs
  | dropWatchExpiry => exact .ofExpiry hs
  | strobeEnd => exact .ofExpiry hs
  | handshakeTimeout => exact .ofExpiry hs
  | pollSent => exact linkCommand_held hs _
  | idleReply => exact linkCommand_held hs _
  | replyTimerExpiry => exact linkCommand_held hs _
  | queryAt => exact linkCommand_held hs _
  | queryTicket => exact linkCommand_held hs _
  | scanReport => exact linkCommand_held hs _
  | gradeOverride => exact linkCommand_held hs _
  | dropSeen => exact linkCommand_held hs _
  | bundleCleared => exact linkCommand_held hs _
  | unknownRequest => exact linkCommand_held hs _
  | transactionBegin => exact execTransactionBegin_held hs
  | emptyTransaction clocks => exact execEmptyTransaction_held hs clocks
  | badFrame mosi => exact execBadFrame_held hs mosi
  | nop x => exact hostFrame_held hs x 0x00 [] id
  | _ => exact hostFrame_held hs ..

/-- Every output of the signal list is deasserted, low, idle or not driven (R192, R204, R173). -/
theorem outputs_silent (hs : s.resetHeld = true) :
    (∀ o, outLevel s o = false) ∧ (∀ p, pulseLevel s p = false) ∧ infeedPermit s = false ∧ lineOk s = false ∧
      (∀ r, attention s r = false) ∧ ldir s = false ∧ ltx s = .idle ∧ pstb s = false ∧ pd s = 0 ∧ ptag s = false ∧
      ∀ n, misoBytes n s = none :=
  ⟨fun _ => by simp [outLevel, hs], fun _ => by simp [pulseLevel, hs], by simp [infeedPermit, hs], by simp [lineOk, hs],
    fun _ => by simp [attention, hs], by simp [ldir, hs], ltx_held hs, pstb_held hs, pd_held hs, ptag_held hs,
    misoBytes_held hs⟩

end Sys2Proof.Machine

section

open Sys2Proof Sys2Proof.Machine

/-- Settles O4: each output by its test of RESET, each command by what it does before it acts. -/
theorem heldResetSilencesThePart : Obligations.HeldResetSilencesThePart :=
  ⟨fun _ => rfl, fun _ hs => ⟨outputs_silent hs, fun _ hc => exec_held hs hc⟩⟩

end

/-! PROOFS. A raising (R193, R194): the flag it sets, the line it leads to, and that the stop of the outputs it may bring
about touches no event but MISSED_ACTUATION (R117, R116). -/

namespace Sys2Proof.Machine

open Sys2Proof

set_option Elab.async false

variable {s t : State} {k : EventKind} {after : LineState}

/-! ### Missed pulses in FAULT_STOP (R116) -/

/-- From `s` to `t` the line and LAST_ESCALATION stand, and the flag of MISSED_ACTUATION alone may have been set. -/
structure OnlyMissed (s t : State) : Prop where
  line           : t.line = s.line
  lastEscalation : t.lastEscalation = s.lastEscalation
  others         : ∀ j, j ≠ .missedActuation → t.events[eventIdx j] = s.events[eventIdx j]
  missed         : t.events[eventIdx .missedActuation] = s.events[eventIdx .missedActuation] ∨
    t.events[eventIdx .missedActuation] = { s.events[eventIdx .missedActuation] with flag := true }

theorem OnlyMissed.refl (s : State) : OnlyMissed s s := ⟨rfl, rfl, fun _ _ => rfl, .inl rfl⟩

/-- An update that leaves the line and the events as they are. -/
theorem OnlyMissed.still {u : State} (h : OnlyMissed s t) (hline : u.line = t.line := by rfl)
    (hlast : u.lastEscalation = t.lastEscalation := by rfl) (hevents : u.events = t.events := by rfl) :
    OnlyMissed s u where
  line := hline.trans h.line
  lastEscalation := hlast.trans h.lastEscalation
  others := by rw [hevents]; exact h.others
  missed := by rw [hevents]; exact h.missed

/-- MISSED_ACTUATION may be flagged any number of times. -/
theorem OnlyMissed.setFlag (h : OnlyMissed s t) : OnlyMissed s (setFlag .missedActuation t) where
  line := h.line
  lastEscalation := h.lastEscalation
  others j hj := by rw [setFlag_events, if_neg hj, h.others j hj]
  missed := by
    rw [setFlag_events, if_pos rfl]
    obtain hsame | hset := h.missed
    · exact .inr (by rw [hsame])
    · exact .inr (by rw [hset])

theorem OnlyMissed.missed_flag {e : EventItem} (h : OnlyMissed s t)
    (hs : s.events[eventIdx .missedActuation] = { e with flag := s.events[eventIdx .missedActuation].flag }) :
    t.events[eventIdx .missedActuation] = { e with flag := t.events[eventIdx .missedActuation].flag } := by
  obtain hsame | hset := h.missed
  · rw [hsame]
    exact hs
  · rw [hset]
    exact congrArg (fun e : EventItem => { e with flag := true }) hs

/-- Setting a flag changes no other item of any kind (R193). -/
theorem setFlag_flag (k j : EventKind) (s : State) :
    (setFlag k s).events[eventIdx j] = { s.events[eventIdx j] with flag := (setFlag k s).events[eventIdx j].flag } := by
  rw [setFlag_events]
  split <;> rfl

/-- FAULT_STOP escalates no further (R194). -/
theorem escalated_faultStop (v : Severity) : escalated v .faultStop = none := by
  cases v <;> rfl

theorem raiseQuiet_faultStop (h : s.line = .faultStop) : raiseQuiet k s = setFlag k s := by
  have hline : (setFlag k s).line = .faultStop := h
  have hstays : escalationOf k (setFlag k s) = none := by
    rw [escalationOf, hline, escalated_faultStop, ite_self]
  unfold raiseQuiet
  dsimp only
  rw [hstays]

theorem OnlyMissed.missQuiet {o : Fin 24} {p : Pulse} (h : OnlyMissed s t) (hline : s.line = .faultStop) :
    OnlyMissed s (missQuiet o p t) := by
  have hfault (v : State) (hv : OnlyMissed s v) : OnlyMissed s (raiseQuiet .missedActuation v) := by
    rw [raiseQuiet_faultStop (hv.line.trans hline)]
    exact hv.setFlag
  unfold Machine.missQuiet missPulse
  split
  · exact hfault _ h.still
  · exact hfault _ h

theorem stopOuts_onlyMissed (hline : s.line = .faultStop) (os : List (Fin 24)) : OnlyMissed s (os.foldl stopOut s) :=
  stopOuts_preserve (P := OnlyMissed s) (fun h => h.still) (fun h => h.still) (fun h => h.missQuiet hline) (.refl s) os

theorem stopPulses_onlyMissed (h : OnlyMissed s t) : OnlyMissed s (stopPulses t) := h.still

theorem releaseForced_onlyMissed (h : OnlyMissed s t) : OnlyMissed s (releaseForced t) := h.still

/-! ### The line a raising leads to (R194) -/

/-- An escalation leads to HOLD or to FAULT_STOP. -/
theorem escalationOf_after (h : escalationOf k s = some after) : after = .hold ∨ after = .faultStop := by
  unfold escalationOf escalated at h
  split at h
  · split at h
    · exact .inl (Option.some.inj h).symm
    · exact .inr (Option.some.inj h).symm
    · exact .inr (Option.some.inj h).symm
    · exact .inr (Option.some.inj h).symm
    · cases h
  · cases h

/-- What an escalation's change of LINE_STATE does to the line and the events: the line it leads to, and
missed pulses. -/
theorem enterLine_onlyMissed (h : after = .hold ∨ after = .faultStop) :
    OnlyMissed { s with line := after } (enterLine after s) := by
  obtain ⟨-, hhalts, hstopped⟩ | ⟨-, -, hreleased⟩ | ⟨-, -, hsame⟩ := enterLine_cases after s
  · obtain rfl : after = .faultStop := by
      obtain rfl | rfl := h
      · obtain hhold | hhold := hhalts <;> cases hhold
      · rfl
    rw [hstopped]
    exact stopPulses_onlyMissed (stopOuts_onlyMissed rfl (indices 24))
  · rw [hreleased]
    exact releaseForced_onlyMissed (.refl _)
  · rw [hsame]
    exact .refl _

/-- A flag that is set changes no severity. -/
theorem escalationOf_setFlag (k : EventKind) (s : State) : escalationOf k (setFlag k s) = escalationOf k s := by
  have hseverity : (setFlag k s).events[eventIdx k].severity = s.events[eventIdx k].severity := by
    rw [setFlag_events, if_pos rfl]
  rw [escalationOf, hseverity]
  rfl

/-- A raising that does not move the line sets its flag and does nothing else (R193). -/
theorem raise_unmoved (h : escalationOf k s = none) : raise k s = setFlag k s := by
  rw [← escalationOf_setFlag] at h
  unfold raise
  dsimp only
  rw [h]

/-- A raising that moves the line: the flag, LAST_ESCALATION, the line, and missed pulses (R193, R194, R117). -/
theorem raise_moved (h : escalationOf k s = some after) :
    OnlyMissed { noteEscalation k after (setFlag k s) with line := after } (raise k s) := by
  have hafter := escalationOf_after h
  rw [← escalationOf_setFlag] at h
  unfold raise
  dsimp only
  rw [h]
  exact enterLine_onlyMissed hafter

theorem escalationOf_eq (k : EventKind) (s : State) :
    escalationOf k s = if s.escalation = false then none else escalated s.events[eventIdx k].severity s.line := by
  unfold escalationOf
  cases s.escalation <;> rfl

end Sys2Proof.Machine

section

open Sys2Proof Sys2Proof.Machine

/-- Settles O38: the flag first, and then the line the severity leads to, if any. -/
theorem raisingAnEvent : Obligations.RaisingAnEvent := by
  intro k s u item after
  have hafter : escalationOf k s = after := escalationOf_eq k s
  have hflag : (setFlag k s).events[eventIdx k] = { item with flag := true } := by rw [setFlag_events, if_pos rfl]
  have hother (j : EventKind) (hj : j ≠ k) : (setFlag k s).events[eventIdx j] = s.events[eventIdx j] := by
    rw [setFlag_events, if_neg hj]
  refine ⟨raise_frame k s, ?_⟩
  rw [← hafter]
  cases hmoves : escalationOf k s with
  | none =>
    have hu : u = setFlag k s := raise_unmoved hmoves
    rw [hu]
    exact ⟨hflag, fun j hj _ => hother j hj, rfl⟩
  | some line =>
    have hraised : OnlyMissed _ u := raise_moved hmoves
    refine ⟨?_, fun j hj hmissed => (hraised.others j hmissed).trans (hother j hj), hraised.line,
      hraised.lastEscalation, ?_⟩
    · by_cases hk : k = .missedActuation
      · subst hk
        obtain hsame | hset := hraised.missed
        · exact hsame.trans hflag
        · rw [hset]
          exact congrArg (fun e : EventItem => { e with flag := true }) hflag
      · exact (hraised.others k hk).trans hflag
    · exact hraised.missed_flag (setFlag_flag k .missedActuation s)

end

/-! PROOFS. The line commands (R188 to R190) and the maintenance override (R121, R210). -/

namespace Sys2Proof.Machine

open Sys2Proof

set_option Elab.async false

variable {s t : State} {x : Xfer}

/-! ### A change of LINE_STATE by command (R188 to R191) -/

theorem enterLine_fromStopped {after : LineState} (h : s.line = .stopped) (hafter : after ≠ .stopped) :
    enterLine after s = releaseForced { s with line := after } := by
  obtain ⟨hmoving, -, -⟩ | ⟨-, -, hreleased⟩ | ⟨-, hstays, -⟩ := enterLine_cases after s
  · obtain hline | hline := hmoving <;> cases hline.symm.trans h
  · exact hreleased
  · exact absurd (hstays h) hafter

/-- Between RUNNING and HOLD, and from FAULT_STOP, the outputs are left alone (R117, R122). -/
theorem enterLine_quiet {after : LineState} (hline : s.line ≠ .stopped)
    (hgoes : s.line = .faultStop ∨ after = .running ∨ after = .hold) :
    enterLine after s = { s with line := after } := by
  obtain ⟨hmoving, hhalts, -⟩ | ⟨hstopped, -, -⟩ | ⟨-, -, hsame⟩ := enterLine_cases after s
  · obtain hfault | rfl | rfl := hgoes
    · rw [hfault] at hmoving
      obtain hrunning | hhold := hmoving
      · cases hrunning
      · cases hhold
    · obtain hhalt | hhalt := hhalts <;> cases hhalt
    · obtain hhalt | hhalt := hhalts <;> cases hhalt
  · exact absurd hstopped hline
  · exact hsame

/-- Out of RUNNING the release test finds the line (R72). -/
theorem releaseTest_resting (h : s.line ≠ .running) : releaseTest s = s :=
  releaseTest_held (why := .line) (if_pos h) (by decide)

/-! ### LINE_START, LINE_HOLD and LINE_STOP (R188, R189) -/

theorem lineStart_stopped (h : s.line = .stopped) :
    lineStart s = okay (releaseTest (releaseForced { s with line := .running })) := by
  rw [lineStart, h]
  dsimp only
  rw [changeLine, enterLine_fromStopped h (by decide)]

theorem lineStart_hold (h : s.line = .hold) : lineStart s = okay (releaseTest { s with line := .running }) := by
  rw [lineStart, h]
  dsimp only
  rw [changeLine, enterLine_quiet (by rw [h]; decide) (.inr (.inl rfl))]

theorem lineStart_running (h : s.line = .running) : lineStart s = okay s := by rw [lineStart, h]

theorem lineStart_faultStop (h : s.line = .faultStop) : lineStart s = refuse .wrongState s := by rw [lineStart, h]

theorem lineHold_running (h : s.line = .running) : lineHold s = okay { s with line := .hold } := by
  rw [lineHold, h]
  dsimp only
  rw [changeLine, enterLine_quiet (by rw [h]; decide) (.inr (.inr rfl)), releaseTest_resting (by simp)]

theorem lineHold_hold (h : s.line = .hold) : lineHold s = okay s := by rw [lineHold, h]

theorem lineHold_halted (h : s.Halted) : lineHold s = refuse .wrongState s := by
  obtain h | h := h
  · rw [lineHold, h]
  · rw [lineHold, h]

theorem lineStop_stopped (h : s.line = .stopped) : lineStop s = okay s := by rw [lineStop, h]

theorem lineStop_faultStop (h : s.line = .faultStop) : lineStop s = refuse .wrongState s := by rw [lineStop, h]

/-! ### FAULT_ACK (R190) -/

theorem exists_eventIdx (i : Fin 32) : ∃ k, eventIdx k = i := by
  have hall : ∀ i : Fin 32, eventIdx (eventKinds[i.val]'i.isLt) = i := by decide
  exact ⟨_, hall i⟩

theorem stopFlagSet_iff :
    stopFlagSet s = true ↔ ∃ k, s.events[eventIdx k].flag = true ∧ s.events[eventIdx k].severity = .stop := by
  simp only [stopFlagSet, List.any_eq_true, Vector.mem_toList_iff, Bool.and_eq_true, beq_iff_eq]
  constructor
  · rintro ⟨e, he, hstop⟩
    obtain ⟨i, hi, rfl⟩ := Vector.mem_iff_getElem.1 he
    obtain ⟨k, hk⟩ := exists_eventIdx ⟨i, hi⟩
    exact ⟨k, by simp only [hk]; exact hstop⟩
  · rintro ⟨k, hstop⟩
    exact ⟨_, Vector.getElem_mem _, hstop⟩

theorem faultAck_clear (h : s.line = .faultStop)
    (hclear : ∀ k, ¬ (s.events[eventIdx k].flag = true ∧ s.events[eventIdx k].severity = .stop)) :
    faultAck s = okay { s with line := .stopped } := by
  have hflag : ¬ stopFlagSet s = true := fun hset => (stopFlagSet_iff.1 hset).elim hclear
  rw [faultAck, h]
  dsimp only
  rw [if_neg hflag, changeLine, enterLine_quiet (by rw [h]; decide) (.inl h), releaseTest_resting (by simp)]

theorem faultAck_busy {k : EventKind} (h : s.line = .faultStop) (hflag : s.events[eventIdx k].flag = true)
    (hstop : s.events[eventIdx k].severity = .stop) : faultAck s = refuse .busy s := by
  rw [faultAck, h]
  dsimp only
  rw [if_pos (stopFlagSet_iff.2 ⟨k, hflag, hstop⟩)]

theorem faultAck_elsewhere (h : s.line ≠ .faultStop) : faultAck s = refuse .wrongState s := by
  unfold faultAck
  split
  · next hline => exact absurd hline h
  · rfl
  · rfl
  · rfl

theorem lineCommands : Claims.LineCommands := by
  intro x s hs
  refine ⟨fun h => fixedCommand_responds hs rfl (lineStart_stopped h),
    fun h => fixedCommand_responds hs rfl (lineStart_hold h),
    fun h => fixedCommand_answers hs rfl (lineStart_running h),
    fun h => fixedCommand_answers hs rfl (lineStart_faultStop h),
    fun h => fixedCommand_answers hs rfl (lineHold_running h),
    fun h => fixedCommand_answers hs rfl (lineHold_hold h),
    fun h => fixedCommand_answers hs rfl (lineHold_halted h),
    fun h => fixedCommand_answers hs rfl (lineStop_stopped h),
    fun h => fixedCommand_answers hs rfl (lineStop_faultStop h),
    fun h => ⟨fun hclear => ?clear, fun k hflag hstop => ?busy⟩,
    fun h => fixedCommand_answers hs rfl (faultAck_elsewhere h)⟩
  case clear => exact fixedCommand_answers hs rfl (faultAck_clear h hclear)
  case busy => exact fixedCommand_answers hs rfl (faultAck_busy h hflag hstop)

/-! ### SET_OUTPUTS (R121, R210) -/

variable {sets clears : List Byte}

/-- The argument bytes that follow the set count: the set list, the clear count, the clear list (R210). -/
abbrev outputLists (sets clears : List Byte) : List Byte := sets ++ BitVec.ofNat 8 clears.length :: clears

theorem listCount_toNat {bytes : List Byte} (h : bytes.length ≤ 27) :
    (BitVec.ofNat 8 bytes.length).toNat = bytes.length := by
  rw [BitVec.toNat_ofNat]
  omega

theorem outputLists_agree (hsets : sets.length ≤ 27) (hclears : clears.length ≤ 27) :
    argsAgree 0x70 (BitVec.ofNat 8 sets.length :: outputLists sets clears) = true := by
  have hlists (args : List Byte) : argsAgree 0x70 args = outputListsAgree args := rfl
  rw [hlists]
  simp [outputListsAgree, countAgrees, listCount_toNat hsets, listCount_toNat hclears, hsets, hclears]

theorem outputLists_fit (h : sets.length + clears.length ≤ 31) (n : Byte) :
    (n :: outputLists sets clears).length ≤ Config.maxArgs := by
  have hmost : Config.maxArgs = 33 := rfl
  simp only [List.length_cons, List.length_append, hmost]
  omega

/-- SET_OUTPUTS reads the two lists back from its argument bytes. -/
theorem setOutputs_lists (hsets : sets.length ≤ 27) (s : State) :
    setOutputs (BitVec.ofNat 8 sets.length) (outputLists sets clears) s =
      if s.line ≠ .stopped then refuse .wrongState s
      else if (sets ++ clears).any (fun b => 27 ≤ b.toNat) then refuse .badArgument s
      else okay (forceOutputs sets clears s) := by
  have htake : (outputLists sets clears).take sets.length = sets := List.take_left' rfl
  have hdrop : (outputLists sets clears).drop (sets.length + 1) = clears := by
    rw [List.drop_append]
    simp
  rw [setOutputs, listCount_toNat hsets, htake, hdrop]

theorem anyBeyond_iff {bytes : List Byte} : bytes.any (fun b => 27 ≤ b.toNat) = true ↔ ∃ b ∈ bytes, 27 ≤ b.toNat := by
  simp

/-- The FORCED value after SET_OUTPUTS, in terms of the two lists (R121). -/
theorem forcedAfter_eq (n : Nat) (before : Bool) :
    forcedAfter sets clears n before =
      if BitVec.ofNat 8 n ∈ sets ∧ BitVec.ofNat 8 n ∉ clears then true
      else if BitVec.ofNat 8 n ∈ clears ∧ BitVec.ofNat 8 n ∉ sets then false else before := by
  simp [forcedAfter]

theorem maintenanceOverride : Claims.MaintenanceOverride := by
  intro x sets clears s hs hlength hsets hclears bytes n c
  have hanswers {t : State} {status : Status} (hrun : setOutputs n bytes (s.taken x 0x70 (n :: bytes)) =
      (t.taken x 0x70 (n :: bytes), status, [])) : exec c s = .next (t.answered x 0x70 (n :: bytes) status []) :=
    hostCommand_answers hs (outputLists_fit hlength n) (outputLists_agree hsets hclears) hrun
  have hlists := setOutputs_lists (clears := clears) hsets (s.taken x 0x70 (n :: bytes))
  refine ⟨fun hline => hanswers ?_, fun hline hbeyond => hanswers ?_, fun hline hwithin => ⟨forceOutputs sets clears s,
    hanswers ?_, rfl, fun o => ?_, fun p => ?_⟩⟩
  · exact hlists.trans (if_pos hline)
  · exact hlists.trans ((if_neg (not_not.2 hline)).trans (if_pos (anyBeyond_iff.2 hbeyond)))
  · have hnone : ¬ (sets ++ clears).any (fun b => 27 ≤ b.toNat) = true := fun hany => by
      obtain ⟨b, hb, hbeyond⟩ := anyBeyond_iff.1 hany
      exact absurd (hwithin b hb) (Nat.not_lt.2 hbeyond)
    exact hlists.trans ((if_neg (not_not.2 hline)).trans (if_neg hnone))
  · rw [forceOutputs, Fin.getElem_fin, Vector.getElem_ofFn, forcedAfter_eq]
  · rw [forceOutputs, Fin.getElem_fin, Vector.getElem_ofFn, forcedAfter_eq]

end Sys2Proof.Machine

section

open Sys2Proof Sys2Proof.Machine

/-- Settles O37: each line command by the line it finds, SET_OUTPUTS by its checks in order. -/
theorem lineCommandsAndOverride : Obligations.LineCommandsAndOverride := ⟨lineCommands, maintenanceOverride⟩

end

/-! PROOFS. That every step keeps the labels (O56) is refuted. `LabelsSound` says nothing of a lane that is DISABLED. A
HOLD_BIN lane is opened by LANE_ENABLE ON as it stands (R126), so a bundle left on it, its LABEL_DONE set, is then the
bundle of an OPEN lane. The state shown breaks nothing that `LabelsSound` asks for; what it lacks is that a DISABLED lane
holds no bundle, as R127 and R146 leave it. -/

namespace Sys2Proof.Machine

open Sys2Proof

/-- A bundle that has been labelled. -/
def staleBundle : Bundle := { freshBundle 1 resetLane with labelDone := true }

/-- A DISABLED hold bin on which that bundle has been left. -/
def staleLane : Lane := { resetLane with kind := .holdBin, bundle := some staleBundle }

/-- LANE_ENABLE ON for lane 0. -/
def staleEnable : Instr := .laneEnable { seq := 0, pad := 0 } 0 0

/-- The lane among those of a reset, and its LANE_ENABLE waiting in a transaction. -/
def staleState : State :=
  { State.reset with
    lanes := State.reset.lanes.set 0 staleLane, cmd := { State.reset.cmd with active := true }, pending := [staleEnable] }

/-- The state after that command. -/
def staleAfter : State :=
  State.answered { seq := 0, pad := 0 } 0x42 [0, 0] .ok []
    { staleState with pending := [], lanes := State.reset.lanes.set 0 { staleLane with enabled := true, state := .opened } }

theorem staleState_labelsSound : staleState.LabelsSound where
  lanes := List.nodup_nil
  closed _ h := absurd h List.not_mem_nil
  opened l b hstate _ := by
    have hdisabled : ∀ l : Fin 8, staleState.lanes[l].state = .disabled := by decide
    cases (hdisabled l).symm.trans hstate
  current _ h := by cases h

theorem step_staleState : step staleState = .next staleAfter :=
  fixedCommand_answers (s := { staleState with pending := [] }) ⟨rfl, rfl⟩ rfl rfl

end Sys2Proof.Machine

section

open Sys2Proof Sys2Proof.Machine

/-- Refutes O56: LANE_ENABLE opens a DISABLED hold bin with the labelled bundle that was left on it. -/
theorem not_everyStepKeepsTheLabels : ¬ Obligations.EveryStepKeepsTheLabels := by
  rintro ⟨hkeeps, -⟩
  have hsound : staleAfter.LabelsSound := hkeeps _ _ staleState_labelsSound step_staleState
  cases hsound.opened 0 staleBundle rfl rfl

end

/-! PROOFS. What the operations on lanes leave: the lane after an update, the label queue after the composer test, the lane
and the labels after an expiry of its drop watch, the lanes after a retirement. -/

namespace Sys2Proof.Machine

open Sys2Proof

set_option Elab.async false

variable {s t u : State} {l k : Fin 8} {b : Bundle}

/-! ### A lane in the place of another -/

/-- The state with a lane in the place of one. -/
def putLane (l : Fin 8) (q : Lane) (s : State) : State := { s with lanes := s.lanes.set l q }

theorem putLane_lane (l : Fin 8) (q : Lane) (s : State) : (putLane l q s).lanes[l] = q := Vector.getElem_set_self ..

theorem putLane_other (h : k ≠ l) (q : Lane) (s : State) : (putLane l q s).lanes[k] = s.lanes[k] :=
  modifyAt_other s.lanes l k (fun _ => q) h

theorem putLane_self (l : Fin 8) (s : State) : putLane l s.lanes[l] s = s := by
  simp [putLane]

theorem putLane_putLane (l : Fin 8) (q r : Lane) (s : State) : putLane l r (putLane l q s) = putLane l r s := by
  simp [putLane]

theorem updateLane_eq (l : Fin 8) (f : Lane → Lane) (s : State) : updateLane l f s = putLane l (f s.lanes[l]) s := rfl

theorem updateLane_putLane (l : Fin 8) (f : Lane → Lane) (q : Lane) (s : State) :
    updateLane l f (putLane l q s) = putLane l (f q) s := by
  rw [updateLane_eq, putLane_lane, putLane_putLane]

theorem updateBundle_some (hb : s.lanes[l].bundle = some b) (f : Bundle → Bundle) :
    updateBundle l f s = putLane l { s.lanes[l] with bundle := some (f b) } s := by
  have hmap : s.lanes[l].bundle.map f = some (f b) := by rw [hb]; rfl
  rw [← hmap]
  rfl

theorem updateBundle_none (hb : s.lanes[l].bundle = none) (f : Bundle → Bundle) : updateBundle l f s = s := by
  have hmap : s.lanes[l].bundle.map f = s.lanes[l].bundle := by rw [hb]; rfl
  rw [updateBundle, updateLane_eq, hmap]
  exact putLane_self l s

/-! ### The composer test (R153, R156) -/

/-- `t` is `s` but for the Dispatch Port and the place of the composer in the stream. -/
def ComposeFrame (s t : State) : Prop :=
  t = { s with port := t.port, composed := t.composed, doubtLatch := t.doubtLatch }

theorem ComposeFrame.trans (h : ComposeFrame s t) (g : ComposeFrame t u) : ComposeFrame s u := by
  unfold ComposeFrame at *
  rw [g, h]

theorem strobeTest_composeFrame (s : State) : ComposeFrame s (strobeTest s) := by
  unfold strobeTest
  split
  · split <;> rfl
  · rfl

theorem startHandshake_composeFrame (s : State) : ComposeFrame s (startHandshake s) := by
  have hready : ComposeFrame s { s with port := { s.port with handshake := .readyWait } } := rfl
  unfold startHandshake
  split
  · exact hready.trans (strobeTest_composeFrame _)
  · rfl

theorem fillOne_composeFrame (s : State) : ComposeFrame s (fillOne s) := by
  unfold fillOne
  split
  · split <;> rfl
  · rfl

theorem fillFifo_composeFrame (n : Nat) (s : State) : ComposeFrame s (fillFifo n s) := by
  induction n generalizing s with
  | zero => rfl
  | succ n ih => exact (fillOne_composeFrame s).trans (ih _)

theorem compose_composeFrame (s : State) : ComposeFrame s (compose s) :=
  (fillFifo_composeFrame _ s).trans (startHandshake_composeFrame _)

/-- A label that is now being composed. -/
def asPrinting (k : Label) : Label := { k with state := .printing }

/-- The composer test changes the port, the composer, and the STATE of the labels of one lane at most (R153). -/
theorem composerTest_cases (s : State) :
    composerTest s = s ∨
      ∃ l, ComposeFrame (updateLabel l asPrinting { s with composing := some l, composed := 0, doubtLatch := none })
        (composerTest s) := by
  unfold composerTest
  split
  · split
    · exact .inl rfl
    · exact .inr ⟨_, compose_composeFrame _⟩
  · exact .inl rfl

theorem ComposeFrame.lanes (h : ComposeFrame s t) : t.lanes = s.lanes := by
  unfold ComposeFrame at h
  rw [h]

theorem ComposeFrame.events (h : ComposeFrame s t) : t.events = s.events := by
  unfold ComposeFrame at h
  rw [h]

theorem ComposeFrame.labels (h : ComposeFrame s t) : t.labels = s.labels := by
  unfold ComposeFrame at h
  rw [h]

theorem composerTest_lanes (s : State) : (composerTest s).lanes = s.lanes := by
  rcases composerTest_cases s with h | ⟨l, h⟩
  · rw [h]
  · rw [h.lanes]; rfl

theorem composerTest_events (s : State) : (composerTest s).events = s.events := by
  rcases composerTest_cases s with h | ⟨l, h⟩
  · rw [h]
  · rw [h.events]; rfl

/-- Every label stays in its place, at most its STATE becoming PRINTING. -/
theorem composerTest_labels (s : State) :
    ∃ f : Label → Label, (∀ k, f k = k ∨ f k = asPrinting k) ∧ (composerTest s).labels = s.labels.map f := by
  rcases composerTest_cases s with h | ⟨l, h⟩
  · exact ⟨id, fun _ => .inl rfl, by rw [h, List.map_id]⟩
  · refine ⟨fun k => if k.lane = l then asPrinting k else k, fun k => ?_, h.labels⟩
    dsimp only
    split
    · exact .inr rfl
    · exact .inl rfl

/-! ### An expiry on a drop watch list (R143, R152) -/

theorem raise_labels (k : EventKind) (s : State) : (raise k s).labels = s.labels := by
  have h := raise_frame k s
  unfold RaiseFrame at h
  rw [h]

/-- A bundle after the DOUBTFUL mark for a bundle number (R143). -/
def doubted (n : Option Nat) (b : Bundle) : Bundle :=
  { b with doubtful := b.doubtful || decide (n = some b.number) }

theorem doubted_none (b : Bundle) : doubted none b = b := by
  simp [doubted]

theorem doubted_same (b : Bundle) : doubted (some b.number) b = { b with doubtful := true } := by
  simp [doubted]

theorem doubted_other {n : Nat} (h : b.number ≠ n) : doubted (some n) b = b := by
  simp [doubted, Ne.symm h]

theorem markDoubtful_lanes (l : Fin 8) (n : Nat) (s : State) :
    (markDoubtful l n s).lanes =
      (putLane l { s.lanes[l] with bundle := s.lanes[l].bundle.map (doubted (some n)) } s).lanes := by
  cases hb : s.lanes[l].bundle with
  | none =>
    have hself : ({ s.lanes[l] with bundle := none } : Lane) = s.lanes[l] := by rw [← hb]
    simp only [markDoubtful, hb, Option.map_none, hself, putLane_self]
  | some b =>
    by_cases hn : b.number = n
    · subst hn
      simp only [markDoubtful, hb, if_true, updateBundle_some hb, Option.map_some, doubted_same]
      split <;> rfl
    · have hself : ({ s.lanes[l] with bundle := some b } : Lane) = s.lanes[l] := by rw [← hb]
      simp only [markDoubtful, hb, if_neg hn, Option.map_some, doubted_other hn, hself, putLane_self]

/-- On a CLOSED bundle the mark is handed to its label (R152). -/
theorem markDoubtful_label (hb : s.lanes[l].bundle = some b) (hclosed : s.lanes[l].state = .closed) {k : Label}
    (hk : k ∈ (markDoubtful l b.number s).labels) (hlane : k.lane = l) : k.doubtful = true := by
  have hstate : (putLane l { s.lanes[l] with bundle := some { b with doubtful := true } } s).lanes[l].state = .closed := by
    rw [putLane_lane, hclosed]
  simp only [markDoubtful, hb, if_true, updateBundle_some hb, hstate] at hk
  obtain ⟨j, hj, rfl⟩ := List.mem_map.1 hk
  by_cases hjl : j.lane = l
  · rw [if_pos hjl]
  · rw [if_neg hjl] at hlane
    exact absurd hlane hjl

theorem markDoubtful_labels_none (hb : s.lanes[l].bundle = none) (n : Nat) : markDoubtful l n s = s := by
  simp only [markDoubtful, hb]

/-- A lane whose oldest drop watch entry `w` has expired. -/
def expiredLane (w : Watch) (rest : List Watch) (r : Lane) : Lane :=
  { r with watch := rest, bundle := r.bundle.map (doubted w.bundle) }

/-- The state in which an expiry looks for the bundle to mark (R143). -/
def missedDrop (l : Fin 8) (rest : List Watch) (s : State) : State :=
  raise .missedDrop (putLane l { s.lanes[l] with watch := rest } s)

theorem missedDrop_lane (l : Fin 8) (rest : List Watch) (s : State) :
    (missedDrop l rest s).lanes[l] = { s.lanes[l] with watch := rest } := by
  rw [missedDrop, raise_lanes, putLane_lane]

variable {w : Watch} {rest : List Watch}

theorem expireWatch_nothing (h : s.lanes[l].watch = w :: rest) (hw : w.bundle = none) :
    expireWatch l s = missedDrop l rest s := by
  simp only [expireWatch, h, hw]
  rfl

theorem expireWatch_bundle (h : s.lanes[l].watch = w :: rest) {n : Nat} (hw : w.bundle = some n) :
    expireWatch l s = markDoubtful l n (missedDrop l rest s) := by
  simp only [expireWatch, h, hw]
  rfl

theorem expireWatch_lanes (h : s.lanes[l].watch = w :: rest) :
    (expireWatch l s).lanes = (putLane l (expiredLane w rest s.lanes[l]) s).lanes := by
  cases hw : w.bundle with
  | none =>
    have hsame : s.lanes[l].bundle.map (doubted none) = s.lanes[l].bundle := by
      rw [funext doubted_none]; exact Option.map_id'
    rw [expireWatch_nothing h hw, missedDrop, raise_lanes, expiredLane, hw, hsame]
  | some n =>
    rw [expireWatch_bundle h hw, markDoubtful_lanes, missedDrop_lane, expiredLane, hw]
    simp only [putLane, missedDrop, raise_lanes, Vector.set_set]

theorem expireWatch_label (h : s.lanes[l].watch = w :: rest) (hb : s.lanes[l].bundle = some b)
    (hw : w.bundle = some b.number) (hclosed : s.lanes[l].state = .closed) {k : Label}
    (hk : k ∈ (expireWatch l s).labels) (hlane : k.lane = l) : k.doubtful = true := by
  rw [expireWatch_bundle h hw] at hk
  exact markDoubtful_label (by rw [missedDrop_lane]; exact hb) (by rw [missedDrop_lane]; exact hclosed) hk hlane

/-- On a lane without a bundle no label is marked. -/
theorem expireWatch_labels_none (hb : s.lanes[l].bundle = none) : (expireWatch l s).labels = s.labels := by
  unfold expireWatch
  split
  · rfl
  · next w rest h =>
    have hlabels : (missedDrop l rest s).labels = s.labels := raise_labels _ _
    have hnone : (missedDrop l rest s).lanes[l].bundle = none := by rw [missedDrop_lane]; exact hb
    dsimp only
    split
    · exact (congrArg State.labels (markDoubtful_labels_none hnone _)).trans hlabels
    · exact hlabels

/-! ### A retirement and the lanes (R24, R49, R114) -/

/-- `t` is `s` but for records, plans, places and the schedules of the outputs. -/
def RetireFrame (s t : State) : Prop :=
  t = { s with strips := t.strips, planQueue := t.planQueue, engine := t.engine, infeed := t.infeed,
               permitOpen := t.permitOpen, moulder := t.moulder, holding := t.holding, window := t.window,
               lugs := t.lugs, outs := t.outs }

theorem RetireFrame.trans (h : RetireFrame s t) (g : RetireFrame t u) : RetireFrame s u := by
  unfold RetireFrame at *
  rw [g, h]

theorem dropPlan_retireFrame (n : Nat) (s : State) : RetireFrame s (dropPlan n s) := by
  unfold dropPlan
  split <;> rfl

theorem leaveInfeed_retireFrame (n : Nat) (s : State) : RetireFrame s (leaveInfeed n s) := by
  unfold leaveInfeed
  split
  · rw [evalPermit_eq]
    rfl
  · rfl

theorem leaveHolding_retireFrame (n : Nat) (s : State) : RetireFrame s (leaveHolding n s) := by
  unfold leaveHolding
  split <;> rfl

theorem retireCore_retireFrame (n : Nat) (s : State) : RetireFrame s (retireCore n s) := by
  have hslot : RetireFrame s (freeSlot n (dropPlan n s)) := (dropPlan_retireFrame n s).trans rfl
  have hmoulder : RetireFrame s (leaveMoulder n (leaveInfeed n (freeSlot n (dropPlan n s)))) :=
    (hslot.trans (leaveInfeed_retireFrame n _)).trans rfl
  exact (hmoulder.trans (leaveHolding_retireFrame n _)).trans rfl

theorem retireCore_lanes (n : Nat) (s : State) : (retireCore n s).lanes = s.lanes := by
  rw [retireCore_retireFrame n s]

theorem retireCore_labels (n : Nat) (s : State) : (retireCore n s).labels = s.labels := by
  rw [retireCore_retireFrame n s]

theorem retireCore_events (n : Nat) (s : State) : (retireCore n s).events = s.events := by
  rw [retireCore_retireFrame n s]

end Sys2Proof.Machine

/-! PROOFS. Acceptance by a lane (R131, R132) and the intended lane of a presented strip (R129, R130). -/

namespace Sys2Proof.Machine

open Sys2Proof

set_option Elab.async false

variable {s : State} {r : Strip} {o : Nat} {g : Grade} {l : Fin 8} {kind : LaneKind}

/-! ### Acceptance (R131, R132) -/

theorem gradedAs_iff : gradedAs g r = true ↔ r.disposition = some (.graded g) ∧ r.missedCut = false := by
  simp [gradedAs]

theorem rangeHolds_iff {lane : Lane} :
    rangeHolds lane r = true ↔ lane.minK ≤ r.kept.getD 0 ∧ r.kept.getD 0 ≤ lane.maxK := by
  simp [rangeHolds]

theorem mixPasses_iff {b : Bundle} :
    mixPasses b r = true ↔
      b.shortCopy ≤ r.kept.getD 0 ∨ (b.short + stripArea r) * 100 ≤ b.mixCopy * (b.coverage + stripArea r) := by
  simp [mixPasses]

/-- Conditions 2 to 5 of R131. -/
theorem bundleAccepts_iff {lane : Lane} {b : Bundle} :
    bundleAccepts lane b r = true ↔
      r.disposition = some (.graded b.grade) ∧ r.missedCut = false ∧ lane.minK ≤ r.kept.getD 0 ∧
      r.kept.getD 0 ≤ lane.maxK ∧ (b.count = 0 ∨ b.lot = some r.lot ∧ b.width = r.width) ∧
      (b.shortCopy ≤ r.kept.getD 0 ∨
        (b.short + stripArea r) * 100 ≤ b.mixCopy * (b.coverage + stripArea r)) := by
  simp only [bundleAccepts, Bool.and_eq_true, Bool.or_eq_true, beq_iff_eq, gradedAs_iff, rangeHolds_iff, mixPasses_iff,
    and_assoc]

theorem laneAccepts_holdBin {lane : Lane} (hkind : lane.kind = .holdBin) (hopen : lane.state = .opened) :
    laneAccepts lane r = true := by
  simp [laneAccepts, hkind, hopen]

theorem laneAccepts_rejectBin {lane : Lane} (hkind : lane.kind = .rejectBin) (hopen : lane.state = .opened)
    (hr : r.disposition = some .trimOut ∨ r.disposition = some .rejected) : laneAccepts lane r = true := by
  simpa [laneAccepts, hkind, hopen] using hr

theorem acceptance : Claims.Acceptance := by
  intro lane r
  unfold laneAccepts
  rw [Bool.and_eq_true, beq_iff_eq]
  refine and_congr_right fun _ => ?_
  cases lane.kind with
  | unused => simp
  | holdBin => simp
  | rejectBin => simp
  | bundle => simp only [Option.any_eq_true, bundleAccepts_iff, stripArea]

/-! ### The lowest-numbered lane of a kind -/

/-- The lowest-numbered lane with a property. -/
def Lowest (p : Fin 8 → Prop) (l : Fin 8) : Prop := p l ∧ ∀ k < l, ¬ p k

/-- An OPEN bin of a kind that counts at the offset (R129, R130). -/
def IsBin (o : Nat) (s : State) (kind : LaneKind) (l : Fin 8) : Prop :=
  o ≤ s.lanes[l].dropOffset ∧ s.lanes[l].kind = kind ∧ s.lanes[l].state = .opened

/-- A BUNDLE lane that counts at the offset, with the grade and a range that holds KEPT (R129). -/
def Fits (o : Nat) (r : Strip) (s : State) (g : Grade) (l : Fin 8) : Prop :=
  o ≤ s.lanes[l].dropOffset ∧ s.lanes[l].kind = .bundle ∧ s.lanes[l].grade = g ∧
    s.lanes[l].minK ≤ r.kept.getD 0 ∧ r.kept.getD 0 ≤ s.lanes[l].maxK

theorem indices_find?_lowest {test : Fin 8 → Bool} {p : Fin 8 → Prop} (h : ∀ k, test k = true ↔ p k) :
    (indices 8).find? test = some l ↔ Lowest p l := by
  simp only [indices_find?_eq_some, Lowest, ← h, Bool.not_eq_true]

theorem indices_find?_none {test : Fin 8 → Bool} {p : Fin 8 → Prop} (h : ∀ k, test k = true ↔ p k) :
    (indices 8).find? test = none ↔ ∀ k, ¬ p k := by
  simp [List.find?_eq_none, ← h]

theorem isBin_iff (k : Fin 8) :
    (countsAt o s.lanes[k] && s.lanes[k].kind == kind && s.lanes[k].state == .opened) = true ↔ IsBin o s kind k := by
  simp only [countsAt, IsBin, Bool.and_eq_true, beq_iff_eq, decide_eq_true_eq, and_assoc]

theorem openBin_eq_some : openBin kind o s = some l ↔ Lowest (IsBin o s kind) l := indices_find?_lowest isBin_iff

theorem openBin_eq_none : openBin kind o s = none ↔ ∀ k, ¬ IsBin o s kind k := indices_find?_none isBin_iff

theorem matchesStrip_iff (k : Fin 8) : matchesStrip o g r s.lanes[k] = true ↔ Fits o r s g k := by
  simp only [matchesStrip, countsAt, Fits, rangeHolds_iff, Bool.and_eq_true, beq_iff_eq, decide_eq_true_eq, and_assoc]

/-! ### The intended lane of a GRADED strip (R129) -/

theorem gradedLane_none (h : ∀ k, ¬ Fits o r s g k) : gradedLane o g r s = openBin .holdBin o s := by
  simp only [gradedLane, (indices_find?_none matchesStrip_iff).2 h]

variable {first alt : Fin 8}

theorem gradedLane_first (h : Lowest (Fits o r s g) first) (haccepts : laneAccepts s.lanes[first] r = true) :
    gradedLane o g r s = some first := by
  simp only [gradedLane, (indices_find?_lowest matchesStrip_iff).2 h, haccepts, if_true]

theorem gradedLane_alternate (h : Lowest (Fits o r s g) first) (hrefuses : laneAccepts s.lanes[first] r = false)
    (halt : s.lanes[first].alternate = some alt) (hfits : Fits o r s g alt)
    (haccepts : laneAccepts s.lanes[alt] r = true) : gradedLane o g r s = some alt := by
  simp only [gradedLane, (indices_find?_lowest matchesStrip_iff).2 h, hrefuses, halt, (matchesStrip_iff alt).2 hfits,
    haccepts, Bool.and_self, Bool.false_eq_true, if_false, if_true]

theorem gradedLane_holdBin (h : Lowest (Fits o r s g) first) (hrefuses : laneAccepts s.lanes[first] r = false)
    (halt : ∀ alt, s.lanes[first].alternate = some alt → ¬ (Fits o r s g alt ∧ laneAccepts s.lanes[alt] r = true)) :
    gradedLane o g r s = openBin .holdBin o s := by
  simp only [gradedLane, (indices_find?_lowest matchesStrip_iff).2 h, hrefuses, Bool.false_eq_true, if_false]
  cases hnext : s.lanes[first].alternate with
  | none => rfl
  | some alt =>
    have hno : ¬ (matchesStrip o g r s.lanes[alt] && laneAccepts s.lanes[alt] r) = true := by
      rw [Bool.and_eq_true, matchesStrip_iff]
      exact halt alt hnext
    exact if_neg hno

/-- The intended lane of a GRADED strip is its first match, the ALTERNATE of that, or a hold bin (R129). -/
theorem gradedLane_cases (h : gradedLane o g r s = some l) :
    (Fits o r s g l ∧ laneAccepts s.lanes[l] r = true) ∨ openBin .holdBin o s = some l := by
  by_cases hnone : ∀ k, ¬ Fits o r s g k
  · exact .inr (gradedLane_none hnone ▸ h)
  · obtain ⟨first, hfirst⟩ : ∃ first, (indices 8).find? (fun i => matchesStrip o g r s.lanes[i]) = some first :=
      Option.ne_none_iff_exists'.1 fun hn => hnone ((indices_find?_none matchesStrip_iff).1 hn)
    have hlowest : Lowest (Fits o r s g) first := (indices_find?_lowest matchesStrip_iff).1 hfirst
    cases haccepts : laneAccepts s.lanes[first] r with
    | true =>
      obtain rfl : first = l := Option.some.inj ((gradedLane_first hlowest haccepts).symm.trans h)
      exact .inl ⟨hlowest.1, haccepts⟩
    | false =>
      by_cases halt : ∃ alt, s.lanes[first].alternate = some alt ∧ Fits o r s g alt ∧ laneAccepts s.lanes[alt] r = true
      · obtain ⟨alt, hnext, hfits, htakes⟩ := halt
        obtain rfl : alt = l := Option.some.inj ((gradedLane_alternate hlowest haccepts hnext hfits htakes).symm.trans h)
        exact .inl ⟨hfits, htakes⟩
      · exact .inr (gradedLane_holdBin hlowest haccepts (fun alt hnext hboth => halt ⟨alt, hnext, hboth⟩) ▸ h)

/-! ### The intended lane (R129, R130) -/

theorem intendedLane_hold (h : r.missedCut = true ∨ r.disposition = some .hold) :
    intendedLane o r s = openBin .holdBin o s := by
  unfold intendedLane
  split
  · rfl
  · next hcut => rw [h.resolve_left hcut]

theorem intendedLane_rejected (hcut : r.missedCut = false)
    (h : r.disposition = some .trimOut ∨ r.disposition = some .rejected) :
    intendedLane o r s = (openBin .rejectBin o s).or (openBin .holdBin o s) := by
  unfold intendedLane
  rcases h with h | h <;> rw [hcut, h] <;> cases openBin .rejectBin o s <;> rfl

theorem intendedLane_graded (hcut : r.missedCut = false) (h : r.disposition = some (.graded g)) :
    intendedLane o r s = gradedLane o g r s := by
  unfold intendedLane
  rw [hcut, h]
  rfl

theorem openBin_holdBin_accepts (h : openBin .holdBin o s = some l) :
    o ≤ s.lanes[l].dropOffset ∧ laneAccepts s.lanes[l] r = true := by
  obtain ⟨⟨hoffset, hkind, hopen⟩, -⟩ := openBin_eq_some.1 h
  exact ⟨hoffset, laneAccepts_holdBin hkind hopen⟩

theorem openBin_rejectBin_accepts (hr : r.disposition = some .trimOut ∨ r.disposition = some .rejected)
    (h : openBin .rejectBin o s = some l) : o ≤ s.lanes[l].dropOffset ∧ laneAccepts s.lanes[l] r = true := by
  obtain ⟨⟨hoffset, hkind, hopen⟩, -⟩ := openBin_eq_some.1 h
  exact ⟨hoffset, laneAccepts_rejectBin hkind hopen hr⟩

/-- The intended lane lies at the offset or ahead, and accepts the strip. -/
theorem intendedLane_accepts (h : intendedLane o r s = some l) :
    o ≤ s.lanes[l].dropOffset ∧ laneAccepts s.lanes[l] r = true := by
  have hrejected (hcut : r.missedCut = false)
      (hr : r.disposition = some .trimOut ∨ r.disposition = some .rejected) :
      o ≤ s.lanes[l].dropOffset ∧ laneAccepts s.lanes[l] r = true := by
    rw [intendedLane_rejected hcut hr] at h
    rcases Option.or_eq_some_iff.1 h with hbin | ⟨-, hbin⟩
    · exact openBin_rejectBin_accepts hr hbin
    · exact openBin_holdBin_accepts hbin
  cases hcut : r.missedCut with
  | true => exact openBin_holdBin_accepts (intendedLane_hold (.inl hcut) ▸ h)
  | false =>
    cases hr : r.disposition with
    | none => simp [intendedLane, hcut, hr] at h
    | some d =>
      cases d with
      | hold => exact openBin_holdBin_accepts (intendedLane_hold (.inr hr) ▸ h)
      | trimOut => exact hrejected hcut (.inl hr)
      | rejected => exact hrejected hcut (.inr hr)
      | graded g =>
        rcases gradedLane_cases (intendedLane_graded hcut hr ▸ h) with ⟨hfits, haccepts⟩ | hbin
        · exact ⟨hfits.1, haccepts⟩
        · exact openBin_holdBin_accepts hbin

theorem routing : Claims.Routing := by
  intro o r s isBin fits lowest
  refine ⟨fun l => intendedLane_accepts, fun hr l => ?_, fun hcut hr l => ?_, fun g hcut hr => ⟨fun hnone l => ?_,
    fun first hfirst => ⟨fun haccepts => ?_, fun hrefuses alt halt hfits haccepts => ?_, fun hrefuses halt l => ?_⟩⟩⟩
  · rw [intendedLane_hold hr]
    exact openBin_eq_some
  · rw [intendedLane_rejected hcut hr, Option.or_eq_some_iff, openBin_eq_some, openBin_eq_none, openBin_eq_some]
    rfl
  · rw [intendedLane_graded hcut hr, gradedLane_none hnone]
    exact openBin_eq_some
  · rw [intendedLane_graded hcut hr, gradedLane_first hfirst haccepts]
  · rw [intendedLane_graded hcut hr, gradedLane_alternate hfirst hrefuses halt hfits haccepts]
  · rw [intendedLane_graded hcut hr, gradedLane_holdBin hfirst hrefuses halt]
    exact openBin_eq_some

end Sys2Proof.Machine

section

open Sys2Proof Sys2Proof.Machine

/-- Settles O43: acceptance by the kind of the lane, the intended lane by DISPOSITION and the missed cut. -/
theorem stripsAreRouted : Obligations.StripsAreRouted := ⟨acceptance, routing⟩

end

/-! PROOFS. SET_LANE (R125) and LANE_ENABLE (R126, R127). -/

namespace Sys2Proof.Machine

open Sys2Proof

set_option Elab.async false

variable {s : State} {l : Fin 8}

/-! ### SET_LANE: its operands (R125, R210) -/

theorem alternateOf_none : alternateOf l 255 = some none := rfl

theorem alternateOf_lane {alternate : Byte} {m : Fin 8} (hm : alternate.toNat = m.val) (hne : m ≠ l) :
    alternateOf l alternate = some (some m) := by
  have hsome : alternate ≠ 255 := by
    rintro rfl
    exact absurd m.isLt (by rw [← hm]; decide)
  simp only [alternateOf, if_neg hsome, finOf_eq hm, if_neg hne]

theorem alternateOf_bad {alternate : Byte} (hsome : alternate ≠ 255)
    (h : 8 ≤ alternate.toNat ∨ alternate.toNat = l.val) : alternateOf l alternate = none := by
  rcases h with hlarge | hself
  · simp only [alternateOf, if_neg hsome, finOf_ge hlarge]
  · simp only [alternateOf, if_neg hsome, finOf_eq hself, if_true]

section setLane

variable {lane kind drop grade alternate maxStrips mixPct : Byte} {minK maxK target shortMm : BitVec 16}

theorem setLane_bad
    (h : 8 ≤ lane.toNat ∨ 4 ≤ kind.toNat ∨ alternate ≠ 255 ∧ (8 ≤ alternate.toNat ∨ alternate = lane)) :
    setLane lane kind drop grade minK maxK alternate target maxStrips shortMm mixPct s = refuse .badArgument s := by
  by_cases hlane : 8 ≤ lane.toNat
  · simp only [setLane, finOf_ge hlane]
  have hl : lane.toNat = (⟨lane.toNat, Nat.lt_of_not_le hlane⟩ : Fin 8).val := rfl
  cases hkind : enumOf laneKinds kind with
  | none => simp only [setLane, finOf_eq hl, hkind]
  | some k =>
    have hknown : ¬ 4 ≤ kind.toNat := fun hbad => by
      have hnone : enumOf laneKinds kind = none := enumOf_bad hbad
      cases hnone.symm.trans hkind
    obtain ⟨hsome, halternate⟩ := (h.resolve_left hlane).resolve_left hknown
    have hnone := alternateOf_bad (l := ⟨lane.toNat, Nat.lt_of_not_le hlane⟩) hsome
      (halternate.imp_right fun heq => congrArg BitVec.toNat heq)
    simp only [setLane, finOf_eq hl, hkind, hnone]

/-- The ten fields as SET_LANE carries them (R125). -/
def givenFields (k : LaneKind) (alt : Option (Fin 8)) (drop grade : Byte) (minK maxK target : BitVec 16)
    (maxStrips : Byte) (shortMm : BitVec 16) (mixPct : Byte) : LaneFields :=
  { kind := k, dropOffset := drop.toNat, grade := grade.toNat, minK := minK.toNat, maxK := maxK.toNat, alternate := alt,
    target := target.toNat, maxStrips := maxStrips.toNat, shortMm := shortMm.toNat, mixPct := mixPct.toNat }

theorem setLane_given {k : LaneKind} {alt : Option (Fin 8)} (hl : lane.toNat = l.val)
    (hkind : laneKinds[kind.toNat]? = some k) (halt : alternateOf l alternate = some alt) :
    setLane lane kind drop grade minK maxK alternate target maxStrips shortMm mixPct s =
      writeLane l (givenFields k alt drop grade minK maxK target maxStrips shortMm mixPct) s := by
  have henum : enumOf laneKinds kind = some k := hkind
  simp only [setLane, finOf_eq hl, henum, halt, givenFields]

end setLane

/-! ### SET_LANE: its clamping and what it writes (R125) -/

/-- The fields clamped, those of their values that fit their bytes (R125 step 3). -/
theorem clampLane_eq {f : LaneFields} (htarget : f.target ≤ 65535) (hstrips : f.maxStrips ≤ 255) (low : Nat) :
    clampLane low f =
      { f with
        dropOffset := if f.dropOffset < low + 1 then low + 1 else min f.dropOffset 38, grade := max 1 (min f.grade 6),
        minK := min f.minK 4000, maxK := max (min f.minK 4000) (min f.maxK 4000), target := max 100 f.target,
        maxStrips := max 1 f.maxStrips, shortMm := min f.shortMm 4000, mixPct := min f.mixPct 100 } := by
  have hzero (hi v : Nat) : clampNat 0 hi v = min v hi := by rw [clampNat_eq_min, if_neg (Nat.not_lt_zero v)]
  have hgrade : clampNat 1 6 f.grade = max 1 (min f.grade 6) := by rw [clampNat_eq (by decide), Nat.min_comm]
  have htarget' : clampNat 100 65535 f.target = max 100 f.target := by
    rw [clampNat_eq (by decide), Nat.min_eq_right htarget]
  have hstrips' : clampNat 1 255 f.maxStrips = max 1 f.maxStrips := by
    rw [clampNat_eq (by decide), Nat.min_eq_right hstrips]
  simp only [clampLane, hzero, hgrade, htarget', hstrips', clampNat_eq_min (low + 1) 38]

theorem writeLane_refused {f : LaneFields}
    (h : s.lanes[l].state ≠ .disabled ∨
      (clampLane (getPar s .sawOffset) f).dropOffset ≠ s.lanes[l].dropOffset ∧ s.line ≠ .stopped) :
    writeLane l f s = refuse .wrongState s := by
  unfold writeLane
  by_cases hstate : s.lanes[l].state = .disabled
  · have hdrop := h.resolve_left (not_not.2 hstate)
    simp only [hstate, hdrop, ne_eq, not_true_eq_false, not_false_eq_true, and_self, if_false, if_true]
  · simp only [hstate, ne_eq, not_false_eq_true, if_true]

theorem writeLane_stored {f : LaneFields} (hstate : s.lanes[l].state = .disabled)
    (hdrop : (clampLane (getPar s .sawOffset) f).dropOffset = s.lanes[l].dropOffset ∨ s.line = .stopped) :
    writeLane l f s =
      ({ s with lanes := s.lanes.set l (writtenLane (clampLane (getPar s .sawOffset) f) s.lanes[l]) },
        okOr (clampLane (getPar s .sawOffset) f != f), []) := by
  have hkept : ¬ ((clampLane (getPar s .sawOffset) f).dropOffset ≠ s.lanes[l].dropOffset ∧ s.line ≠ .stopped) :=
    fun hboth => hdrop.elim hboth.1 hboth.2
  simp only [writeLane, hstate, ne_eq, not_true_eq_false, if_false, if_neg hkept]
  rfl

/-- Nothing is clamped exactly when every value lies in its range (R125 step 3). -/
theorem clampLane_eq_self_iff {f : LaneFields} (htarget : f.target ≤ 65535) (hstrips : f.maxStrips ≤ 255) (low : Nat) :
    clampLane low f = f ↔
      (if f.dropOffset < low + 1 then low + 1 else min f.dropOffset 38) = f.dropOffset ∧
      min f.minK 4000 = f.minK ∧ max (min f.minK 4000) (min f.maxK 4000) = f.maxK ∧ max 1 (min f.grade 6) = f.grade ∧
      100 ≤ f.target ∧ 1 ≤ f.maxStrips ∧ f.shortMm ≤ 4000 ∧ f.mixPct ≤ 100 := by
  rw [clampLane_eq htarget hstrips]
  cases f
  simp only [LaneFields.mk.injEq, true_and, sup_eq_right, inf_eq_left]
  tauto

theorem okOr_bne_iff {c f : LaneFields} {P : Prop} [Decidable P] (h : c = f ↔ P) :
    okOr (c != f) = if P then .ok else .okClamped := by
  rw [okOr_eq (P := ¬ P) (bne_iff_ne.trans (not_congr h)), ite_not]

theorem setLaneStores : Claims.SetLane := by
  intro x lane kind drop grade minK maxK alternate target maxStrips shortMm mixPct s hs c args
  refine ⟨fun hbad => fixedCommand_answers hs rfl (setLane_bad hbad), fun l k alt hl hkind halternate => ?_⟩
  intro low d lo hi g same written
  have halt : alternateOf l alternate = some alt := by
    rcases halternate with ⟨rfl, rfl⟩ | ⟨m, hm, hne, rfl⟩
    · exact alternateOf_none
    · exact alternateOf_lane hm hne
  have hgiven := setLane_given (s := s.taken x 0x16 args) (drop := drop) (grade := grade) (minK := minK) (maxK := maxK)
    (target := target) (maxStrips := maxStrips) (shortMm := shortMm) (mixPct := mixPct) hl hkind halt
  let f := givenFields k alt drop grade minK maxK target maxStrips shortMm mixPct
  have htarget : f.target ≤ 65535 := Nat.le_of_lt_succ target.isLt
  have hstrips : f.maxStrips ≤ 255 := Nat.le_of_lt_succ maxStrips.isLt
  have hclamp := clampLane_eq htarget hstrips (getPar s .sawOffset)
  have hdropOffset : (clampLane (getPar s .sawOffset) f).dropOffset = d := congrArg LaneFields.dropOffset hclamp
  have hwritten : writtenLane (clampLane (getPar s .sawOffset) f) s.lanes[l] = written :=
    congrArg (writtenLane · s.lanes[l]) hclamp
  have hstatus : okOr (clampLane (getPar s .sawOffset) f != f) = if same then .ok else .okClamped :=
    okOr_bne_iff (clampLane_eq_self_iff htarget hstrips _)
  refine ⟨fun hrefused => fixedCommand_answers hs rfl (hgiven.trans (writeLane_refused ?_)),
    fun hstate hdrop => fixedCommand_answers hs rfl (hgiven.trans
      ((writeLane_stored (s := s.taken x 0x16 args) hstate ?_).trans ?_))⟩
  · exact hdropOffset ▸ hrefused
  · exact hdropOffset ▸ hdrop
  · rw [← hwritten, ← hstatus]
    rfl

/-! ### LANE_ENABLE (R126, R127) -/

section laneEnable

variable {lane value : Byte}

theorem laneEnable_bad (h : 8 ≤ lane.toNat ∨ 2 ≤ value.toNat) : laneEnable lane value s = refuse .badArgument s := by
  rcases h with hlane | hvalue
  · simp only [laneEnable, finOf_ge hlane]
  · have henum : enumOf firstSecond value = none := enumOf_bad hvalue
    cases hlane : finOf 8 lane <;> simp only [laneEnable, hlane, henum]

theorem laneEnable_on (hl : lane.toNat = l.val) : laneEnable lane 0 s = laneOn l s := by
  have henum : enumOf firstSecond 0 = some true := rfl
  simp only [laneEnable, finOf_eq hl, henum]

theorem laneEnable_off (hl : lane.toNat = l.val) : laneEnable lane 1 s = laneOff l s := by
  have henum : enumOf firstSecond 1 = some false := rfl
  simp only [laneEnable, finOf_eq hl, henum]

end laneEnable

theorem setEnabled_eq (l : Fin 8) (v : Bool) (s : State) :
    setEnabled l v s = putLane l { s.lanes[l] with enabled := v } s := rfl

theorem laneOn_unused (h : s.lanes[l].kind = .unused) : laneOn l s = refuse .wrongState s := by
  simp only [laneOn, h]

theorem laneOn_bundle (h : s.lanes[l].kind = .bundle) (hstate : s.lanes[l].state = .disabled) :
    laneOn l s = okay (openBundle l (putLane l { s.lanes[l] with enabled := true } s)) := by
  simp only [laneOn, h, hstate, setEnabled_eq]

theorem laneOn_bin (h : s.lanes[l].kind = .holdBin ∨ s.lanes[l].kind = .rejectBin)
    (hstate : s.lanes[l].state = .disabled) :
    laneOn l s = okay (putLane l { s.lanes[l] with enabled := true, state := .opened } s) := by
  rcases h with h | h <;> simp only [laneOn, h, hstate, setEnabled_eq, updateLane_putLane]

theorem laneOn_enabled (h : s.lanes[l].kind ≠ .unused) (hstate : s.lanes[l].state ≠ .disabled) :
    laneOn l s = okay (putLane l { s.lanes[l] with enabled := true } s) := by
  unfold laneOn
  split
  · next hunused => exact absurd hunused h
  · next hdisabled => exact absurd hdisabled hstate
  · next hdisabled _ _ => exact absurd hdisabled hstate
  · rfl

theorem laneOff_idle (h : s.lanes[l].state ≠ .opened) :
    laneOff l s = okay (putLane l { s.lanes[l] with enabled := false } s) := by
  unfold laneOff
  simp only [setEnabled_eq, putLane_lane]
  split
  · next hopen _ => exact absurd hopen h
  · next hopen _ => exact absurd hopen h
  · rfl

theorem laneOff_empty (h : s.lanes[l].state = .opened) (hcount : ∀ b, s.lanes[l].bundle = some b → b.count = 0) :
    laneOff l s =
      okay (putLane l { s.lanes[l] with enabled := false, state := .disabled, bundle := none } s) := by
  unfold laneOff
  simp only [setEnabled_eq, putLane_lane, h]
  cases hbundle : s.lanes[l].bundle with
  | none => simp only [updateLane_putLane]
  | some b => simp only [hcount b hbundle, if_true, updateLane_putLane]

theorem laneOff_closes {b : Bundle} (h : s.lanes[l].state = .opened) (hbundle : s.lanes[l].bundle = some b)
    (hcount : b.count ≠ 0) :
    laneOff l s = okay (closeBundle l .forced (putLane l { s.lanes[l] with enabled := false } s)) := by
  unfold laneOff
  simp only [setEnabled_eq, putLane_lane, h, hbundle, if_neg hcount]

theorem laneEnableActs : Claims.LaneEnable := by
  intro x lane value s hs c args
  refine ⟨fun hbad => fixedCommand_answers hs rfl (laneEnable_bad hbad), fun l hl => ?_⟩
  intro r put
  refine ⟨?_, ?_⟩
  · rintro rfl
    have hon := laneEnable_on (s := s.taken x 0x42 args) hl
    refine ⟨fun hkind => ?_, fun hkind hstate => ?_, fun hkind hstate => ?_, fun hkind hstate => ?_⟩
    · exact fixedCommand_answers hs rfl (hon.trans (laneOn_unused hkind))
    · exact fixedCommand_answers hs rfl (hon.trans (laneOn_bundle hkind hstate))
    · exact fixedCommand_answers hs rfl (hon.trans (laneOn_bin hkind hstate))
    · exact fixedCommand_answers hs rfl (hon.trans (laneOn_enabled hkind hstate))
  · rintro rfl
    have hoff := laneEnable_off (s := s.taken x 0x42 args) hl
    refine ⟨fun hstate => ?_, fun hstate hcount => ?_, fun b hstate hbundle hcount => ?_⟩
    · exact fixedCommand_answers hs rfl (hoff.trans (laneOff_idle hstate))
    · exact fixedCommand_answers hs rfl (hoff.trans (laneOff_empty hstate hcount))
    · exact fixedCommand_responds hs rfl (hoff.trans (laneOff_closes hstate hbundle hcount))

end Sys2Proof.Machine

section

open Sys2Proof Sys2Proof.Machine

/-- Settles O46: SET_LANE by its checks in order, LANE_ENABLE by the lane as it stands. -/
theorem lanesAreSetAndEnabled : Obligations.LanesAreSetAndEnabled := ⟨setLaneStores, laneEnableActs⟩

end

/-! PROOFS. The life of a bundle: its opening (R128), its closing (R139, R150), FORCE_CLOSE and CONFIRM_CLEAR (R138, R144),
an unconfirmed drop (R143), LABEL_DONE handed over (R145, R146). -/

namespace Sys2Proof.Machine

open Sys2Proof

set_option Elab.async false

variable {s : State} {x : Xfer} {l : Fin 8} {b : Bundle}

/-! ### A fresh bundle (R128) -/

theorem mem_liveBundles {n : Nat} :
    n ∈ liveBundles s ↔ ∃ k : Fin 8, ∃ b, s.lanes[k].bundle = some b ∧ b.number = n := by
  simp only [liveBundles, List.mem_filterMap, Vector.mem_toList_iff, Vector.mem_iff_getElem, Option.map_eq_some_iff]
  constructor
  · rintro ⟨_, ⟨k, hk, rfl⟩, hbundle⟩
    exact ⟨⟨k, hk⟩, hbundle⟩
  · rintro ⟨k, hbundle⟩
    exact ⟨_, ⟨k.val, k.isLt, rfl⟩, hbundle⟩

/-- No more bundles are live than there are lanes. -/
theorem length_liveBundles (s : State) : (liveBundles s).length ≤ 8 := by
  have hlanes : s.lanes.toList.length = 8 := Vector.length_toList
  exact hlanes ▸ List.length_filterMap_le ..

/-- The number after one of the sequence (R128). -/
theorem nextNumber_eq {n : Nat} (h : n ≤ 65535) : nextNumber n = if n = 65535 then 1 else n + 1 := by
  unfold nextNumber
  split <;> split <;> omega

theorem freshBundle_opens : Claims.FreshBundle := by
  intro l s hlow hhigh live lane
  have hroom : (liveBundles s).length < 65535 := Nat.lt_of_le_of_lt (length_liveBundles s) (by decide)
  obtain ⟨i, hoffer, hbefore, hfresh⟩ := offer_fresh hlow hhigh hroom
  have hrange : 1 ≤ nextNumber^[i] s.nextBundle ∧ nextNumber^[i] s.nextBundle ≤ 65535 := by
    rw [iterate_nextNumber hlow hhigh]
    omega
  refine ⟨i, _, fun j hj => mem_liveBundles.1 (hbefore j hj), rfl, fun hlive => hfresh (mem_liveBundles.2 hlive),
    hrange.1, hrange.2, ?_⟩
  rw [← nextNumber_eq hrange.2, ← hoffer]
  rfl

/-! ### The closing steps (R139, R150) -/

/-- A lane whose bundle has closed. -/
def closedLane (why : CloseReason) (b : Bundle) (r : Lane) : Lane :=
  { r with state := .closed, bundle := some { b with closeReason := some why } }

/-- The state in which the label of a closed bundle is made (R139). -/
def bundleClosed (l : Fin 8) (why : CloseReason) (b : Bundle) (s : State) : State :=
  raise .bundleClosed (putLane l (closedLane why b s.lanes[l]) s)

theorem bundleClosed_lanes (l : Fin 8) (why : CloseReason) (b : Bundle) (s : State) :
    (bundleClosed l why b s).lanes = (putLane l (closedLane why b s.lanes[l]) s).lanes := raise_lanes _ _

theorem closeBundle_eq (hb : s.lanes[l].bundle = some b) (why : CloseReason) :
    closeBundle l why s = queueLabel l { b with closeReason := some why } (bundleClosed l why b s) := by
  have hlane : (bundleClosed l why b s).lanes[l].bundle = some { b with closeReason := some why } := by
    rw [bundleClosed_lanes, putLane_lane]
    rfl
  have hraised : raise .bundleClosed (updateLane l (fun r => { r with state := .closed })
      (updateBundle l (fun b => { b with closeReason := some why }) s)) = bundleClosed l why b s := by
    rw [updateBundle_some hb, updateLane_putLane]
    rfl
  simp only [closeBundle, hraised, hlane]

theorem closeBundle_lanes (hb : s.lanes[l].bundle = some b) (why : CloseReason) :
    (closeBundle l why s).lanes = (putLane l (closedLane why b s.lanes[l]) s).lanes := by
  rw [closeBundle_eq hb, queueLabel, composerTest_lanes]
  exact bundleClosed_lanes l why b s

theorem closeBundle_flag (hb : s.lanes[l].bundle = some b) (why : CloseReason) :
    (closeBundle l why s).events[eventIdx .bundleClosed].flag = true := by
  rw [closeBundle_eq hb, queueLabel, composerTest_events]
  exact raise_flag .bundleClosed _

/-- A label reads the saw map and FENCE_TRIM, which no event changes (R150). -/
theorem makeLabel_bundleClosed (l : Fin 8) (why : CloseReason) (b c : Bundle) (s : State) :
    makeLabel (bundleClosed l why b s) l c = makeLabel s l c := by
  have h := raise_frame .bundleClosed (putLane l (closedLane why b s.lanes[l]) s)
  unfold RaiseFrame at h
  rw [bundleClosed, h]
  rfl

/-- The new label stands at the tail, QUEUED or already PRINTING (R150, R153). -/
theorem closeBundle_labels (hb : s.lanes[l].bundle = some b) (why : CloseReason) :
    ∃ f : Label → Label, (∀ k, f k = k ∨ f k = asPrinting k) ∧ (closeBundle l why s).labels =
      (s.labels ++ [makeLabel s l { b with closeReason := some why }]).map f := by
  obtain ⟨f, hf, hlabels⟩ := composerTest_labels
    { bundleClosed l why b s with
      labels := (bundleClosed l why b s).labels ++
        [makeLabel (bundleClosed l why b s) l { b with closeReason := some why }] }
  refine ⟨f, hf, ?_⟩
  have hbefore : (bundleClosed l why b s).labels = s.labels := raise_labels _ _
  rw [closeBundle_eq hb, queueLabel, hlabels, makeLabel_bundleClosed, hbefore]

theorem closingSteps : Claims.ClosingSteps := by
  intro l why s b hb u
  obtain ⟨f, hf, hlabels⟩ := closeBundle_labels hb why
  have hlength : u.labels.length = s.labels.length + 1 := by
    rw [hlabels, List.length_map, List.length_append, List.length_singleton]
  refine ⟨closeBundle_frame l why s, closeBundle_lanes hb why, closeBundle_flag hb why, hlength,
    f (makeLabel s l { b with closeReason := some why }), ?_, ?_, ?_⟩
  · rw [hlabels, List.map_append, List.map_singleton, List.getLast?_concat]
  · rcases hf (makeLabel s l { b with closeReason := some why }) with h | h <;> rw [h]
    · exact .inl rfl
    · exact .inr rfl
  · rcases hf (makeLabel s l { b with closeReason := some why }) with h | h <;> rw [h] <;> rfl

/-! ### FORCE_CLOSE and CONFIRM_CLEAR (R138, R144) -/

section commands

variable {lane : Byte}

theorem forceClose_bad (h : 8 ≤ lane.toNat) : forceClose lane s = refuse .badArgument s := by
  simp only [forceClose, finOf_ge h]

theorem forceClose_wrongState (hl : lane.toNat = l.val)
    (h : s.lanes[l].kind ≠ .bundle ∨ s.lanes[l].state ≠ .opened) : forceClose lane s = refuse .wrongState s := by
  simp only [forceClose, finOf_eq hl, if_pos h]

theorem forceClose_open (hl : lane.toNat = l.val) (hkind : s.lanes[l].kind = .bundle)
    (hstate : s.lanes[l].state = .opened) (hb : s.lanes[l].bundle = some b) :
    forceClose lane s = if b.count = 0 then refuse .empty s else okay (closeBundle l .forced s) := by
  have hopen : ¬ (s.lanes[l].kind ≠ .bundle ∨ s.lanes[l].state ≠ .opened) :=
    not_or.2 ⟨not_not.2 hkind, not_not.2 hstate⟩
  simp only [forceClose, finOf_eq hl, if_neg hopen, hb, Option.all_some, beq_iff_eq]

theorem confirmClear_bad (h : 8 ≤ lane.toNat) : confirmClear lane s = refuse .badArgument s := by
  simp only [confirmClear, finOf_ge h]

theorem confirmClear_wrongState (hl : lane.toNat = l.val) (h : s.lanes[l].state ≠ .closed) :
    confirmClear lane s = refuse .wrongState s := by
  simp only [confirmClear, finOf_eq hl, if_neg h]

theorem confirmClear_closed (hl : lane.toNat = l.val) (h : s.lanes[l].state = .closed) :
    confirmClear lane s = okay (setCleared l s) := by
  simp only [confirmClear, finOf_eq hl, if_pos h]

end commands

theorem setCleared_waits (hb : s.lanes[l].bundle = some b) (hdone : b.labelDone = false) :
    setCleared l s = putLane l { s.lanes[l] with bundle := some { b with cleared := true } } s := by
  rw [setCleared_eq hb, if_neg (ne_true_of_eq_false hdone)]
  rfl

theorem setCleared_retires (hb : s.lanes[l].bundle = some b) (hdone : b.labelDone = true) :
    setCleared l s =
      if s.lanes[l].enabled then openBundle l (putLane l { s.lanes[l] with bundle := none } s)
      else putLane l { s.lanes[l] with bundle := none, state := .disabled } s := by
  rw [setCleared_eq hb, if_pos hdone]
  exact retireBundle_set l s _

theorem bundleCommands : Claims.BundleCommands := by
  intro x lane s hs
  refine ⟨fun hbad => ⟨fixedCommand_answers hs rfl (forceClose_bad hbad),
    fixedCommand_answers hs rfl (confirmClear_bad hbad)⟩, fun l hl => ⟨fun hstate => ?wrongForce, fun hstate => ?wrongClear,
    fun b hb => ⟨fun hkind hopen => ?force, fun hclosed => ?clear⟩⟩⟩
  case wrongForce => exact fixedCommand_answers hs rfl (forceClose_wrongState hl hstate)
  case wrongClear => exact fixedCommand_answers hs rfl (confirmClear_wrongState hl hstate)
  case force =>
    have hrun := forceClose_open (s := s.taken x 0x41 [lane]) hl hkind hopen hb
    split
    · next hempty => exact fixedCommand_answers hs rfl (hrun.trans (if_pos hempty))
    · next hstrips => exact fixedCommand_responds hs rfl (hrun.trans (if_neg hstrips))
  case clear =>
    have hrun := confirmClear_closed (s := s.taken x 0x43 [lane]) hl hclosed
    split
    · next hdone =>
      exact fixedCommand_answers hs rfl (hrun.trans (congrArg okay (setCleared_waits hb hdone)))
    · next hdone =>
      have hretires := setCleared_retires (s := s.taken x 0x43 [lane]) hb (eq_true_of_ne_false hdone)
      split
      · next hoff =>
        exact fixedCommand_answers hs rfl
          (hrun.trans (congrArg okay (hretires.trans (if_neg (ne_true_of_eq_false hoff)))))
      · next hon =>
        exact fixedCommand_answers hs rfl (hrun.trans (congrArg okay (hretires.trans (if_pos (eq_true_of_ne_false hon)))))

/-! ### DROP_WATCH_EXPIRY (R143) -/

theorem watchDue_nil (h : s.lanes[l].watch = []) : ¬ watchDue l s = true := by
  simp only [watchDue, h]
  exact Bool.false_ne_true

theorem watchDue_cons {w : Watch} {rest : List Watch} (h : s.lanes[l].watch = w :: rest) :
    watchDue l s = true ↔ getPar s .dropConfirmMs < (s.ms - w.fireTime).toNat := by
  simp only [watchDue, h, watchAge]
  exact decide_eq_true_iff

theorem exec_dropWatchExpiry_due (hreset : s.resetHeld = false) (h : watchDue l s = true) :
    exec (.dropWatchExpiry l) s = .next (expireWatch l s) := by
  simp [exec, execDropWatchExpiry, hreset, h]

theorem exec_dropWatchExpiry_early (h : ¬ watchDue l s = true) : exec (.dropWatchExpiry l) s = .next s := by
  simp [exec, execDropWatchExpiry, h]

theorem dropWatch : Claims.DropWatch := by
  intro l s hreset
  refine ⟨fun hempty => exec_dropWatchExpiry_early (watchDue_nil hempty), fun w rest hwatch => ⟨fun hyoung => ?_,
    fun hold => ⟨_, exec_dropWatchExpiry_due hreset ((watchDue_cons hwatch).2 hold), expireWatch_frame l s, ?_,
      fun k hk => ?_, ?_, fun b hb => ?_, fun b hb hw hclosed label => expireWatch_label hwatch hb hw hclosed⟩⟩⟩
  · exact exec_dropWatchExpiry_early fun hdue => Nat.not_lt.2 hyoung ((watchDue_cons hwatch).1 hdue)
  · rw [expireWatch_watch, hwatch, List.tail_cons]
  · rw [expireWatch_lanes hwatch, putLane_other hk]
  · exact expireWatch_flag (by rw [hwatch]; exact List.cons_ne_nil w rest)
  · rw [expireWatch_lanes hwatch, putLane_lane, expiredLane, hb]
    rfl

/-! ### LABEL_DONE handed over (R145, R146) -/

theorem bundleTest_waits (hb : s.lanes[l].bundle = some b) (h : (b.labelDone && b.cleared) = false) :
    bundleTest l s = s := by
  simp only [bundleTest, hb, h, Bool.false_eq_true, if_false]

theorem bundleTest_retires (hb : s.lanes[l].bundle = some b) (h : (b.labelDone && b.cleared) = true) :
    bundleTest l s = retireBundle l s := by
  simp only [bundleTest, hb, h, if_true]

theorem handLabelDone_none (hb : s.lanes[l].bundle = none) : handLabelDone l s = s := by
  rw [handLabelDone, updateBundle_none hb]
  simp only [bundleTest, hb]

theorem handLabelDone_waits (hb : s.lanes[l].bundle = some b) (hcleared : b.cleared = false) :
    handLabelDone l s = putLane l { s.lanes[l] with bundle := some { b with labelDone := true } } s := by
  have hlane : (putLane l { s.lanes[l] with bundle := some { b with labelDone := true } } s).lanes[l].bundle =
      some { b with labelDone := true } := by rw [putLane_lane]
  rw [handLabelDone, updateBundle_some hb, bundleTest_waits hlane (by simp [hcleared])]

theorem handLabelDone_retires (hb : s.lanes[l].bundle = some b) (hcleared : b.cleared = true) :
    handLabelDone l s =
      if s.lanes[l].enabled then openBundle l (putLane l { s.lanes[l] with bundle := none } s)
      else putLane l { s.lanes[l] with bundle := none, state := .disabled } s := by
  have hlane : (putLane l { s.lanes[l] with bundle := some { b with labelDone := true } } s).lanes[l].bundle =
      some { b with labelDone := true } := by rw [putLane_lane]
  rw [handLabelDone, updateBundle_some hb, bundleTest_retires hlane (by simp [hcleared])]
  exact retireBundle_set l s _

theorem labelDoneIsHandedOver : Claims.LabelDoneIsHandedOver := by
  intro l s
  refine ⟨handLabelDone_none, fun b hb => ⟨handLabelDone_waits hb, fun hcleared hoff => ?_, fun hcleared hon => ?_⟩⟩
  · exact (handLabelDone_retires hb hcleared).trans (if_neg (ne_true_of_eq_false hoff))
  · exact (handLabelDone_retires hb hcleared).trans (if_pos hon)

end Sys2Proof.Machine

section

open Sys2Proof Sys2Proof.Machine

/-- Settles O45: the opening by the offer of numbers, the closing step by step, the commands and the hand-over by the
flags of the bundle, the drop watch by the age of its oldest entry. -/
theorem bundlesOpenCloseAndRetire : Obligations.BundlesOpenCloseAndRetire :=
  ⟨freshBundle_opens, closingSteps, bundleCommands, dropWatch, labelDoneIsHandedOver⟩

end

/-! PROOFS. The commit of a strip to a lane (R135 to R137, R141): the count, the retirement, the drop watch entry, and on a
BUNDLE lane the closure test. -/

namespace Sys2Proof.Machine

open Sys2Proof

set_option Elab.async false

variable {s : State} {l k : Fin 8} {r : Strip} {b : Bundle}

/-! ### The drop watch entry (R141) -/

/-- A drop watch list with an entry more, a fifth displacing the oldest (R141). -/
def pushed (w : Watch) (watch : List Watch) : List Watch := (if 4 ≤ watch.length then watch.tail else watch) ++ [w]

theorem appendWatch_full (h : 4 ≤ s.lanes[l].watch.length) (w : Watch) :
    appendWatch l w s = updateLane l (fun r => { r with watch := r.watch ++ [w] }) (expireWatch l s) :=
  congrArg (updateLane l _) (if_pos h)

theorem appendWatch_room (h : ¬ 4 ≤ s.lanes[l].watch.length) (w : Watch) :
    appendWatch l w s = updateLane l (fun r => { r with watch := r.watch ++ [w] }) s :=
  congrArg (updateLane l _) (if_neg h)

/-- An entry is appended; an entry displaced by it may mark the lane's bundle DOUBTFUL (R141, R143). -/
theorem appendWatch_lanes (l : Fin 8) (w : Watch) (s : State) :
    ∃ n : Option Nat, (appendWatch l w s).lanes =
      (putLane l { s.lanes[l] with watch := pushed w s.lanes[l].watch, bundle := s.lanes[l].bundle.map (doubted n) }
        s).lanes := by
  by_cases hfull : 4 ≤ s.lanes[l].watch.length
  · obtain ⟨old, rest, hwatch⟩ := List.exists_cons_of_length_pos (Nat.lt_of_lt_of_le (by decide) hfull)
    have hlane : (expireWatch l s).lanes[l] = expiredLane old rest s.lanes[l] := by
      rw [expireWatch_lanes hwatch, putLane_lane]
    have hpushed : pushed w s.lanes[l].watch = rest ++ [w] := by rw [pushed, if_pos hfull, hwatch, List.tail_cons]
    refine ⟨old.bundle, ?_⟩
    rw [appendWatch_full hfull, updateLane_eq, hlane, hpushed]
    simp only [putLane, expireWatch_lanes hwatch, Vector.set_set, expiredLane]
  · have hsame : s.lanes[l].bundle.map (doubted none) = s.lanes[l].bundle := by
      rw [funext doubted_none]; exact Option.map_id'
    have hpushed : pushed w s.lanes[l].watch = s.lanes[l].watch ++ [w] := by rw [pushed, if_neg hfull]
    refine ⟨none, ?_⟩
    rw [appendWatch_room hfull, updateLane_eq, hpushed, hsame]

theorem appendWatch_events_room (h : ¬ 4 ≤ s.lanes[l].watch.length) (w : Watch) :
    (appendWatch l w s).events = s.events := by
  rw [appendWatch_room h]
  rfl

theorem appendWatch_flag_full (h : 4 ≤ s.lanes[l].watch.length) (w : Watch) :
    (appendWatch l w s).events[eventIdx .missedDrop].flag = true := by
  rw [appendWatch_full h]
  exact expireWatch_flag (List.length_pos_iff.1 (Nat.lt_of_lt_of_le (by decide) h))

theorem appendWatch_labels_none (hb : s.lanes[l].bundle = none) (w : Watch) :
    (appendWatch l w s).labels = s.labels := by
  by_cases hfull : 4 ≤ s.lanes[l].watch.length
  · rw [appendWatch_full hfull]
    exact expireWatch_labels_none hb
  · rw [appendWatch_room hfull]
    rfl

/-! ### The state in which the closure test is made (R135 steps 1 to 3) -/

/-- The state after steps 1 and 2 of a commit. -/
def countedAndRetired (l : Fin 8) (r : Strip) (s : State) : State := retireCore r.ticket (countStrip l r s)

/-- The state after steps 1 to 3 of a commit. -/
def committed (l : Fin 8) (r : Strip) (s : State) : State :=
  appendWatch l (commitWatch l (countedAndRetired l r s)) (countedAndRetired l r s)

theorem commitStrip_eq (l : Fin 8) (r : Strip) (s : State) :
    commitStrip l r s =
      if (committed l r s).lanes[l].kind = .bundle then closureTest l (committed l r s) else committed l r s := rfl

theorem commitStrip_bundle (h : (committed l r s).lanes[l].kind = .bundle) :
    commitStrip l r s = closureTest l (committed l r s) := (commitStrip_eq l r s).trans (if_pos h)

theorem commitStrip_bin (h : (committed l r s).lanes[l].kind ≠ .bundle) : commitStrip l r s = committed l r s :=
  (commitStrip_eq l r s).trans (if_neg h)

theorem committed_forgets (l : Fin 8) (r : Strip) (s : State) : (committed l r s).Forgets r.ticket :=
  (retireCore_dropped r.ticket (countStrip l r s)).1.fades (appendWatch_fades l _ _)

theorem commitStrip_forgets (l : Fin 8) (r : Strip) (s : State) : (commitStrip l r s).Forgets r.ticket := by
  rw [commitStrip_eq]
  split
  · exact (committed_forgets l r s).fades (closureTest_fades l _)
  · exact committed_forgets l r s

theorem State.Forgets.findStrip {n : Nat} (h : s.Forgets n) : findStrip n s = none := by
  simpa [Machine.findStrip, List.find?_eq_none] using h.strips

/-- A strip counted into a lane (R135 step 1). -/
def countedLane (r : Strip) (lane : Lane) : Lane :=
  if lane.kind = .bundle then { lane with bundle := lane.bundle.map (addToBundle r) }
  else { lane with binCount := min 65535 (lane.binCount + 1) }

theorem countStrip_eq (l : Fin 8) (r : Strip) (s : State) :
    countStrip l r s = putLane l (countedLane r s.lanes[l]) s := by
  unfold countStrip countedLane
  split <;> rfl

theorem countedAndRetired_lanes (l : Fin 8) (r : Strip) (s : State) :
    (countedAndRetired l r s).lanes = (putLane l (countedLane r s.lanes[l]) s).lanes := by
  rw [countedAndRetired, retireCore_lanes, countStrip_eq]

theorem countedAndRetired_lane (l : Fin 8) (r : Strip) (s : State) :
    (countedAndRetired l r s).lanes[l] = countedLane r s.lanes[l] := by
  rw [countedAndRetired_lanes, putLane_lane]

theorem countedAndRetired_ms (l : Fin 8) (r : Strip) (s : State) : (countedAndRetired l r s).ms = s.ms :=
  ((countStrip_frame l r s).trans (retireCore_frame r.ticket _)).ms

theorem countedAndRetired_events (l : Fin 8) (r : Strip) (s : State) : (countedAndRetired l r s).events = s.events := by
  rw [countedAndRetired, retireCore_events, countStrip_eq]
  rfl

theorem countedAndRetired_labels (l : Fin 8) (r : Strip) (s : State) : (countedAndRetired l r s).labels = s.labels := by
  rw [countedAndRetired, retireCore_labels, countStrip_eq]
  rfl

theorem committed_lanes (l : Fin 8) (r : Strip) (s : State) :
    ∃ n : Option Nat, (committed l r s).lanes =
      (putLane l { countedLane r s.lanes[l] with
        watch := pushed (commitWatch l (countedAndRetired l r s)) (countedLane r s.lanes[l]).watch
        bundle := (countedLane r s.lanes[l]).bundle.map (doubted n) } s).lanes := by
  obtain ⟨n, hlanes⟩ := appendWatch_lanes l (commitWatch l (countedAndRetired l r s)) (countedAndRetired l r s)
  rw [countedAndRetired_lane] at hlanes
  refine ⟨n, hlanes.trans ?_⟩
  simp only [putLane, countedAndRetired_lanes, Vector.set_set]

/-! ### A commit to a BUNDLE lane (R136, R137) -/

/-- The CLOSE_REASON that the closure test gives, none where it leaves the bundle open (R137). -/
def closureOf (maxStrips : Nat) (b : Bundle) : Option CloseReason :=
  if b.targetCopy * 100 ≤ b.coverage then some .target else if maxStrips ≤ b.count then some .count else none

theorem closureTest_eq (hb : s.lanes[l].bundle = some b) :
    closureTest l s =
      match closureOf s.lanes[l].maxStrips b with
      | some why => closeBundle l why s
      | none => s := by
  unfold closureTest closureOf
  rw [hb]
  dsimp only
  split_ifs <;> rfl

/-- A lane after the closure test (R137). -/
def testedLane (b : Bundle) (r : Lane) : Lane :=
  match closureOf r.maxStrips b with
  | some why => closedLane why b r
  | none => r

theorem closureTest_lane (hb : s.lanes[l].bundle = some b) : (closureTest l s).lanes[l] = testedLane b s.lanes[l] := by
  rw [closureTest_eq hb, testedLane]
  cases closureOf s.lanes[l].maxStrips b with
  | none => rfl
  | some why => dsimp only; rw [closeBundle_lanes hb, putLane_lane]

theorem closureOf_isSome (maxStrips : Nat) (b : Bundle) :
    (closureOf maxStrips b).isSome ↔ b.targetCopy * 100 ≤ b.coverage ∨ maxStrips ≤ b.count := by
  unfold closureOf
  split_ifs with hfull hmany <;> simp [*]

theorem testedLane_watch (b : Bundle) (r : Lane) : (testedLane b r).watch = r.watch := by
  unfold testedLane
  split <;> rfl

theorem testedLane_state (b : Bundle) (r : Lane) :
    (testedLane b r).state =
      if b.targetCopy * 100 ≤ b.coverage ∨ r.maxStrips ≤ b.count then .closed else r.state := by
  simp only [← closureOf_isSome, testedLane]
  cases closureOf r.maxStrips b <;> rfl

theorem testedLane_bundle {r : Lane} (hb : r.bundle = some b) :
    (testedLane b r).bundle = some { b with
      closeReason := if b.targetCopy * 100 ≤ b.coverage then some .target
        else if r.maxStrips ≤ b.count then some .count else b.closeReason } := by
  unfold testedLane closureOf
  split_ifs
  · rfl
  · rfl
  · exact hb

/-- One strip more under its saw, and under no other (R136). -/
theorem addToBundle_histogram (r : Strip) (b : Bundle) (i : Fin 16) :
    (addToBundle r b).histogram[i] = b.histogram[i] + if r.saw = some i then 1 else 0 := by
  cases hsaw : r.saw with
  | none => simp [addToBundle, hsaw]
  | some j =>
    simp only [addToBundle, hsaw, modifyAt_get, Option.some.injEq, eq_comm (a := j)]
    split <;> rfl

theorem bundleCommits : Claims.BundleCommits := by
  intro l r s b hkind hb u area full many watch
  have hcounted : countedLane r s.lanes[l] = { s.lanes[l] with bundle := some (addToBundle r b) } := by
    rw [countedLane, if_pos hkind, hb]
    rfl
  have hentry : commitWatch l (countedAndRetired l r s) = { fireTime := s.ms, bundle := some b.number } := by
    simp only [commitWatch, countedAndRetired_lane, countedAndRetired_ms, hcounted, hkind, if_true]
    rfl
  obtain ⟨n, hlanes⟩ := committed_lanes l r s
  have hlane : (committed l r s).lanes[l] = { s.lanes[l] with
      watch := pushed { fireTime := s.ms, bundle := some b.number } watch
      bundle := some (doubted n (addToBundle r b)) } := by
    rw [hlanes, putLane_lane, hentry, hcounted]
    rfl
  have hkept : (committed l r s).lanes[l].kind = .bundle := by rw [hlane]; exact hkind
  have hheld : (committed l r s).lanes[l].bundle = some (doubted n (addToBundle r b)) := by rw [hlane]
  have htested : u.lanes[l] = testedLane (doubted n (addToBundle r b)) (committed l r s).lanes[l] := by
    rw [← closureTest_lane hheld, ← commitStrip_bundle hkept]
  refine ⟨commitStrip_frame l r s, (commitStrip_forgets l r s).findStrip, ?_, ?_, _,
    (congrArg Lane.bundle htested).trans (testedLane_bundle hheld), rfl, rfl, rfl, rfl, rfl, fun hfirst => ?_,
    fun hlater => ?_, addToBundle_histogram r b, ?_⟩
  · rw [htested, testedLane_watch, hlane]
    rfl
  · rw [htested, testedLane_state, hlane]
    rfl
  · exact ⟨if_pos hfirst, if_pos hfirst, if_pos hfirst⟩
  · exact ⟨if_neg hlater, if_neg hlater, if_neg hlater⟩
  · rw [hlane]
    rfl

/-! ### A commit to a bin (R135, R141) -/

theorem binCommits : Claims.BinCommits := by
  intro l r s hkind u lane
  have hbin : lane.kind ≠ .bundle := fun hbundle => by
    rcases hkind with h | h <;> cases h.symm.trans hbundle
  have hcounted : countedLane r lane = { lane with binCount := min 65535 (lane.binCount + 1) } := if_neg hbin
  have hentry : commitWatch l (countedAndRetired l r s) = { fireTime := s.ms, bundle := none } := by
    simp only [commitWatch, countedAndRetired_lane, countedAndRetired_ms]
    rw [hcounted, if_neg hbin]
  obtain ⟨n, hlanes⟩ := committed_lanes l r s
  rw [hentry, hcounted] at hlanes
  have hu : u = committed l r s := by
    refine commitStrip_bin ?_
    rw [hlanes, putLane_lane]
    exact hbin
  have hwatch : (countedAndRetired l r s).lanes[l].watch = lane.watch := by
    rw [countedAndRetired_lane, hcounted]
  refine ⟨commitStrip_frame l r s, (commitStrip_forgets l r s).findStrip, fun k hk => ?_,
    ⟨lane.bundle.map (doubted n), ?_, fun hnone => ⟨by rw [hnone]; rfl, ?_⟩⟩, fun hfull => ?_, fun hroom => ?_⟩
  · rw [hu, hlanes, putLane_other hk]
  · rw [hu, hlanes, putLane_lane]
    rfl
  · have hgone : (countedAndRetired l r s).lanes[l].bundle = none := by
      rw [countedAndRetired_lane, hcounted]
      exact hnone
    rw [hu, committed, appendWatch_labels_none hgone, countedAndRetired_labels]
  · rw [hu]
    exact appendWatch_flag_full (hwatch ▸ hfull) _
  · rw [hu, committed, appendWatch_events_room (hwatch ▸ Nat.not_le.2 hroom), countedAndRetired_events]

end Sys2Proof.Machine

section

open Sys2Proof Sys2Proof.Machine

/-- Settles O44: a commit by its steps, to a bundle and to a bin. -/
theorem commitsAreCounted : Obligations.CommitsAreCounted := ⟨bundleCommits, binCommits⟩

end

/-! PROOFS. The stream of a label (R154, R155, R213): the run compressor run by run, and the number of entries field by
field. -/

namespace Sys2Proof.Machine

open Sys2Proof

set_option Elab.async false

/-! ### The runs of a field (R155) -/

/-- The characters that runs stand for. -/
def charsOf (runs : List (Byte × Nat)) : List Byte := runs.flatMap (fun r => List.replicate r.2 r.1)

/-- The runs lose no character. -/
theorem charsOf_runsOf (chars : List Byte) : charsOf (runsOf chars) = chars := by
  induction chars with
  | nil => rfl
  | cons b bs ih =>
    rw [runsOf]
    cases hruns : runsOf bs with
    | nil =>
      have hbs : bs = [] := by rw [← ih, hruns]; rfl
      rw [hbs]
      rfl
    | cons r rest =>
      obtain ⟨c, n⟩ := r
      rw [hruns] at ih
      dsimp only
      split
      · next hbc => rw [hbc, ← ih]; rfl
      · rw [← ih]; rfl

/-! ### What the printer makes of the entries of a run (R155, R213) -/

theorem runCommand_toNat {n : Nat} (h : n ≤ 32) : (BitVec.ofNat 8 (0x40 + n)).toNat = 0x40 + n := by
  rw [BitVec.toNat_ofNat]; omega

theorem expandRuns_data (c : Byte) (rest : List Entry) : expandRuns (dataEntry c :: rest) = c :: expandRuns rest := by
  cases rest <;> rfl

theorem expandRuns_plain (n : Nat) (c : Byte) (rest : List Entry) :
    expandRuns (List.replicate n (dataEntry c) ++ rest) = List.replicate n c ++ expandRuns rest := by
  induction n with
  | zero => rfl
  | succ n ih => rw [List.replicate_succ, List.cons_append, expandRuns_data, ih, List.replicate_succ, List.cons_append]

/-- A RUN command repeats the character of the DATA entry behind it. -/
theorem expandRuns_run {n : Nat} (h : n ≤ 32) (c : Byte) (rest : List Entry) :
    expandRuns (commandEntry (BitVec.ofNat 8 (0x40 + n)) :: dataEntry c :: rest) =
      List.replicate n c ++ expandRuns rest := by
  have hcount : (BitVec.ofNat 8 (0x40 + n)).toNat - 0x40 = n := by rw [runCommand_toNat h]; omega
  change List.replicate ((BitVec.ofNat 8 (0x40 + n)).toNat - 0x40) c ++ expandRuns rest = _
  rw [hcount]

/-- The entries of a run stand for the run, whatever follows them. -/
theorem expandRuns_emitRun (fuel : Nat) (c : Byte) (n : Nat) (h : n < fuel) (rest : List Entry) :
    expandRuns (emitRun fuel c n ++ rest) = List.replicate n c ++ expandRuns rest := by
  fun_induction emitRun fuel c n with
  | case1 => omega
  | case2 fuel c n hplain => exact expandRuns_plain n c rest
  | case3 fuel c n _ hrun => exact expandRuns_run hrun c rest
  | case4 fuel c n _ hlong ih =>
    have hsplit : List.replicate n c = List.replicate 32 c ++ List.replicate (n - 32) c := by
      rw [List.replicate_append_replicate, Nat.add_sub_cancel' (by omega)]
    rw [hsplit, List.append_assoc, ← ih (by omega)]
    exact expandRuns_run (Nat.le_refl 32) c _

theorem emitRun_length (fuel : Nat) (c : Byte) (n : Nat) : (emitRun fuel c n).length ≤ n := by
  fun_induction emitRun fuel c n with
  | case1 => exact Nat.zero_le _
  | case2 => exact (List.length_replicate ..).le
  | case3 => simp only [List.length_cons, List.length_nil]; omega
  | case4 fuel c n _ hlong ih => simp only [List.length_cons]; omega

/-- Every RUN command carries 3 to 32. -/
theorem emitRun_command (fuel : Nat) (c : Byte) (n : Nat) {e : Entry} (he : e ∈ emitRun fuel c n)
    (hcommand : e.command = true) : 0x43 ≤ e.byte.toNat ∧ e.byte.toNat ≤ 0x60 := by
  fun_induction emitRun fuel c n with
  | case1 => cases he
  | case2 fuel c n hplain =>
    rw [List.eq_of_mem_replicate he] at hcommand
    cases hcommand
  | case3 fuel c n hmore hrun =>
    rcases List.mem_pair.1 he with rfl | rfl
    · have hbyte : (commandEntry (BitVec.ofNat 8 (0x40 + n))).byte.toNat = 0x40 + n := runCommand_toNat hrun
      omega
    · cases hcommand
  | case4 fuel c n _ hlong ih =>
    rcases List.mem_cons.1 he with rfl | he
    · decide
    · rcases List.mem_cons.1 he with rfl | he
      · cases hcommand
      · exact ih he

/-! ### The compressor (R155) -/

/-- The entries of a list of runs. -/
def emitRuns (runs : List (Byte × Nat)) : List Entry := runs.flatMap (fun r => emitRun (r.2 + 1) r.1 r.2)

theorem compress_eq (chars : List Byte) : compress chars = emitRuns (runsOf chars) := rfl

theorem expandRuns_emitRuns (runs : List (Byte × Nat)) : expandRuns (emitRuns runs) = charsOf runs := by
  induction runs with
  | nil => rfl
  | cons r rest ih =>
    calc expandRuns (emitRun (r.2 + 1) r.1 r.2 ++ emitRuns rest)
        = List.replicate r.2 r.1 ++ expandRuns (emitRuns rest) :=
          expandRuns_emitRun (r.2 + 1) r.1 r.2 (Nat.lt_succ_self _) (emitRuns rest)
      _ = charsOf (r :: rest) := by rw [ih]; rfl

theorem emitRuns_length (runs : List (Byte × Nat)) : (emitRuns runs).length ≤ (charsOf runs).length := by
  induction runs with
  | nil => exact Nat.le_refl 0
  | cons r rest ih =>
    have hrun := emitRun_length (r.2 + 1) r.1 r.2
    simp only [emitRuns, charsOf, List.flatMap_cons, List.length_append, List.length_replicate] at ih ⊢
    omega

theorem compress_length (chars : List Byte) : (compress chars).length ≤ chars.length := by
  have h := emitRuns_length (runsOf chars)
  rwa [charsOf_runsOf] at h

theorem runCompressor : Claims.RunCompressor := by
  intro chars
  refine ⟨?_, compress_length chars, fun e he hcommand => ?_⟩
  · rw [compress_eq, expandRuns_emitRuns, charsOf_runsOf]
  · obtain ⟨r, _, hr⟩ := List.mem_flatMap.1 he
    exact emitRun_command _ _ _ hr hcommand

/-! ### The fields of a stream (R154) -/

@[simp] theorem digits_length (width n : Nat) : (digits width n).length = width := by
  induction width generalizing n with
  | zero => rfl
  | succ w ih => rw [digits, List.length_append, ih, List.length_singleton]

theorem fieldEntries_length (code : Byte) (chars : List Byte) :
    (fieldEntries code chars).length ≤ chars.length + 1 := Nat.succ_le_succ (compress_length chars)

/-- A LENGTHS pair: its FIELD command and seven digits. -/
def pairField (p : Nat × Nat) : List Entry := fieldEntries 0x18 (digits 4 p.1 ++ digits 3 p.2)

theorem pairFields_length (pairs : List (Nat × Nat)) : (pairs.flatMap pairField).length ≤ 8 * pairs.length := by
  induction pairs with
  | nil => exact Nat.le_refl 0
  | cons p rest ih =>
    have hpair := fieldEntries_length 0x18 (digits 4 p.1 ++ digits 3 p.2)
    simp only [List.length_append, digits_length] at hpair
    simp only [List.flatMap_cons, List.length_append, List.length_cons, pairField] at ih ⊢
    omega

/-- The fields of a stream before its LENGTHS pairs. -/
def fieldsBefore (b : Label) : List Entry :=
  fieldEntries 0x11 (digits 5 b.number) ++ fieldEntries 0x12 (digits 5 b.lot) ++ fieldEntries 0x13 (digits 2 b.species)
    ++ fieldEntries 0x14 (digits 1 (b.grade.val + 1)) ++ fieldEntries 0x15 (digits 3 b.width)
    ++ fieldEntries 0x16 (digits 3 b.count)
    ++ fieldEntries 0x17 (digits 5 (b.coverage / 1000) ++ 0x2E :: digits 3 b.coverage)

/-- The DOUBTFUL field and the CLOSE_REASON field. -/
def fieldsBehind (b : Label) (doubtful : Bool) : List Entry :=
  fieldEntries 0x19 (digits 1 (if doubtful then 1 else 0)) ++ fieldEntries 0x1A (digits 1 (reasonDigit b.closeReason))

theorem streamOf_eq (b : Label) (doubtful : Bool) :
    streamOf b doubtful =
      startLabel :: (fieldsBefore b ++ b.lengths.flatMap pairField ++ fieldsBehind b doubtful) ++ [endLabel] := by
  simp only [streamOf, fieldsBefore, fieldsBehind, List.append_assoc, List.cons_append]
  rfl

theorem fieldsBefore_length (b : Label) : (fieldsBefore b).length ≤ 35 := by
  have hnumber := fieldEntries_length 0x11 (digits 5 b.number)
  have hlot := fieldEntries_length 0x12 (digits 5 b.lot)
  have hspecies := fieldEntries_length 0x13 (digits 2 b.species)
  have hgrade := fieldEntries_length 0x14 (digits 1 (b.grade.val + 1))
  have hwidth := fieldEntries_length 0x15 (digits 3 b.width)
  have hcount := fieldEntries_length 0x16 (digits 3 b.count)
  have hcoverage := fieldEntries_length 0x17 (digits 5 (b.coverage / 1000) ++ 0x2E :: digits 3 b.coverage)
  simp only [List.length_append, List.length_cons, digits_length] at *
  simp only [fieldsBefore, List.length_append]
  omega

theorem fieldsBehind_length (b : Label) (doubtful : Bool) : (fieldsBehind b doubtful).length ≤ 4 := by
  have hdoubtful := fieldEntries_length 0x19 (digits 1 (if doubtful then 1 else 0))
  have hreason := fieldEntries_length 0x1A (digits 1 (reasonDigit b.closeReason))
  simp only [digits_length] at hdoubtful hreason
  simp only [fieldsBehind, List.length_append]
  omega

theorem streamLength : Claims.StreamLength := by
  intro b doubtful hpairs
  refine ⟨?_, rfl, ?_⟩
  · have hbefore := fieldsBefore_length b
    have hlengths := pairFields_length b.lengths
    have hbehind := fieldsBehind_length b doubtful
    simp only [streamOf_eq, List.length_append, List.length_cons, List.length_nil]
    omega
  · rw [streamOf_eq, List.getLast?_concat]
    rfl

end Sys2Proof.Machine

section

open Sys2Proof Sys2Proof.Machine

/-- Settles O47: the compressor run by run, by the recursion of `emitRun`; the stream field by field. -/
theorem labelStreams : Obligations.LabelStreams := ⟨runCompressor, streamLength⟩

end

/-! PROOFS. What the operations on the Dispatch Port leave: the strobe test and the start of the handshake change the
port alone, the fill of the FIFO takes the entries of the current label's stream in their order (R156, R159). -/

namespace Sys2Proof.Machine

open Sys2Proof

set_option Elab.async false

variable {s t u : State} {e : Entry} {rest : List Entry} {b : Label} {l : Fin 8}

/-! ### The strobe test and the start of the handshake (R159) -/

theorem strobeTest_idle (h : s.port.handshake ≠ .readyWait) : strobeTest s = s := by
  unfold strobeTest
  split
  · next hready _ => exact absurd hready h
  · rfl

theorem strobeTest_head (hready : s.port.handshake = .readyWait) (hhead : s.port.fifo = e :: rest) :
    strobeTest s = if s.port.pbusy = true ∨ s.port.pfault = true then s else issueStrobe e s := by
  simp only [strobeTest, hready, hhead, Bool.or_eq_true]

/-- The handshake of a FIFO whose head is to be strobed or waits (R159). -/
theorem strobeTest_handshake (hready : s.port.handshake = .readyWait) (hhead : s.port.fifo = e :: rest) :
    (strobeTest s).port.handshake = if s.port.pbusy || s.port.pfault then .readyWait else .strobe := by
  simp only [strobeTest, hready, hhead]
  split
  · exact hready
  · rfl

/-- The strobe test drives pins and starts timers; the FIFO and all else stand. -/
theorem strobeTest_eq (s : State) :
    ∃ p : Port, p.fifo = s.port.fifo ∧ strobeTest s = { s with port := p } := by
  unfold strobeTest
  split
  · split
    · exact ⟨s.port, rfl, rfl⟩
    · exact ⟨(issueStrobe _ s).port, rfl, rfl⟩
  · exact ⟨s.port, rfl, rfl⟩

theorem startHandshake_head (hidle : s.port.handshake = .idle) (hhead : s.port.fifo = e :: rest)
    (hmode : s.port.mode ≠ .off) :
    startHandshake s = strobeTest { s with port := { s.port with handshake := .readyWait } } :=
  if_pos ⟨hidle, by rw [hhead]; exact List.cons_ne_nil e rest, hmode⟩

/-- An idle handshake on a head either strobes it or waits (R159). -/
theorem startHandshake_handshake (hidle : s.port.handshake = .idle) (hhead : s.port.fifo = e :: rest)
    (hmode : s.port.mode ≠ .off) :
    (startHandshake s).port.handshake = if s.port.pbusy || s.port.pfault then .readyWait else .strobe := by
  rw [startHandshake_head hidle hhead hmode]
  exact strobeTest_handshake rfl hhead

theorem startHandshake_eq (s : State) :
    ∃ p : Port, p.fifo = s.port.fifo ∧ startHandshake s = { s with port := p } := by
  unfold startHandshake
  split
  · obtain ⟨p, hfifo, hp⟩ := strobeTest_eq { s with port := { s.port with handshake := .readyWait } }
    exact ⟨p, hfifo, hp⟩
  · exact ⟨s.port, rfl, rfl⟩

/-! ### The fill of the FIFO (R156) -/

/-- The FIFO holds the first `composed` entries of the current label's stream, none having left it, and the DOUBTFUL
value that is latched, if one is, is the label's (R156). -/
structure Feeds (b : Label) (s : State) : Prop where
  current : s.composing = some b.lane
  label   : labelOf b.lane s = some b
  latch   : s.doubtLatch.getD b.doubtful = b.doubtful
  fifo    : s.port.fifo = (streamOf b b.doubtful).take s.composed
  within  : s.composed ≤ (streamOf b b.doubtful).length

theorem Feeds.fifo_length (h : Feeds b s) : s.port.fifo.length = s.composed := by
  rw [h.fifo, List.length_take, Nat.min_eq_left h.within]

theorem Feeds.nextEntry (h : Feeds b s) :
    Machine.nextEntry s = (streamOf b b.doubtful)[s.composed]?.map (fun e => (e, b)) := by
  have hlabel : s.composing.bind (fun l => labelOf l s) = some b := by rw [h.current]; exact h.label
  simp only [Machine.nextEntry, hlabel, h.latch]

/-- The next entry of the stream enters a FIFO with room for it. -/
theorem Feeds.fillOne_next (h : Feeds b s) (hroom : s.composed < 32)
    (hmore : s.composed < (streamOf b b.doubtful).length) :
    Feeds b (fillOne s) ∧ (fillOne s).composed = s.composed + 1 := by
  have hcapacity : s.port.fifo.length < Config.fifoCapacity := h.fifo_length.trans_lt hroom
  have hnext : Machine.nextEntry s = some ((streamOf b b.doubtful)[s.composed], b) := by
    rw [h.nextEntry, List.getElem?_eq_getElem hmore, Option.map_some]
  have hlatch : (if (streamOf b b.doubtful)[s.composed] = doubtfulField then some b.doubtful
      else s.doubtLatch).getD b.doubtful = b.doubtful := by
    split
    · rfl
    · exact h.latch
  have hfifo : s.port.fifo ++ [(streamOf b b.doubtful)[s.composed]] =
      (streamOf b b.doubtful).take (s.composed + 1) := by rw [h.fifo, List.take_append_getElem hmore]
  unfold fillOne
  rw [if_pos hcapacity, hnext]
  exact ⟨⟨h.current, h.label, hlatch, hfifo, hmore⟩, rfl⟩

/-- After the last entry of the stream nothing enters. -/
theorem Feeds.fillOne_over (h : Feeds b s) (hover : (streamOf b b.doubtful).length ≤ s.composed) : fillOne s = s := by
  have hnext : Machine.nextEntry s = none := by rw [h.nextEntry, List.getElem?_eq_none hover, Option.map_none]
  simp only [fillOne, hnext, ite_self]

theorem Feeds.fillFifo (n : Nat) (h : Feeds b s) (hroom : s.composed + n ≤ 32) :
    Feeds b (fillFifo n s) ∧ (fillFifo n s).composed = min (s.composed + n) (streamOf b b.doubtful).length := by
  induction n generalizing s with
  | zero => exact ⟨h, (Nat.min_eq_left h.within).symm⟩
  | succ n ih =>
    rw [Machine.fillFifo]
    rcases Nat.lt_or_ge s.composed (streamOf b b.doubtful).length with hmore | hover
    · obtain ⟨hfed, hcomposed⟩ := h.fillOne_next (by omega) hmore
      obtain ⟨hfeeds, hcount⟩ := ih hfed (by omega)
      exact ⟨hfeeds, by rw [hcount, hcomposed, Nat.add_right_comm, Nat.add_assoc]⟩
    · rw [h.fillOne_over hover]
      obtain ⟨hfeeds, hcount⟩ := ih h (by omega)
      exact ⟨hfeeds, by rw [hcount]; omega⟩

/-- The fill leaves the handshake and the pins as they are. -/
theorem fillOne_port (s : State) : (fillOne s).port = { s.port with fifo := (fillOne s).port.fifo } := by
  unfold fillOne
  split
  · split <;> rfl
  · rfl

theorem fillFifo_port (n : Nat) (s : State) :
    (fillFifo n s).port = { s.port with fifo := (fillFifo n s).port.fifo } := by
  induction n generalizing s with
  | zero => rfl
  | succ n ih => rw [fillFifo, ih, fillOne_port]

/-- The fill from an empty FIFO and an idle handshake: the first 32 entries, and the handshake on the head (R156,
R159). -/
theorem compose_fresh (h : Feeds b s) (hstart : s.composed = 0) (hmode : s.port.mode ≠ .off)
    (hidle : s.port.handshake = .idle) :
    (compose s).port.fifo = (streamOf b b.doubtful).take 32 ∧
      (compose s).composed = min 32 (streamOf b b.doubtful).length ∧
      (compose s).port.handshake = if s.port.pbusy || s.port.pfault then .readyWait else .strobe := by
  obtain ⟨hfeeds, hcomposed⟩ := h.fillFifo 32 (by omega)
  have hport := fillFifo_port 32 s
  have hcompose : compose s = startHandshake (fillFifo 32 s) := rfl
  rw [hcompose]
  generalize fillFifo 32 s = t at hfeeds hcomposed hport ⊢
  rw [hstart, Nat.zero_add] at hcomposed
  have hfifo : t.port.fifo = (streamOf b b.doubtful).take 32 := by
    rw [hfeeds.fifo, hcomposed, ← List.take_eq_take_min]
  have hhead : t.port.fifo = startLabel :: (streamOf b b.doubtful).tail.take 31 := hfifo
  have hmode' : t.port.mode ≠ .off := by rw [hport]; exact hmode
  have hidle' : t.port.handshake = .idle := by rw [hport]; exact hidle
  have hlevels : (t.port.pbusy || t.port.pfault) = (s.port.pbusy || s.port.pfault) := by rw [hport]
  obtain ⟨p, hpfifo, hp⟩ := startHandshake_eq t
  refine ⟨?_, ?_, ?_⟩
  · rw [hp]
    exact hpfifo.trans hfifo
  · rw [hp]
    exact hcomposed
  · rw [startHandshake_handshake hidle' hhead hmode', hlevels]

/-! ### The composer test (R153) -/

theorem composerTest_still (h : s.port.mode ≠ .stream ∨ s.composing ≠ none ∨ ∀ b ∈ s.labels, b.state ≠ .queued) :
    composerTest s = s := by
  unfold composerTest
  split
  · next hfree =>
    obtain ⟨hmode, hnone⟩ := hfree
    have hqueued : ∀ b ∈ s.labels, b.state ≠ .queued :=
      (h.resolve_left (not_not_intro hmode)).resolve_left (not_not_intro hnone)
    have hfind : s.labels.find? (fun b => b.state == .queued) = none := by
      simpa [List.find?_eq_none] using hqueued
    rw [hfind]
  · rfl

/-- The state in which the fill with a label's stream begins (R153). -/
def takenUp (b : Label) (s : State) : State :=
  updateLabel b.lane asPrinting { s with composing := some b.lane, composed := 0, doubtLatch := none }

theorem composerTest_takes (hmode : s.port.mode = .stream) (hnone : s.composing = none)
    (hfind : s.labels.find? (fun b => b.state == .queued) = some b) : composerTest s = compose (takenUp b s) := by
  rw [composerTest, if_pos ⟨hmode, hnone⟩, hfind]
  rfl

section oneLabel

variable {older younger : List Label}

/-- A change of the labels of one lane, where one label alone is of that lane. -/
theorem map_lane_middle (f : Label → Label) (holder : ∀ q ∈ older, q.lane ≠ b.lane)
    (hyounger : ∀ q ∈ younger, q.lane ≠ b.lane) :
    (older ++ b :: younger).map (fun q => if q.lane = b.lane then f q else q) = older ++ f b :: younger := by
  have hkept {labels : List Label} (h : ∀ q ∈ labels, q.lane ≠ b.lane) :
      labels.map (fun q => if q.lane = b.lane then f q else q) = labels :=
    (List.map_congr_left fun q hq => if_neg (h q hq)).trans (List.map_id labels)
  rw [List.map_append, List.map_cons, hkept holder, hkept hyounger, if_pos rfl]

theorem find?_middle {test : Label → Bool} (holder : ∀ q ∈ older, test q = false) (hb : test b = true) :
    (older ++ b :: younger).find? test = some b := by
  rw [List.find?_append, List.find?_eq_none.2 (by simpa using holder), Option.none_or, List.find?_cons_of_pos hb]

theorem takenUp_labels (hlabels : s.labels = older ++ b :: younger) (holder : ∀ q ∈ older, q.lane ≠ b.lane)
    (hyounger : ∀ q ∈ younger, q.lane ≠ b.lane) : (takenUp b s).labels = older ++ asPrinting b :: younger :=
  (congrArg (List.map _) hlabels).trans (map_lane_middle asPrinting holder hyounger)

/-- With an empty FIFO the label taken up is at the start of its stream (R156). -/
theorem takenUp_feeds (hlabels : s.labels = older ++ b :: younger) (holder : ∀ q ∈ older, q.lane ≠ b.lane)
    (hyounger : ∀ q ∈ younger, q.lane ≠ b.lane) (hempty : s.port.fifo = []) :
    Feeds (asPrinting b) (takenUp b s) where
  current := rfl
  label := by
    rw [labelOf, takenUp_labels hlabels holder hyounger]
    exact find?_middle (fun q hq => beq_eq_false_iff_ne.2 (holder q hq)) (beq_self_eq_true b.lane)
  latch := rfl
  fifo := hempty
  within := Nat.zero_le _

end oneLabel

theorem composer : Claims.Composer := by
  intro s
  refine ⟨composerTest_still, fun older b younger hmode hnone hempty hidle hlabels hqueued holder hyounger => ?_⟩
  intro u
  have hlanes : ∀ q ∈ older, q.lane ≠ b.lane := fun q hq => (holder q hq).2
  have hfind : s.labels.find? (fun b => b.state == .queued) = some b := by
    rw [hlabels]
    exact find?_middle (fun q hq => beq_eq_false_iff_ne.2 (holder q hq).1) (beq_iff_eq.2 hqueued)
  have hu : u = compose (takenUp b s) := composerTest_takes hmode hnone hfind
  have hframe : ComposeFrame (takenUp b s) u := hu ▸ compose_composeFrame (takenUp b s)
  have hon : (takenUp b s).port.mode ≠ .off := ne_of_eq_of_ne (hmode : s.port.mode = .stream) (by decide)
  obtain ⟨hfifo, hcomposed, hhandshake⟩ :=
    compose_fresh (takenUp_feeds hlabels hlanes hyounger hempty) rfl hon hidle
  rw [← hu] at hfifo hcomposed hhandshake
  have hprinting := hframe.labels.trans (takenUp_labels hlabels hlanes hyounger)
  unfold ComposeFrame at hframe
  refine ⟨?_, hprinting, hfifo, hcomposed, hhandshake, ?_⟩
  · rw [hframe]
    rfl
  · rw [hframe]
    rfl

end Sys2Proof.Machine

/-! PROOFS. The commands on labels and on the Dispatch Port: LABEL_RETRY and LABEL_DISCARD (R165, R166), PORT_MODE
(R167) and PORT_WRITE (R168). -/

namespace Sys2Proof.Machine

open Sys2Proof

set_option Elab.async false

variable {s : State} {x : Xfer} {l : Fin 8} {b : Label} {lane mode : Byte} {m : PortMode} {bytes : List Byte}

/-! ### What does not read the Command Port -/

/-- LABEL_DONE is handed over whatever the Command Port holds. -/
theorem handLabelDone_taken (code : Byte) (args : List Byte) (l : Fin 8) (s : State) :
    handLabelDone l (s.taken x code args) = (handLabelDone l s).taken x code args := by
  have hlanes : (s.taken x code args).lanes[l].bundle = s.lanes[l].bundle := rfl
  cases hb : s.lanes[l].bundle with
  | none => rw [handLabelDone_none hb, handLabelDone_none (hlanes.trans hb)]
  | some b =>
    cases hcleared : b.cleared with
    | false => rw [handLabelDone_waits hb hcleared, handLabelDone_waits (hlanes.trans hb) hcleared]; rfl
    | true =>
      have henabled : (s.taken x code args).lanes[l].enabled = s.lanes[l].enabled := rfl
      rw [handLabelDone_retires hb hcleared, handLabelDone_retires (hlanes.trans hb) hcleared, henabled]
      split <;> rfl

theorem strobeTest_taken (code : Byte) (args : List Byte) (s : State) :
    strobeTest (s.taken x code args) = (strobeTest s).taken x code args := by
  have hport : (s.taken x code args).port = s.port := rfl
  unfold strobeTest
  rw [hport]
  split
  · split <;> rfl
  · rfl

/-- The handshake starts whatever the Command Port holds. -/
theorem startHandshake_taken (code : Byte) (args : List Byte) (s : State) :
    startHandshake (s.taken x code args) = (startHandshake s).taken x code args := by
  have hport : (s.taken x code args).port = s.port := rfl
  unfold startHandshake
  rw [hport]
  split
  · exact strobeTest_taken code args { s with port := { s.port with handshake := .readyWait } }
  · rfl

/-! ### LABEL_RETRY and LABEL_DISCARD (R165, R166) -/

theorem labelRetry_bad (h : 8 ≤ lane.toNat) : labelRetry lane s = refuse .badArgument s := by
  simp only [labelRetry, finOf_ge h]

theorem labelRetry_none (h : lane.toNat = l.val) (hlabel : labelOf l s = none) :
    labelRetry lane s = refuse .empty s := by
  simp only [labelRetry, finOf_eq h, hlabel]

theorem labelRetry_unfailed (h : lane.toNat = l.val) (hlabel : labelOf l s = some b) (hstate : b.state ≠ .failed) :
    labelRetry lane s = refuse .wrongState s := by
  simp only [labelRetry, finOf_eq h, hlabel, if_neg hstate]

theorem labelRetry_failed (h : lane.toNat = l.val) (hlabel : labelOf l s = some b) (hstate : b.state = .failed) :
    labelRetry lane s =
      okay (composerTest (updateLabel l (fun q => { q with state := .queued, tries := 0 }) s)) := by
  simp only [labelRetry, finOf_eq h, hlabel, if_pos hstate]

theorem labelDiscard_bad (h : 8 ≤ lane.toNat) : labelDiscard lane s = refuse .badArgument s := by
  simp only [labelDiscard, finOf_ge h]

theorem labelDiscard_none (h : lane.toNat = l.val) (hlabel : labelOf l s = none) :
    labelDiscard lane s = refuse .empty s := by
  simp only [labelDiscard, finOf_eq h, hlabel]

theorem labelDiscard_printing (h : lane.toNat = l.val) (hlabel : labelOf l s = some b) (hstate : b.state = .printing) :
    labelDiscard lane s = refuse .busy s := by
  simp only [labelDiscard, finOf_eq h, hlabel, if_pos hstate]

theorem labelDiscard_removes (h : lane.toNat = l.val) (hlabel : labelOf l s = some b) (hstate : b.state ≠ .printing) :
    labelDiscard lane s = okay (handLabelDone l (removeLabel l s)) := by
  simp only [labelDiscard, finOf_eq h, hlabel, if_neg hstate]

theorem labelCommands : Claims.LabelCommands := by
  intro x lane s hs
  refine ⟨fun hbad => ⟨?_, ?_⟩, fun l hl => ⟨fun hnone => ⟨?_, ?_⟩, fun b hb => ⟨fun hstate => ?_, fun hstate => ?_,
    fun hstate => ?_, fun hstate => ?_⟩⟩⟩
  · exact fixedCommand_answers hs rfl (labelRetry_bad hbad)
  · exact fixedCommand_answers hs rfl (labelDiscard_bad hbad)
  · exact fixedCommand_answers hs rfl (labelRetry_none hl hnone)
  · exact fixedCommand_answers hs rfl (labelDiscard_none hl hnone)
  · exact fixedCommand_answers hs rfl (labelRetry_unfailed hl hb hstate)
  · exact fixedCommand_responds hs rfl (labelRetry_failed (s := s.taken x 0x45 [lane]) hl hb hstate)
  · exact fixedCommand_answers hs rfl (labelDiscard_printing hl hb hstate)
  · refine fixedCommand_answers hs rfl ((labelDiscard_removes (s := s.taken x 0x46 [lane]) hl hb hstate).trans ?_)
    exact congrArg okay (handLabelDone_taken 0x46 [lane] l (removeLabel l s))

/-! ### PORT_MODE (R167) -/

theorem portMode_bad (h : 3 ≤ mode.toNat) : portMode mode s = refuse .badArgument s := by
  have hnone : enumOf portModes mode = none := enumOf_bad h
  simp only [portMode, hnone]

theorem portMode_to (h : portModes[mode.toNat]? = some m) : portMode mode s = changeMode m s := by
  have hsome : enumOf portModes mode = some m := h
  simp only [portMode, hsome]

theorem changeMode_same (h : m = s.port.mode) : changeMode m s = okay s := by
  subst h
  unfold changeMode
  cases s.port.mode <;> rfl

theorem changeMode_offStream (h : s.port.mode = .off) : changeMode .stream s = refuse .wrongState s := by
  simp only [changeMode, h]

theorem changeMode_offDirect (h : s.port.mode = .off) : changeMode .direct s = okay (setMode .direct s) := by
  simp only [changeMode, h]

theorem changeMode_directOff (h : s.port.mode = .direct) :
    changeMode .off s = okay (setMode .off (flushPort s)) := by
  simp only [changeMode, h]

theorem changeMode_directStream_busy (h : s.port.mode = .direct) (hfifo : s.port.fifo ≠ []) :
    changeMode .stream s = refuse .busy s := by
  simp only [changeMode, h, if_neg hfifo]

theorem changeMode_directStream (h : s.port.mode = .direct) (hfifo : s.port.fifo = []) :
    changeMode .stream s = okay (composerTest (setMode .stream s)) := by
  simp only [changeMode, h, if_pos hfifo]

theorem changeMode_leavesStream (h : s.port.mode = .stream) (hm : m ≠ .stream) :
    changeMode m s = okay (setMode m (flushPort (returnPrinting s))) := by
  cases m with
  | off => simp only [changeMode, h]
  | direct => simp only [changeMode, h]
  | stream => exact absurd rfl hm

theorem returnPrinting_none (h : s.composing = none) : returnPrinting s = s := by
  simp only [returnPrinting, h]

theorem returnPrinting_some (h : s.composing = some l) :
    returnPrinting s = dropCurrent (updateLabel l (fun q => { q with state := .queued }) s) := by
  simp only [returnPrinting, h]

/-! ### PORT_WRITE (R168) -/

/-- The entries agree with their count (R210): the operands are those of SET_SAW_MAP, two bytes an entry. -/
theorem portWrite_argsAgree (heven : bytes.length % 2 = 0) (hmost : bytes.length ≤ 32) :
    argsAgree 0x51 (BitVec.ofNat 8 (bytes.length / 2) :: bytes) = true := by
  have hsame (args : List Byte) : argsAgree 0x51 args = argsAgree 0x15 args := rfl
  rw [hsame]
  exact sawMap_argsAgree heven hmost

theorem portWrite_elsewhere (h : s.port.mode ≠ .direct) : portWrite bytes s = refuse .wrongState s := if_pos h

theorem portWrite_bad (h : s.port.mode = .direct) (hnone : entriesOf bytes = none) :
    portWrite bytes s = refuse .badArgument s := by
  simp only [portWrite, h, hnone, ne_eq, not_true_eq_false, if_false]

/-- PORT_WRITE accepts as many entries as the FIFO has room for, and answers their number. -/
theorem portWrite_accepts {es : List Entry} (h : s.port.mode = .direct) (hsome : entriesOf bytes = some es) :
    let accepted := min es.length (32 - s.port.fifo.length)
    portWrite bytes s =
      (startHandshake { s with port := { s.port with fifo := s.port.fifo ++ es.take accepted } }, .ok,
        [BitVec.ofNat 8 accepted]) := by
  intro accepted
  have htaken : es.take (Config.fifoCapacity - s.port.fifo.length) = es.take accepted :=
    List.take_eq_take_min.trans (by rw [Nat.min_comm]; rfl)
  have hcount : (es.take accepted).length = accepted := by
    rw [List.length_take, Nat.min_eq_left (Nat.min_le_left ..)]
  simp only [portWrite, h, hsome, htaken, hcount, ne_eq, not_true_eq_false, if_false, u8]

theorem portCommands : Claims.PortCommands := by
  refine ⟨fun x mode s hs => ?_, fun x bytes s hs heven hmost => ⟨fun helse => ?_, fun hdirect hnone => ?_,
    fun es hdirect hsome => ?_⟩⟩
  · intro c flushed left
    refine ⟨fun hbad => fixedCommand_answers hs rfl (portMode_bad hbad), fun m hm => ?_⟩
    have hto : portMode mode (s.taken x 0x50 [mode]) = changeMode m (s.taken x 0x50 [mode]) := portMode_to hm
    refine ⟨fun hsame => ?_, fun hmode => ?_, fun hmode => ?_, fun hmode => ?_, fun hmode => ?_, fun hmode => ?_,
      fun hmode hleaves => ?_⟩
    · exact fixedCommand_answers hs rfl (hto.trans (changeMode_same hsame))
    · rintro rfl
      exact fixedCommand_answers hs rfl (hto.trans (changeMode_offStream hmode))
    · rintro rfl
      exact fixedCommand_answers hs rfl (hto.trans (changeMode_offDirect hmode))
    · rintro rfl
      exact fixedCommand_answers hs rfl (hto.trans (changeMode_directOff hmode))
    · rintro rfl hfifo
      exact fixedCommand_answers hs rfl (hto.trans (changeMode_directStream_busy hmode hfifo))
    · rintro rfl hfifo
      exact fixedCommand_responds hs rfl (hto.trans (changeMode_directStream hmode hfifo))
    · refine fixedCommand_answers hs rfl ((hto.trans (changeMode_leavesStream hmode hleaves)).trans ?_)
      cases hcurrent : s.composing with
      | none =>
        have hleft : left = s := by simp only [left, hcurrent]
        rw [hleft, returnPrinting_none (s := s.taken x 0x50 [mode]) hcurrent]
        rfl
      | some l =>
        have hleft : left = returnPrinting s := by
          rw [returnPrinting_some hcurrent]
          simp only [left, hcurrent]
          rfl
        rw [hleft, returnPrinting_some hcurrent, returnPrinting_some (s := s.taken x 0x50 [mode]) hcurrent]
        rfl
  · exact hostCommand_answers hs (sawMapArgs_fit hmost _) (portWrite_argsAgree heven hmost) (portWrite_elsewhere helse)
  · exact hostCommand_answers hs (sawMapArgs_fit hmost _) (portWrite_argsAgree heven hmost)
      (portWrite_bad hdirect hnone)
  · intro accepted
    refine hostCommand_answers hs (sawMapArgs_fit hmost _) (portWrite_argsAgree heven hmost) ?_
    rw [portWrite_accepts (s := s.taken x 0x51 _) hdirect hsome, ← startHandshake_taken]
    rfl

end Sys2Proof.Machine

section

open Sys2Proof Sys2Proof.Machine

/-- Settles O48: the composer test by the entries it feeds into the FIFO, each command by its case. -/
theorem labelsAndPortByCommand : Obligations.LabelsAndPortByCommand := ⟨composer, labelCommands, portCommands⟩

end

/-! PROOFS. The byte handshake of the Dispatch Port: a byte that completes (R157, R161), the table of PBUSY and of the end
of the strobe (R160), PFAULT (R162) and the timeout (R163, R164). -/

namespace Sys2Proof.Machine

open Sys2Proof

set_option Elab.async false

variable {s : State} {e : Entry} {rest : List Entry} {l : Fin 8} {b : Label}

/-! ### A byte completes (R157, R161) -/

/-- The state in which the head entry has left the FIFO (R161). -/
def byteDone (rest : List Entry) (s : State) : State :=
  { s with port := { s.port with timer := none, held := false, fifo := rest, handshake := .idle } }

theorem completeByte_direct (hhead : s.port.fifo = e :: rest) (hmode : s.port.mode = .direct) :
    completeByte s = startHandshake
      (if rest.length = getPar s .fifoThreshold then raise .fifoLow (byteDone rest s) else byteDone rest s) := by
  unfold completeByte
  rw [hhead]
  dsimp only
  split
  · rfl
  · next hstream => cases hstream.symm.trans hmode
  · next hoff => cases hoff.symm.trans hmode

theorem completeByte_stream (hhead : s.port.fifo = e :: rest) (hmode : s.port.mode = .stream)
    (hcurrent : s.composing = some l) :
    completeByte s = startHandshake
      (if e = endLabel then labelPrinted l (byteDone rest s) else fillOne (byteDone rest s)) := by
  unfold completeByte
  rw [hhead]
  dsimp only
  split
  · next hdirect => cases hdirect.symm.trans hmode
  · split
    · next k hk =>
      obtain rfl : k = l := Option.some.inj (hk.symm.trans hcurrent)
      rfl
    · next hnone => cases hnone.symm.trans hcurrent
  · next hoff => cases hoff.symm.trans hmode

theorem strobes : Claims.Strobes := by
  refine ⟨fun s e rest hready hhead => strobeTest_head hready hhead, fun s e rest hhead => ?_⟩
  refine ⟨completeByte_direct hhead, fun l hmode hcurrent => ⟨fun hmore => ?_, fun hlast => ?_⟩⟩
  · rw [completeByte_stream hhead hmode hcurrent, if_neg (show e ≠ endLabel from hmore)]
    rfl
  · rw [completeByte_stream hhead hmode hcurrent, if_pos (show e = endLabel from hlast)]
    rfl

/-! ### PBUSY and the end of the strobe (R160) -/

theorem exec_pbusyChange_same {high : Bool} (hheld : s.resetHeld = false) (h : s.port.pbusy = high) :
    exec (.pbusyChange high) s = .next s := by
  change execPbusyChange high s = _
  simp only [execPbusyChange, hheld, h, Bool.false_eq_true, if_false, if_true]

theorem exec_pbusyChange_edge {high : Bool} (hheld : s.resetHeld = false) (h : s.port.pbusy = !high) :
    exec (.pbusyChange high) s = .next (busyEdge high (setPbusy high s)) := by
  have hother : s.port.pbusy ≠ high := by rw [h]; exact Bool.not_ne_self high
  change execPbusyChange high s = _
  simp only [execPbusyChange, hheld, hother, Bool.false_eq_true, if_false]

/-- The table of R160, row by row. -/
theorem busyEdge_eq (high : Bool) (s : State) :
    busyEdge high s = match s.port.handshake, high with
      | .strobe, true => { s with port := { s.port with ackSeen := true } }
      | .strobe, false => { s with port := { s.port with fallSeen := s.port.fallSeen || s.port.ackSeen } }
      | .ackWait, true => { s with port := { s.port with ackSeen := true, handshake := .doneWait } }
      | .doneWait, false => completeByte s
      | .readyWait, _ => strobeTest s
      | _, _ => s := by
  unfold busyEdge
  cases s.port.handshake with
  | strobe =>
    cases high with
    | true => rfl
    | false =>
      cases hack : s.port.ackSeen with
      | true => simp only [if_true, Bool.or_true]
      | false => simp only [Bool.false_eq_true, if_false, Bool.or_false]
  | _ => cases high <;> rfl

theorem strobeDue_resetFree (hheld : s.resetHeld = false) :
    (!s.resetHeld && strobeDue s) = true ↔ s.port.handshake = .strobe ∧ s.port.strobeLeft = 0 := by
  rw [hheld]
  exact strobeDue_iff

theorem exec_strobeEnd_due (hheld : s.resetHeld = false) (hstrobe : s.port.handshake = .strobe)
    (hleft : s.port.strobeLeft = 0) : exec .strobeEnd s = .next (endStrobe s) :=
  congrArg Host.Outcome.next (if_pos ((strobeDue_resetFree hheld).2 ⟨hstrobe, hleft⟩))

theorem exec_strobeEnd_early (hheld : s.resetHeld = false)
    (h : s.port.handshake ≠ .strobe ∨ s.port.strobeLeft ≠ 0) : exec .strobeEnd s = .next s :=
  congrArg Host.Outcome.next (if_neg fun hdue => by
    obtain ⟨hstrobe, hleft⟩ := (strobeDue_resetFree hheld).1 hdue
    exact h.elim (· hstrobe) (· hleft))

theorem endStrobe_eq (hleft : s.port.strobeLeft = 0) :
    endStrobe s =
      let u := { s with port := { s.port with pstb := false } }
      if s.port.fallSeen then completeByte u
      else { u with port := { u.port with handshake := if s.port.ackSeen then .doneWait else .ackWait } } := by
  have hpin : { s with port := { s.port with pstb := false, strobeLeft := 0 } } =
      { s with port := { s.port with pstb := false } } := by rw [← hleft]
  unfold endStrobe
  rw [hpin]
  dsimp only
  cases s.port.ackSeen <;> rfl

theorem handshakeActs : Claims.Handshake := by
  intro s hheld
  refine ⟨fun high hsame => exec_pbusyChange_same hheld hsame, fun high hother => ?_, fun hstrobe hleft => ?_,
    exec_strobeEnd_early hheld⟩
  · rw [exec_pbusyChange_edge hheld hother, busyEdge_eq]
    rfl
  · rw [exec_strobeEnd_due hheld hstrobe hleft, endStrobe_eq hleft]

/-! ### PFAULT (R162) -/

theorem exec_pfaultChange_same {level : Bool} (hheld : s.resetHeld = false) (h : s.port.pfault = level) :
    exec (.pfaultChange level) s = .next s := by
  change execPfaultChange level s = _
  simp only [execPfaultChange, hheld, h, Bool.false_eq_true, if_false, if_true]

theorem exec_pfaultChange_asserted (hheld : s.resetHeld = false) (h : s.port.pfault = false) :
    exec (.pfaultChange true) s = .next (faultAsserted (setPfault true s)) := by
  change execPfaultChange true s = _
  simp only [execPfaultChange, hheld, h, Bool.false_eq_true, if_false, if_true]

theorem exec_pfaultChange_cleared (hheld : s.resetHeld = false) (h : s.port.pfault = true) :
    exec (.pfaultChange false) s = .next (faultCleared (setPfault false s)) := by
  change execPfaultChange false s = _
  simp only [execPfaultChange, hheld, h, Bool.true_eq_false, Bool.false_eq_true, if_false]

theorem faultAsserted_eq (s : State) :
    faultAsserted s = raise .printerFault (if s.port.timer = none then s
      else { s with port := { s.port with timer := none, held := true } }) := by
  unfold faultAsserted
  cases s.port.timer <;> rfl

theorem faultCleared_eq (s : State) :
    faultCleared s = strobeTest (if s.port.held = false then s
      else { s with port := { s.port with timer := some (getPar s .handshakeMs), held := false } }) := by
  unfold faultCleared
  cases s.port.held <;> rfl

/-! ### The timeout (R163, R164) -/

theorem exec_handshakeTimeout_early (h : s.port.timer ≠ some 0) : exec .handshakeTimeout s = .next s :=
  congrArg Host.Outcome.next (if_neg (by simp [h]))

theorem exec_handshakeTimeout_due (hheld : s.resetHeld = false) (h : s.port.timer = some 0) :
    exec .handshakeTimeout s = .next (portTimeout s) :=
  congrArg Host.Outcome.next (if_pos (by simp [hheld, h]))

theorem raise_port (k : EventKind) (s : State) : (raise k s).port = s.port := by
  have h := raise_frame k s
  unfold RaiseFrame at h
  rw [h]

theorem raise_composing (k : EventKind) (s : State) : (raise k s).composing = s.composing := by
  have h := raise_frame k s
  unfold RaiseFrame at h
  rw [h]

theorem raise_getPar (k : EventKind) (s : State) (p : Param) : getPar (raise k s) p = getPar s p := by
  have h := raise_frame k s
  unfold RaiseFrame at h
  rw [h]
  rfl

/-- The state after the flush and the event of a timeout (R163). -/
def timedOut (s : State) : State := raise .portTimeout (flushPort s)

theorem timedOut_mode (s : State) : (timedOut s).port.mode = s.port.mode := by
  rw [timedOut, raise_port]
  rfl

theorem portTimeout_unstreamed (h : s.port.mode ≠ .stream) : portTimeout s = timedOut s :=
  if_neg (ne_of_eq_of_ne (timedOut_mode s) h)

theorem portTimeout_streamed (h : s.port.mode = .stream) : portTimeout s = endTry (timedOut s) :=
  if_pos ((timedOut_mode s).trans h)

/-- The end of a try of the label named by CURRENT: the try is given back, or the label has failed (R164). -/
theorem endTry_label (hcurrent : s.composing = some l) (hlabel : labelOf l s = some b) :
    endTry s = composerTest (
      if b.tries < getPar s .labelRetries then
        dropCurrent (updateLabel l (fun q => { q with tries := q.tries + 1, state := .queued }) s)
      else raise .labelFailed (dropCurrent (updateLabel l (fun q => { q with state := .failed }) s))) := by
  have hlane : b.lane = l := by simpa using List.find?_some hlabel
  have hbound : s.composing.bind (fun l => labelOf l s) = some b := by rw [hcurrent]; exact hlabel
  unfold endTry
  rw [hbound]
  dsimp only
  rw [hlane]
  split <;> rfl

theorem faultsAndTimeouts : Claims.FaultsAndTimeouts := by
  intro s hheld
  refine ⟨fun level hsame => exec_pfaultChange_same hheld hsame, fun hclear => ?_, fun hset => ?_,
    exec_handshakeTimeout_early, fun hdue => ?_⟩
  · rw [exec_pfaultChange_asserted hheld hclear, faultAsserted_eq]
    rfl
  · rw [exec_pfaultChange_cleared hheld hset, faultCleared_eq]
    rfl
  · intro u idle
    rw [exec_handshakeTimeout_due hheld hdue]
    refine ⟨fun hmode => congrArg _ (portTimeout_unstreamed hmode), fun l b hmode hcurrent hlabel => ?_⟩
    intro back
    have hcurrent' : (timedOut s).composing = some l := (raise_composing .portTimeout (flushPort s)).trans hcurrent
    have hlabels : (timedOut s).labels = s.labels := raise_labels .portTimeout (flushPort s)
    have hlabel' : labelOf l (timedOut s) = some b := by rw [labelOf, hlabels]; exact hlabel
    have hretries : getPar (timedOut s) .labelRetries = getPar s .labelRetries :=
      raise_getPar .portTimeout (flushPort s) .labelRetries
    rw [portTimeout_streamed hmode, endTry_label hcurrent' hlabel', hretries]
    simp only [back, ← hlabels]
    rfl

end Sys2Proof.Machine

section

open Sys2Proof Sys2Proof.Machine

/-- Settles O49: a byte by the mode of the port, PBUSY and the strobe row by row, the timeout by the label named by
CURRENT. -/
theorem theByteHandshake : Obligations.TheByteHandshake := ⟨strobes, handshakeActs, faultsAndTimeouts⟩

end

/-! PROOFS. The frames of the Command Port and of the Station Link (R202, R210, R212, R176): the checks on a command
frame, a CRC taken over bytes and their own CRC, and which characters are a good reply. -/

namespace Sys2Proof.Machine

open Sys2Proof

variable {a : Fin 4} {first : Character} {rest got : List Character} {body : ReplyBody}

/-! ### Checks 1 to 3 on a command frame (R202, R210) -/

/-- A frame as R210 lays it out passes check 1: its LENGTH counts its bytes and its last byte is its CRC. -/
theorem frameFault_commandFrame (seq code : Byte) {args : List Byte} (h : args.length ≤ 33) :
    frameFault (commandFrame seq code args) =
      if !knownCode code then some .unknownCommand else if !argsAgree code args then some .badArgument else none := by
  obtain ⟨len, hlen, hcount⟩ : ∃ len : Byte, BitVec.ofNat 8 (args.length + 3) = len ∧ len.toNat = args.length + 3 :=
    ⟨_, rfl, by rw [BitVec.toNat_ofNat]; omega⟩
  have hbody : (len :: seq :: code :: args).length = len.toNat := hcount.symm
  have hframe : commandFrame seq code args =
      len :: seq :: code :: args ++ [crc8 (len :: seq :: code :: args)] := by rw [← hlen]; rfl
  have hcheck1 : 3 ≤ len.toNat ∧ len.toNat ≤ 36 ∧ (commandFrame seq code args).length = 1 + len.toNat ∧
      (commandFrame seq code args)[len.toNat]? = some (crc8 ((commandFrame seq code args).take len.toNat)) := by
    refine ⟨by omega, by omega, ?_, ?_⟩
    · rw [hframe, List.length_append, hbody, Nat.add_comm]; rfl
    · rw [hframe, ← hbody, List.take_left, List.getElem?_concat_length]
  have hargs : (args ++ [crc8 (len :: seq :: code :: args)]).take (len.toNat - 3) = args := by
    rw [hcount, Nat.add_sub_cancel, List.take_left]
  rw [hframe] at hcheck1 ⊢
  refine (if_pos hcheck1).trans ?_
  rw [List.append_eq, hargs]

theorem commandFramesPassTheirChecks : Claims.CommandFramesPassTheirChecks := by
  intro seq code args padding h
  refine ⟨?reaches, ?checks⟩
  case reaches =>
    have hlen : (BitVec.ofNat 8 (args.length + 3)).toNat = args.length + 3 := by rw [BitVec.toNat_ofNat]; omega
    have hwhole : (commandFrame seq code args).length = min (1 + (BitVec.ofNat 8 (args.length + 3)).toNat) 37 := by
      rw [hlen, commandFrame, List.length_append]
      simp only [List.length_cons, List.length_nil]
      omega
    exact (congrArg (fun n => (commandFrame seq code args ++ padding).take n) hwhole.symm).trans List.take_left
  case checks => simpa using frameFault_commandFrame seq code h

/-! ### A sequence of bytes followed by its own CRC (R210, R212) -/

theorem crc8Byte_self (c : Byte) : crc8Byte c c = 0 := by
  rw [crc8Byte, BitVec.xor_self]
  decide

/-- While no bit reaches the top, a step of the CRC-16 only shifts. -/
theorem crc16Bit_shifted (b : Byte) {k : Nat} (h : k < 8) :
    crc16Bit (b.setWidth 16 <<< k) = b.setWidth 16 <<< (k + 1) := by
  have hmsb : (b.setWidth 16 <<< k).msb = false := by
    rw [BitVec.msb_eq_getLsbD_last, BitVec.getLsbD_shiftLeft, BitVec.getLsbD_setWidth,
      BitVec.getLsbD_of_ge b _ (by omega)]
    simp
  rw [crc16Bit, if_neg (ne_true_of_eq_false hmsb), BitVec.shiftLeft_add]

/-- The high byte of a CRC, taken into it, leaves its low byte in the high place. -/
theorem crc16Byte_high (c : BitVec 16) : crc16Byte c (c.extractLsb' 8 8) = (c.extractLsb' 0 8).setWidth 16 <<< 8 := by
  have hlow : c ^^^ ((c.extractLsb' 8 8).setWidth 16 <<< 8) = (c.extractLsb' 0 8).setWidth 16 <<< 0 := by
    ext i hi
    by_cases h : i < 8
    · simp [h, BitVec.getLsbD_eq_getElem hi]
    · have hsplit : 8 + (i - 8) = i := by omega
      have hhigh : i - 8 < 8 := by omega
      simp [h, hsplit, hhigh, hi, BitVec.getLsbD_eq_getElem]
  rw [crc16Byte, hlow]
  simp only [crc16Bit_shifted, Nat.reduceAdd, Nat.reduceLT]

theorem crc16Byte_self (b : Byte) : crc16Byte (b.setWidth 16 <<< 8) b = 0 := by
  rw [crc16Byte, BitVec.xor_self]
  decide

theorem crcOfACheckedFrameIsZero : Claims.CrcOfACheckedFrameIsZero := by
  intro bytes
  constructor
  · have hlast : crc8 (bytes ++ [crc8 bytes]) = crc8Byte (crc8 bytes) (crc8 bytes) := List.foldl_append ..
    rw [hlast, crc8Byte_self]
  · have hlast : crc16 (bytes ++ be16 (crc16 bytes)) =
        crc16Byte (crc16Byte (crc16 bytes) ((crc16 bytes).extractLsb' 8 8)) ((crc16 bytes).extractLsb' 0 8) :=
      List.foldl_append ..
    rw [hlast, crc16Byte_high, crc16Byte_self]

/-! ### A request read from its bytes (R212) -/

theorem be16_of_append (hi lo : Byte) : be16 (hi ++ lo) = [hi, lo] := by
  rw [be16, BitVec.extractLsb'_append_eq_left, BitVec.extractLsb'_append_eq_right]

/-- What is read as a request is what a station sends for it (R178, R212). -/
theorem requestBytes_of_requestOf {kind : Byte} {args : List Byte} {request : Request}
    (h : requestOf kind args = some request) : requestBytes request = (kind, args) := by
  unfold requestOf at h
  split at h <;> cases h
  case h_1 hkind => obtain rfl : kind = 1 := BitVec.eq_of_toNat_eq hkind; rfl
  case h_2 hkind => obtain rfl : kind = 2 := BitVec.eq_of_toNat_eq hkind; rw [requestBytes, be16_of_append]
  case h_3 hkind => obtain rfl : kind = 3 := BitVec.eq_of_toNat_eq hkind; rfl
  case h_4 hkind => obtain rfl : kind = 4 := BitVec.eq_of_toNat_eq hkind; rw [requestBytes, be16_of_append]; rfl
  case h_5 hkind => obtain rfl : kind = 5 := BitVec.eq_of_toNat_eq hkind; rfl
  case h_6 hkind => obtain rfl : kind = 6 := BitVec.eq_of_toNat_eq hkind; rfl
  case h_12 => rfl

/-- A request that is read from at most 148 argument bytes is one a station can send. -/
theorem sendable_of_requestOf {kind reqId : Byte} {args : List Byte} {request : Request}
    (h : requestOf kind args = some request) (hlength : args.length ≤ 148) :
    (ReplyBody.request reqId request).Sendable := by
  unfold requestOf at h
  split at h <;> cases h
  · trivial
  · trivial
  · exact hlength
  · trivial
  · trivial
  · trivial
  · next hthree hone htwo hfour hfive hsix _ _ _ _ _ =>
    refine ⟨hlength, or_iff_not_imp_left.2 fun hne => ?_⟩
    have hzero : kind.toNat ≠ 0 := fun h => hne (BitVec.eq_of_toNat_eq h)
    have hothers : kind.toNat ≠ 1 ∧ kind.toNat ≠ 2 ∧ kind.toNat ≠ 3 ∧ kind.toNat ≠ 4 ∧ kind.toNat ≠ 5 ∧
        kind.toNat ≠ 6 := ⟨hone, htwo, hthree, hfour, hfive, hsix⟩
    omega

/-- The body that is read from the bytes between address and CRC is the one laid out as those bytes (R176, R212). -/
theorem bodyBytes_of_bodyOf {bytes : List Byte} (h : bodyOf bytes = some body) (hlength : bytes.length ≤ 151) :
    bodyBytes body = bytes ∧ body.Sendable := by
  unfold bodyOf at h
  split at h
  · cases h
    exact ⟨rfl, trivial⟩
  · next kind reqId args =>
    obtain ⟨request, hrequest, rfl⟩ := Option.map_eq_some_iff.1 h
    have hargs : args.length ≤ 148 := by
      simp only [List.length_cons] at hlength
      omega
    refine ⟨?_, sendable_of_requestOf hrequest hargs⟩
    rw [bodyBytes, requestBytes_of_requestOf hrequest]
    rfl
  · cases h

/-! ### What characters received amount to (R176) -/

/-- A reply is spoiled as soon as a character of its frame has a framing error or its LENGTH is out of bounds. -/
def SpoiledReply (first : Character) (rest : List Character) : Prop :=
  (∃ c ∈ (first :: rest).take (1 + first.byte.toNat), c.framing = true) ∨
    first.byte.toNat < 4 ∨ 154 < first.byte.toNat

theorem spoiledReply_iff :
    SpoiledReply first rest ↔ (((first :: rest).take (1 + first.byte.toNat)).any (·.framing) ||
      first.byte.toNat < 4 || 154 < first.byte.toNat) = true := by
  simp [SpoiledReply, or_assoc]

theorem not_spoiledReply_iff :
    ¬ SpoiledReply first rest ↔ (∀ c ∈ (first :: rest).take (1 + first.byte.toNat), c.framing = false) ∧
      4 ≤ first.byte.toNat ∧ first.byte.toNat ≤ 154 := by
  simp [SpoiledReply]

/-- What is received later does not mend a spoiled reply. -/
theorem SpoiledReply.append (h : SpoiledReply first rest) (more : List Character) :
    SpoiledReply first (rest ++ more) := by
  refine h.imp_left fun ⟨c, hc, hframing⟩ => ⟨c, ?_, hframing⟩
  rw [← List.cons_append, List.take_append]
  exact List.mem_append_left _ hc

theorem readReply_spoiled (h : SpoiledReply first rest) : readReply a (first :: rest) = .bad :=
  if_pos (spoiledReply_iff.1 h)

theorem readReply_otherAddress {c : Character} {more : List Character} (h : c.byte.toNat ≠ a.val + 1) :
    readReply a (first :: c :: more) = .bad := by
  by_cases hspoiled : SpoiledReply first (c :: more)
  · exact readReply_spoiled hspoiled
  · exact (if_neg (spoiledReply_iff.not.1 hspoiled)).trans (if_pos (by simpa using h))

/-- Fewer characters than the frame has do not yet make a reply. -/
theorem readReply_short (hclean : ¬ SpoiledReply first rest)
    (haddr : ∀ c more, rest = c :: more → c.byte.toNat = a.val + 1)
    (hshort : rest.length < first.byte.toNat) : readReply a (first :: rest) = .incomplete := by
  have hhead : ¬ (rest.head?.any (fun c => c.byte.toNat != a.val + 1)) = true := by
    cases rest with
    | nil => exact Bool.false_ne_true
    | cons c more => simpa using haddr c more rfl
  have hlen : (first :: rest).length < 1 + first.byte.toNat := by rw [List.length_cons]; omega
  exact (if_neg (spoiledReply_iff.not.1 hclean)).trans ((if_neg hhead).trans (if_pos hlen))

/-- A whole frame for the address polled is judged by its CRC and its body. -/
theorem readReply_whole {c : Character} {more : List Character} (hclean : ¬ SpoiledReply first (c :: more))
    (haddr : c.byte.toNat = a.val + 1) (hwhole : first.byte.toNat ≤ (c :: more).length) :
    readReply a (first :: c :: more) =
      checkReply (((first :: c :: more).take (1 + first.byte.toNat)).map (·.byte)) := by
  have hhead : ¬ ((c :: more).head?.any (fun c => c.byte.toNat != a.val + 1)) = true := by simpa using haddr
  have hlen : ¬ (first :: c :: more).length < 1 + first.byte.toNat := by
    rw [List.length_cons (as := c :: more)]; omega
  exact (if_neg (spoiledReply_iff.not.1 hclean)).trans ((if_neg hhead).trans (if_neg hlen))

/-- What has been received can be bad for good, the beginning of a frame, or a whole frame from the station polled. -/
theorem reply_cases (a : Fin 4) (first : Character) (rest : List Character) :
    (∀ more, readReply a (first :: rest ++ more) = .bad) ∨ readReply a (first :: rest) = .incomplete ∨
      ∃ c others, rest = c :: others ∧ ¬ SpoiledReply first (c :: others) ∧ c.byte.toNat = a.val + 1 ∧
        first.byte.toNat ≤ (c :: others).length := by
  by_cases hspoiled : SpoiledReply first rest
  · exact .inl fun more => readReply_spoiled (hspoiled.append more)
  cases rest with
  | nil =>
    have hleast : 4 ≤ first.byte.toNat := (not_spoiledReply_iff.1 hspoiled).2.1
    exact .inr (.inl (readReply_short hspoiled (fun _ _ h => nomatch h) (by rw [List.length_nil]; omega)))
  | cons c others =>
    by_cases haddr : c.byte.toNat = a.val + 1
    · by_cases hwhole : first.byte.toNat ≤ (c :: others).length
      · exact .inr (.inr ⟨c, others, rfl, hspoiled, haddr, hwhole⟩)
      · exact .inr (.inl (readReply_short hspoiled (fun _ _ h => by cases h; exact haddr) (by omega)))
    · exact .inl fun more => readReply_otherAddress haddr

/-- A whole frame is read alike, whatever is received after it (R173). -/
theorem readReply_whole_append {c : Character} {others : List Character} (hclean : ¬ SpoiledReply first (c :: others))
    (haddr : c.byte.toNat = a.val + 1) (hwhole : first.byte.toNat ≤ (c :: others).length) (more : List Character) :
    readReply a (first :: c :: others ++ more) = readReply a (first :: c :: others) := by
  have hframe : (first :: c :: (others ++ more)).take (1 + first.byte.toNat) =
      (first :: c :: others).take (1 + first.byte.toNat) :=
    List.take_append_of_le_length (l₁ := first :: c :: others) (by rw [List.length_cons (as := c :: others)]; omega)
  have hclean' : ¬ SpoiledReply first (c :: (others ++ more)) := by rwa [SpoiledReply, hframe]
  have hwhole' : first.byte.toNat ≤ (c :: (others ++ more)).length :=
    hwhole.trans (Nat.succ_le_succ (List.length_append ▸ Nat.le_add_right ..))
  rw [readReply_whole hclean haddr hwhole, ← hframe]
  exact readReply_whole hclean' haddr hwhole'

/-- A reply once found good or bad stays so, whatever is received after it (R176, log 15). -/
theorem readReply_append (h : readReply a got ≠ .incomplete) (more : List Character) :
    readReply a (got ++ more) = readReply a got := by
  cases got with
  | nil => exact absurd rfl h
  | cons first rest =>
    rcases reply_cases a first rest with hbad | hshort | ⟨c, others, rfl, hclean, haddr, hwhole⟩
    · rw [hbad more, ← hbad [], List.append_nil]
    · exact absurd hshort h
    · exact readReply_whole_append hclean haddr hwhole more

theorem badRepliesStayBad : Claims.BadRepliesStayBad := by
  intro a first rest n
  refine ⟨fun hlength => readReply_spoiled (.inr hlength), fun hframing => readReply_spoiled (.inl hframing), ?_, ?_⟩
  · rintro c more rfl haddr
    exact readReply_otherAddress haddr
  · intro more hbad
    rw [readReply_append (by rw [hbad]; exact Reception.noConfusion), hbad]

/-! ### Good replies (R176, R212) -/

/-- The frame of a body, by the LENGTH byte that counts it. -/
theorem replyFrame_counted {length addr : Byte} (h : length.toNat = (bodyBytes body).length + 3) :
    replyFrame addr body = length :: addr :: bodyBytes body ++ be16 (crc16 (length :: addr :: bodyBytes body)) := by
  have hlength : BitVec.ofNat 8 (min 255 ((addr :: bodyBytes body).length + 2)) = length := by
    rw [List.length_cons, ← h, Nat.min_eq_right (by omega), BitVec.ofNat_toNat, BitVec.setWidth_eq]
  rw [← hlength]
  rfl

/-- A frame that is good ends with its CRC, and its body is read from the bytes between. -/
theorem checkReply_good {frame : List Byte} (h : checkReply frame = .good body) :
    let counted := frame.take (frame.length - 2)
    frame = counted ++ be16 (crc16 counted) ∧ bodyOf (counted.drop 2) = some body := by
  intro counted
  unfold checkReply at h
  dsimp only at h
  split at h
  · next hcrc =>
    split at h
    · next hbody =>
      cases h
      exact ⟨by rw [← hcrc, List.take_append_drop], hbody⟩
    · cases h
  · cases h

/-- A whole frame of bytes that is good is the frame of what it says, and a station can send it. -/
theorem replyFrame_of_checkReply {length addr : Byte} {bytes : List Byte}
    (hlength : (length :: addr :: bytes).length = 1 + length.toNat) (hleast : 4 ≤ length.toNat)
    (hmost : length.toNat ≤ 154) (h : checkReply (length :: addr :: bytes) = .good body) :
    replyFrame addr body = length :: addr :: bytes ∧ body.Sendable := by
  obtain ⟨hframe, hbody⟩ := checkReply_good h
  obtain ⟨k, hk⟩ : ∃ k, (length :: addr :: bytes).length - 2 = k + 2 := ⟨length.toNat - 3, by omega⟩
  have hcounted : (length :: addr :: bytes).take (k + 2) = length :: addr :: bytes.take k := rfl
  rw [hk, hcounted] at hframe hbody
  have hread : bodyOf (bytes.take k) = some body := hbody
  have hcount : (bytes.take k).length = length.toNat - 3 := by
    simp only [List.length_cons] at hlength hk
    rw [List.length_take]
    omega
  obtain ⟨hbytes, hsend⟩ := bodyBytes_of_bodyOf hread (by omega)
  refine ⟨?_, hsend⟩
  rw [replyFrame_counted (length := length) (by rw [hbytes]; omega), hbytes]
  exact hframe.symm

/-- Characters without a framing error are those of a frame sent as their bytes. -/
theorem sent_map_byte {cs : List Character} (h : ∀ c ∈ cs, c.framing = false) : sent (cs.map (·.byte)) = cs := by
  rw [sent, List.map_map, List.map_congr_left (g := id), List.map_id]
  intro c hc
  exact congrArg (Character.mk c.byte) (h c hc).symm

/-- A whole frame from the station polled that is found good is the frame of what it says. -/
theorem replyFrame_of_readReply {c : Character} {others : List Character} (hclean : ¬ SpoiledReply first (c :: others))
    (haddr : c.byte.toNat = a.val + 1) (hwhole : first.byte.toNat ≤ (c :: others).length)
    (h : readReply a (first :: c :: others) = .good body) :
    body.Sendable ∧
      ∃ rest, first :: c :: others = sent (replyFrame (BitVec.ofNat 8 (a.val + 1)) body) ++ rest := by
  obtain ⟨hframing, hleast, hmost⟩ := not_spoiledReply_iff.1 hclean
  have htake : (first :: c :: others).take (1 + first.byte.toNat) =
      first :: c :: others.take (first.byte.toNat - 1) := by
    rw [show 1 + first.byte.toNat = first.byte.toNat - 1 + 2 by omega]
    rfl
  have hc : BitVec.ofNat 8 (a.val + 1) = c.byte := by rw [← haddr, BitVec.ofNat_toNat, BitVec.setWidth_eq]
  have hlength : (first.byte :: c.byte :: (others.take (first.byte.toNat - 1)).map (·.byte)).length =
      1 + first.byte.toNat := by
    simp only [List.length_cons, List.length_map, List.length_take] at hwhole ⊢
    omega
  rw [readReply_whole hclean haddr hwhole, htake] at h
  rw [htake] at hframing
  obtain ⟨hframe, hsend⟩ := replyFrame_of_checkReply hlength hleast hmost h
  refine ⟨hsend, others.drop (first.byte.toNat - 1), ?_⟩
  calc first :: c :: others
      = first :: c :: others.take (first.byte.toNat - 1) ++ others.drop (first.byte.toNat - 1) := by
        rw [List.cons_append, List.cons_append, List.take_append_drop]
    _ = sent (replyFrame (BitVec.ofNat 8 (a.val + 1)) body) ++ others.drop (first.byte.toNat - 1) := by
        rw [hc, hframe, ← sent_map_byte hframing]
        simp only [List.map_cons]

theorem goodRepliesAreReplyFrames : Claims.GoodRepliesAreReplyFrames := by
  intro a received body
  constructor
  · intro hgood
    cases received with
    | nil => cases hgood
    | cons first rest =>
      rcases reply_cases a first rest with hbad | hshort | ⟨c, others, rfl, hclean, haddr, hwhole⟩
      · have hbad := hbad []
        rw [List.append_nil, hgood] at hbad
        cases hbad
      · rw [hshort] at hgood
        cases hgood
      · exact replyFrame_of_readReply hclean haddr hwhole hgood
  · rintro ⟨hsend, rest, rfl⟩
    have haddr : (BitVec.ofNat 8 (a.val + 1)).toNat = a.val + 1 := by rw [BitVec.toNat_ofNat]; omega
    have hgood := readReply_sent haddr hsend
    rw [readReply_append (by rw [hgood]; exact Reception.noConfusion), hgood]

end Sys2Proof.Machine

section

open Sys2Proof Sys2Proof.Machine

/-- Settles O6: a frame's checks by its LENGTH and its own CRC, a reply by the cases of the characters received. -/
theorem framesPassTheirChecks : Obligations.FramesPassTheirChecks :=
  ⟨commandFramesPassTheirChecks, crcOfACheckedFrameIsZero, goodRepliesAreReplyFrames, badRepliesStayBad⟩

end

/-! PROOFS. The course of a poll: which station is polled, the POLL on the line, the characters of its reply, the misses
(R173, R175 to R177, R184). -/

namespace Sys2Proof.Machine

open Sys2Proof

variable {s : State} {a : Fin 4} {baud : Nat} {frame : List Byte} {carried abandoned : Bool} {got : List Character}

/-! ### Which station is polled (R175) -/

theorem pollOrder_getElem (pointer : Nat) {k : Nat} (h : k < (pollOrder pointer).length) :
    (pollOrder pointer)[k] = Fin.ofNat 4 (pointer + k) := by
  have hk : k < 4 := h
  interval_cases k <;> rfl

/-- The place of a station in the order of polling. -/
theorem pollOrder_place (pointer : Nat) (a : Fin 4) :
    Fin.ofNat 4 (pointer + (a.val + 4 - pointer % 4) % 4) = a := by
  have ha := a.isLt
  apply Fin.ext
  rw [Fin.val_ofNat]
  omega

/-- The first station in service after POLL_POINTER is polled next. -/
theorem nextStation_eq (ha : s.stations[a].state ≠ .disabled)
    (hfirst : ∀ b : Fin 4, (b.val + 4 - s.pollPointer % 4) % 4 < (a.val + 4 - s.pollPointer % 4) % 4 →
      s.stations[b].state = .disabled) : nextStation s = some a := by
  have hplace : (a.val + 4 - s.pollPointer % 4) % 4 < (pollOrder s.pollPointer).length := Nat.mod_lt _ (by decide)
  refine List.find?_eq_some_iff_getElem.2 ⟨bne_iff_ne.2 ha, _, hplace, ?_, fun k hk => ?_⟩
  · rw [pollOrder_getElem, pollOrder_place]
  · rw [pollOrder_getElem, hfirst _ (by rw [Fin.val_ofNat]; omega)]
    rfl

theorem nextStation_none (h : ∀ a : Fin 4, s.stations[a].state = .disabled) : nextStation s = none :=
  List.find?_eq_none.2 fun a _ => by rw [h a]; exact Bool.false_ne_true

theorem beginPoll_busy (h : s.transaction ≠ .idle) : beginPoll s = s := by
  unfold beginPoll
  split
  · next hidle _ => exact absurd hidle h
  · rfl

theorem beginPoll_none (h : nextStation s = none) : beginPoll s = s := by
  unfold beginPoll
  split
  · next hsome => rw [h] at hsome; cases hsome
  · rfl

theorem beginPoll_some (hidle : s.transaction = .idle) (h : nextStation s = some a) :
    beginPoll s = { s with
      pollPointer := a.val + 1,
      transaction := .sending a (getPar s .linkBaud) (pollFrame a s.stations[a].pendingAnswer)
        s.stations[a].pendingAnswer.isSome false } := by
  simp only [beginPoll, hidle, h]

/-! ### The POLL on the line (R173, R175, R184) -/

theorem linkCommand_released (h : s.resetHeld = false) (act : State → State) : linkCommand act s = .next (act s) := by
  rw [linkCommand, h, if_neg Bool.false_ne_true]

theorem exec_pollSent (h : s.resetHeld = false) : exec .pollSent s = .next (pollSent s) := linkCommand_released h _

theorem pollSent_opensWindow (h : s.transaction = .sending a baud frame carried false) :
    pollSent s = { s with transaction := .waiting a carried [], replyTimer := some (getPar s .linkReplyMs) } := by
  simp only [pollSent, h]
  rfl

theorem pollSent_abandoned (h : s.transaction = .sending a baud frame carried true) :
    pollSent s = beginPoll { s with transaction := .idle } := by
  simp only [pollSent, h]
  rfl

theorem pollSent_elsewhere (h : ∀ a baud frame carried abandoned,
    s.transaction ≠ .sending a baud frame carried abandoned) : pollSent s = s := by
  unfold pollSent
  split
  · next hsending => exact absurd hsending (h _ _ _ _ _)
  · rfl

theorem line_sending (hheld : s.resetHeld = false) (h : s.transaction = .sending a baud frame carried abandoned) :
    ldir s = true ∧ ltx s = .sending baud (frame.flatMap characterBits) := by
  simp only [ldir, ltx, hheld, h]
  exact ⟨rfl, rfl⟩

theorem line_idle (h : ∀ a baud frame carried abandoned, s.transaction ≠ .sending a baud frame carried abandoned) :
    ldir s = false ∧ ltx s = .idle := by
  unfold ldir ltx
  constructor
  · split
    · next hsending => exact absurd hsending (h _ _ _ _ _)
    · exact Bool.and_false _
  · split
    · rfl
    · split
      · next hsending => exact absurd hsending (h _ _ _ _ _)
      · rfl

theorem pollsAreSentInTurn : Claims.PollsAreSentInTurn := by
  refine ⟨fun s hidle hpointer => ⟨fun hdisabled => beginPoll_none (nextStation_none hdisabled), fun a ha hfirst =>
    beginPoll_some hidle (nextStation_eq ha hfirst)⟩, fun s => beginPoll_busy, fun s hheld => ?_⟩
  rw [exec_pollSent hheld]
  refine ⟨fun a baud frame carried h => ?_, fun a baud frame carried h => ?_, fun a baud frame carried abandoned h =>
    line_sending hheld h, fun h => ?_⟩
  · rw [pollSent_opensWindow h]
  · rw [pollSent_abandoned h]
  · rw [pollSent_elsewhere h]
    exact ⟨(line_idle h).1, (line_idle h).2, rfl⟩

/-! ### Replies (R176) -/

theorem exec_idleReply_wire {arrival : Arrival} {cs : List Character} (hheld : s.resetHeld = false)
    (hwire : arrival.wire = some cs) : exec (.idleReply arrival) s = .next (receive cs s) := by
  have hexec : exec (.idleReply arrival) s = .next (takeReply arrival .idle s) := linkCommand_released hheld _
  rw [hexec, takeReply, hwire]
  rfl

theorem repliesAreReceived : Claims.RepliesAreReceived := by
  refine ⟨fun s a carried arrival hs => ?heard, fun s arrival cs hheld hwire => ?wire⟩
  case heard =>
    have hexec : exec (.idleReply arrival) s = .next (takeReply arrival .idle s) := linkCommand_released hs.1 _
    rw [hexec, takeReply_heard (body := .idle) hs trivial]
    rfl
  case wire =>
    rw [exec_idleReply_wire hheld hwire]
    refine ⟨fun hclosed => by rw [receive_closed hclosed], fun a carried got hw =>
      ⟨fun hdecided => by rw [receive_decided hw hdecided], fun hopen =>
        ⟨fun hgood => by rw [receive_good hw hopen hgood]; rfl, fun hkept => by rw [receive_collects hw hopen hkept]⟩⟩⟩

/-! ### Misses (R177) -/

theorem exec_replyTimerExpiry (h : s.resetHeld = false) :
    exec .replyTimerExpiry s = .next (if s.replyTimer = some 0 then missPoll s else s) := linkCommand_released h _

/-- A miss takes an ONLINE station to OFFLINE at LINK_MISS_LIMIT, and no other. -/
theorem missedStation_goesOffline (limit : Nat) (t : Station) :
    t.state = .online ∧ (missedStation limit t).state = .offline ↔
      t.state = .online ∧ limit ≤ min 15 (t.misses + 1) := by
  refine and_congr_right fun honline => ?_
  by_cases hlimit : limit ≤ min 15 (t.misses + 1)
  · simp [missedStation, honline, hlimit]
  · simp [missedStation, honline, hlimit]

theorem missPoll_waiting (h : s.transaction = .waiting a carried got) :
    let t := s.stations[a]
    let u := { s with transaction := .idle, replyTimer := none,
                      stations := s.stations.set a (missedStation (getPar s .linkMissLimit) t) }
    missPoll s = beginPoll
      (if t.state = .online ∧ getPar s .linkMissLimit ≤ min 15 (t.misses + 1) then raise .stationOffline u else u) := by
  intro t u
  have hset : (u.stations[a]).state = (missedStation (getPar s .linkMissLimit) t).state := by simp [u]
  have hmiss : missPoll s = beginPoll
      (if t.state = .online ∧ u.stations[a].state = .offline then raise .stationOffline u else u) := by
    simp only [missPoll, h]
    rfl
  rw [hmiss, hset]
  simp only [missedStation_goesOffline]

theorem missesEndTheWindow : Claims.MissesEndTheWindow := by
  intro s hheld
  rw [exec_replyTimerExpiry hheld]
  refine ⟨fun hearly => by rw [if_neg hearly], fun a carried received hw hdue => ?_⟩
  rw [if_pos hdue, missPoll_waiting hw]
  rfl

end Sys2Proof.Machine

section

open Sys2Proof Sys2Proof.Machine

/-- Settles O50: the next station by its place in the order of polling, a reply by what is received, a miss by the
station it leaves. -/
theorem stationsArePolledInTurn : Obligations.StationsArePolledInTurn :=
  ⟨pollsAreSentInTurn, repliesAreReceived, missesEndTheWindow⟩

end

/-! PROOFS. The commands of the events: CLEAR_EVENTS (R198), SET_EVENT_ROUTE (R196), SET_ESCALATION (R197); the attention
lines (R195). -/

namespace Sys2Proof.Machine

open Sys2Proof

set_option Elab.async false

variable {s : State} {b : Byte} {bytes : List Byte}

/-! ### Event kinds by their codes (R211) -/

theorem eventIdx_eventKinds : ∀ i : Fin 32, eventIdx (eventKinds[i.val]'i.isLt) = i := by decide

theorem eventOf_of_code {i : Fin 32} (h : b.toNat = i.val) : ∃ k, eventOf b = some k ∧ eventIdx k = i :=
  ⟨_, by rw [eventOf, enumOf, h]; exact List.getElem?_eq_getElem i.isLt, eventIdx_eventKinds i⟩

theorem eventOf_bad (h : 32 ≤ b.toNat) : eventOf b = none := enumOf_bad h

/-! ### CLEAR_EVENTS (R198, R210) -/

theorem allOf_none {α : Type} {f : Byte → Option α} (hmem : b ∈ bytes) (hnone : f b = none) : allOf f bytes = none := by
  induction bytes with
  | nil => contradiction
  | cons c cs ih =>
    rcases List.mem_cons.1 hmem with rfl | hrest
    · simp only [allOf, hnone]
    · cases hc : f c <;> simp only [allOf, hc, ih hrest]

theorem clearEvents_bad (hmem : b ∈ bytes) (hbeyond : 32 ≤ b.toNat) : clearEvents bytes s = refuse .badArgument s := by
  simp only [clearEvents, allOf_none hmem (eventOf_bad hbeyond)]

/-- The items of the kinds after CLEAR_EVENTS with the codes `bytes`. -/
def clearedItems (bytes : List Byte) (events : Vector EventItem 32) : Vector EventItem 32 :=
  Vector.ofFn fun i => { events[i] with flag := events[i].flag && !bytes.contains (BitVec.ofNat 8 i.val) }

theorem clearedItems_get (events : Vector EventItem 32) (i : Fin 32) :
    (clearedItems bytes events)[i] =
      { events[i] with flag := events[i].flag && !bytes.contains (BitVec.ofNat 8 i.val) } := by
  simp [clearedItems]

theorem eventItems_ext {v w : Vector EventItem 32} (h : ∀ i : Fin 32, v[i] = w[i]) : v = w :=
  Vector.ext fun i hi => h ⟨i, hi⟩

theorem clearedItems_nil (events : Vector EventItem 32) : clearedItems [] events = events :=
  eventItems_ext fun i => by
    rw [clearedItems_get, List.contains_nil, Bool.not_false, Bool.and_true]

/-- The codes may be taken one after another. -/
theorem clearedItems_cons (events : Vector EventItem 32) :
    clearedItems (b :: bytes) events = clearedItems bytes (clearedItems [b] events) := by
  refine eventItems_ext fun i => ?_
  rw [clearedItems_get, clearedItems_get, clearedItems_get]
  simp only [List.contains_cons, List.contains_nil, Bool.or_false, Bool.not_or, Bool.and_assoc]

theorem code_iff (i j : Fin 32) (h : b.toNat = j.val) : BitVec.ofNat 8 i.val = b ↔ i = j := by
  rw [← BitVec.toNat_inj, BitVec.toNat_ofNat, h, Fin.ext_iff, Nat.mod_eq_of_lt (by omega)]

theorem clearFlag_eq {k : EventKind} (h : b.toNat = (eventIdx k).val) :
    clearFlag s k = { s with events := clearedItems [b] s.events } := by
  have hitems : modifyAt s.events (eventIdx k) (fun e => { e with flag := false }) = clearedItems [b] s.events := by
    refine eventItems_ext fun i => ?_
    rw [modifyAt_get, clearedItems_get]
    have hcode := code_iff i (eventIdx k) h
    rw [List.contains_cons, List.contains_nil, Bool.or_false]
    by_cases hk : i = eventIdx k
    · rw [if_pos hk, beq_iff_eq.2 (hcode.2 hk), Bool.not_true, Bool.and_false]
    · rw [if_neg hk, beq_eq_false_iff_ne.2 (mt hcode.1 hk), Bool.not_false, Bool.and_true]
  rw [clearFlag, hitems]

/-- Codes within the 32 name kinds, and the flags of these kinds are cleared one after another. -/
theorem namedKinds_cleared (h : ∀ b ∈ bytes, b.toNat < 32) : ∃ kinds, allOf eventOf bytes = some kinds ∧
    ∀ s, kinds.foldl clearFlag s = { s with events := clearedItems bytes s.events } := by
  induction bytes with
  | nil => exact ⟨[], rfl, fun s => by rw [clearedItems_nil]; rfl⟩
  | cons b bs ih =>
    obtain ⟨hcode, hrest⟩ := List.forall_mem_cons.1 h
    obtain ⟨k, hk, hidx⟩ := eventOf_of_code (i := ⟨b.toNat, hcode⟩) rfl
    obtain ⟨kinds, hkinds, hfold⟩ := ih hrest
    refine ⟨k :: kinds, by simp only [allOf, hk, hkinds], fun s => ?_⟩
    rw [List.foldl_cons, clearFlag_eq (congrArg Fin.val hidx).symm, hfold, clearedItems_cons (bytes := bs)]

theorem clearEvents_cleared (h : ∀ b ∈ bytes, b.toNat < 32) :
    clearEvents bytes s = okay { s with events := clearedItems bytes s.events } := by
  obtain ⟨kinds, hkinds, hfold⟩ := namedKinds_cleared h
  simp only [clearEvents, hkinds, hfold]

theorem clearEvents_argsAgree (hmost : bytes.length ≤ 32) :
    argsAgree 0x61 (BitVec.ofNat 8 bytes.length :: bytes) = true := by
  have hcounted (args : List Byte) : argsAgree 0x61 args = countAgrees 32 1 args := rfl
  have hcount : (BitVec.ofNat 8 bytes.length).toNat = bytes.length := by
    rw [BitVec.toNat_ofNat]; omega
  simp only [hcounted, countAgrees, hcount, hmost, Nat.one_mul, decide_true, beq_self_eq_true, Bool.and_self]

/-! ### SET_EVENT_ROUTE (R196) -/

section setEventRoute

variable {kind route masked severity : Byte}

theorem routeOf_route (h : route.toNat < 2) : enumOf routes route = some (if route = 0 then .attn0 else .attn1) := by
  have hroute : route = 0 ∨ route = 1 := by bv_omega
  rcases hroute with rfl | rfl <;> rfl

theorem setEventRoute_bad (h : 32 ≤ kind.toNat ∨ 2 ≤ route.toNat ∨ 2 ≤ masked.toNat ∨ 3 ≤ severity.toNat) :
    setEventRoute kind route masked severity s = refuse .badArgument s := by
  have hnone : eventOf kind = none ∨ enumOf routes route = none ∨ flagOf masked = none ∨
      enumOf severities severity = none := h.imp eventOf_bad (.imp enumOf_bad (.imp flagOf_bad enumOf_bad))
  unfold setEventRoute
  split
  · next hk hr hm hv => simp [hk, hr, hm, hv] at hnone
  · rfl

/-- The item of a kind as SET_EVENT_ROUTE leaves it. -/
def routedItem (route masked : Byte) (v : Severity) (item : EventItem) : EventItem :=
  { item with route := if route = 0 then .attn0 else .attn1, masked := decide (masked = 1), severity := v }

theorem setEventRoute_stored {i : Fin 32} {v : Severity} (hkind : kind.toNat = i.val) (hroute : route.toNat < 2)
    (hmasked : masked.toNat < 2) (hseverity : severities[severity.toNat]? = some v) :
    setEventRoute kind route masked severity s =
      okay { s with events := s.events.set i (routedItem route masked v s.events[i]) } := by
  obtain ⟨k, hk, rfl⟩ := eventOf_of_code hkind
  have hv : enumOf severities severity = some v := hseverity
  simp only [setEventRoute, hk, routeOf_route hroute, flagOf_flag (Nat.le_of_lt_succ hmasked), hv]
  rfl

end setEventRoute

/-! ### SET_ESCALATION (R197) -/

theorem setEscalation_stored (h : b.toNat < 2) : setEscalation b s = okay { s with escalation := decide (b = 0) } := by
  have hb : b = 0 ∨ b = 1 := by bv_omega
  rcases hb with rfl | rfl <;> rfl

theorem setEscalation_bad (h : 2 ≤ b.toNat) : setEscalation b s = refuse .badArgument s := by
  have hnone : enumOf firstSecond b = none := enumOf_bad h
  simp only [setEscalation, hnone]

/-! ### The attention lines (R195) -/

theorem attention_iff {r : Route} (h : s.resetHeld = false) :
    attention s r = true ↔
      ∃ i : Fin 32, s.events[i].flag = true ∧ s.events[i].masked = false ∧ s.events[i].route = r := by
  simp only [attention, h, Bool.not_false, Bool.true_and, List.any_eq_true, Vector.mem_toList_iff, Vector.mem_iff_getElem,
    Bool.and_eq_true, Bool.not_eq_true', beq_iff_eq, and_assoc]
  constructor
  · rintro ⟨_, ⟨i, hi, rfl⟩, hitem⟩
    exact ⟨⟨i, hi⟩, hitem⟩
  · rintro ⟨i, hitem⟩
    exact ⟨_, ⟨i.val, i.isLt, rfl⟩, hitem⟩

end Sys2Proof.Machine

section

open Sys2Proof Sys2Proof.Machine

/-- Settles O39: each command by the case of its operands, CLEAR_EVENTS one code after another; an attention line by the
items of the kinds. -/
theorem eventCommands : Obligations.EventCommands := by
  refine ⟨fun x bytes s hs hmost => ⟨fun hbeyond => ?clearBad, fun hwithin => ?cleared⟩,
    fun x kind route masked severity s hs => ⟨fun hbad => ?routeBad, fun i v hkind hroute hmasked hseverity => ?routed⟩,
    fun x value s hs => ⟨fun hvalue => ?escalation, fun hvalue => ?escalationBad⟩,
    fun s r hreleased => attention_iff hreleased⟩
  case clearBad =>
    obtain ⟨b, hmem, hb⟩ := hbeyond
    exact hostCommand_answers hs (Nat.succ_le_succ hmost) (clearEvents_argsAgree hmost) (clearEvents_bad hmem hb)
  case cleared =>
    exact ⟨{ s with events := clearedItems bytes s.events },
      hostCommand_answers hs (Nat.succ_le_succ hmost) (clearEvents_argsAgree hmost) (clearEvents_cleared hwithin), rfl,
      clearedItems_get s.events⟩
  case routeBad => exact fixedCommand_answers hs rfl (setEventRoute_bad hbad)
  case routed => exact fixedCommand_answers hs rfl (setEventRoute_stored hkind hroute hmasked hseverity)
  case escalation => exact fixedCommand_answers hs rfl (setEscalation_stored hvalue)
  case escalationBad => exact fixedCommand_answers hs rfl (setEscalation_bad hvalue)

end

/-! PROOFS. The command at the front of the queue (log 25), and the transactions of the Command Port that execute nothing:
their beginning and end, the bytes on MISO, and the answer to a bad frame (R201, R202, R203). -/

namespace Sys2Proof.Machine

open Sys2Proof

set_option Elab.async false

variable {s : State}

/-! ### A step with a command waiting (log 25) -/

theorem step_front {c : Instr} {rest : List Instr} (hq : s.pending = c :: rest) :
    step s = exec c { s with pending := rest } := by
  simp only [step, hq]

/-! ### When a frame is dealt with (R201, R204) -/

theorem takesFrame_iff : takesFrame s = true ↔ s.Listens := by
  simp [takesFrame, State.Listens]

/-- With ACTIVE clear no frame is dealt with. -/
theorem takesFrame_inactive (h : s.cmd.active = false) : takesFrame s = false := by
  rw [takesFrame, h, Bool.and_false]

/-- With ACTIVE clear the transaction of a command changes nothing but SS (R201). -/
theorem hostFrame_inactive (h : s.cmd.active = false) (x : Xfer) (code : Byte) (args : List Byte)
    (body : State → State) : hostFrame x code args body s = .next (raiseSs s) := by
  simp [hostFrame, takesFrame_inactive h]

/-! ### The beginning and the end of a transaction (R201, R203) -/

theorem execTransactionBegin_falls (hr : s.resetHeld = false) (hss : s.cmd.ssLow = false) :
    execTransactionBegin s = .next { s with cmd :=
      { s.cmd with active := true, rx := [], rxPartial := 0, txIndex := 0, ssLow := true } } := by
  simp [execTransactionBegin, hr, hss]

/-- The partial byte is discarded, and no byte of PENDING has gone out whole. -/
theorem execEmptyTransaction_listens (hs : s.Listens) (n : Fin 8) :
    execEmptyTransaction n s = .next { s with cmd :=
      { s.cmd with active := false, rx := [], rxPartial := 0, txIndex := 0, ssLow := false } } := by
  rw [execEmptyTransaction, if_pos (takesFrame_iff.mpr hs), endTransfer, Nat.zero_min]

theorem execEmptyTransaction_inactive (h : s.cmd.active = false) (n : Fin 8) :
    execEmptyTransaction n s = .next (raiseSs s) := by
  simp [execEmptyTransaction, takesFrame_inactive h]

theorem execBadFrame_inactive (h : s.cmd.active = false) (mosi : List Byte) :
    execBadFrame mosi s = .next (raiseSs s) := by
  simp [execBadFrame, takesFrame_inactive h]

/-- NOP leaves PENDING as its transaction found it. -/
theorem execNop_listens (hs : s.Listens) (x : Xfer) : execNop x s = .next (s.taken x 0x00 []) :=
  hostFrame_listens x 0x00 [] _ s hs (Nat.zero_le _) (argsAgree_fixed rfl)

/-! ### MISO (R201) -/

theorem misoBytes_listens (hs : s.Listens) (hss : s.cmd.ssLow = true) (n : Nat) :
    misoBytes n s = some ((s.cmd.response ++ List.replicate n 0).take n) := by
  obtain ⟨hreset, hactive⟩ := hs
  simp [misoBytes, hreset, hactive, hss]

theorem misoBytes_ssHigh (hss : s.cmd.ssLow = false) (n : Nat) : misoBytes n s = none := by
  simp [misoBytes, hss]

/-- The bytes of a list in order and then bytes of 0, `n` in all. -/
theorem getElem?_take_append_zeros (bytes : List Byte) {n i : Nat} (h : i < n) :
    ((bytes ++ List.replicate n 0).take n)[i]? = some (bytes[i]?.getD 0) := by
  rw [List.getElem?_take_of_lt h]
  by_cases hi : i < bytes.length
  · rw [List.getElem?_append_left hi, List.getElem?_eq_getElem hi, Option.getD_some]
  · have hi : bytes.length ≤ i := Nat.le_of_not_lt hi
    rw [List.getElem?_append_right hi, List.getElem?_replicate_of_lt (by omega), List.getElem?_eq_none hi,
      Option.getD_none]

theorem transactionsBeginAndEnd : Claims.TransactionsBeginAndEnd := by
  refine ⟨fun s hr hss => execTransactionBegin_falls hr hss, fun n s hs => execEmptyTransaction_listens hs n,
    fun x s hs => execNop_listens hs x, fun n s => ⟨fun hs hss => ?driven, fun hss => misoBytes_ssHigh hss n⟩,
    fun s _ hinactive => ⟨fun n => execEmptyTransaction_inactive hinactive n,
      fun x => hostFrame_inactive hinactive x 0x00 [] id, fun mosi => execBadFrame_inactive hinactive mosi⟩⟩
  case driven =>
    refine ⟨_, misoBytes_listens hs hss n, ?_, fun i hi => getElem?_take_append_zeros s.cmd.response hi⟩
    rw [List.length_take, List.length_append, List.length_replicate]
    omega

/-! ### Bad frames (R202) -/

section badFrame
variable {mosi : List Byte} (hs : s.Listens) (hbytes : mosi ≠ [])
include hs hbytes

theorem execBadFrame_fault {status : Status} (hfault : frameFault (rxOf mosi) = some status) :
    execBadFrame mosi s = .next (respond (rxByte (rxOf mosi) 1) (rxByte (rxOf mosi) 2) status []
      (endTransfer (rxOf mosi) mosi.length s)) := by
  simp [execBadFrame, takesFrame_iff.mpr hs, hbytes, hfault]

/-- A frame that fails no check is no command of the row (log 20). -/
theorem execBadFrame_sound (hsound : frameFault (rxOf mosi) = none) : execBadFrame mosi s = .refused .illFormed := by
  simp [execBadFrame, takesFrame_iff.mpr hs, hbytes, hsound]

end badFrame

theorem badFramesAreAnsweredUnexecuted : Claims.BadFramesAreAnsweredUnexecuted :=
  fun _ _ hs hbytes => ⟨fun _ hfault => execBadFrame_fault hs hbytes hfault, execBadFrame_sound hs hbytes⟩

end Sys2Proof.Machine

section

open Sys2Proof Sys2Proof.Machine

/-- Settles O1: the queue's front is the command a step executes. -/
theorem stepRunsTheFrontCommand : Obligations.StepRunsTheFrontCommand := fun _ _ _ hq => step_front hq

/-- Settles O5: a rise of SS by whether a transaction is in progress, a bad frame by the check it fails. -/
theorem transactionsAndBadFrames : Obligations.TransactionsAndBadFrames :=
  ⟨transactionsBeginAndEnd, badFramesAreAnsweredUnexecuted⟩

end
